-- ==== Sys2Proof/Word.lean ====
section
/-!
DEFINITION. The words of the Wadzen WZ-640: bytes of the serial frames, 32-bit belt positions and
microsecond times, track ids. Everything the manual only counts is a `Nat` or an `Int`; a bit vector
stands where the manual wraps, masks or ships a value as bits.
-/

namespace Sys2Proof

/-- One byte of a frame on the control link or a head port (R167). -/
abbrev Byte := BitVec 8

/-- A belt position: an unsigned 32-bit count taken modulo 2^32 (section 0.8, R4). -/
abbrev Pos := BitVec 32

/-- A reading of the microsecond time base, which wraps modulo 2^32 (R24). -/
abbrev Time := BitVec 32

/-- The 16-bit track id of a record (R41). -/
abbrev TrackId := BitVec 16

/-- A nozzle mask: bit i is set when member i of the bank belongs to it (10.9.6). -/
abbrev Mask := BitVec 8

/-- A set of flags in the layout of 10.9.4. -/
abbrev FlagMask := BitVec 32

/-- A bank index as the link names it: 0–7 are U0–U7, 8–15 are D0–D7 (R96). -/
abbrev BankId := Fin 16

/-- A member of a bank: member i is the nozzle in column 8n+i of the bank's bar (R96). -/
abbrev Member := Fin 8

/-- A nozzle's place in the health map: 0–63 are U00–U63, 64–127 are D00–D63 (R145, R150). -/
abbrev NozzleId := Fin 128

/-- A class code (R65). -/
abbrev ClassCode := Fin 32

/-- The coil sense returns of the 128 nozzle drives as they stand at an event: bit n is set when the
coil of nozzle n checks good if it is driven at that event (R146). It is an input of every event at
which a nozzle may be driven. -/
abbrev Coils := BitVec 128

end Sys2Proof
end

