-- ==== Sys2Proof/Syntax.lean ====
section
/-!
DEFINITION. The commands of the WZ-640: one constructor per row of spec/opcode_table.json, in the
table's order. An event carries the input it comes with (line levels, a current, the coil sense
returns, a byte); a request carries its frame's TAG and payload, so that the length test, the
locator and every field are the meaning's own to read (R170, R172).
-/

namespace Sys2Proof

/-- The two sensor heads (0.6). Head A's strobe is channel SA, head B's is SB. -/
inductive Head where
  | a | b
  deriving DecidableEq, Repr

/-- The three serial receivers (0.3). -/
inductive Port where
  | control
  | head (h : Head)
  deriving DecidableEq, Repr

/-- The strobe lines that a channel tests (R25). MX has no line. -/
inductive Line where
  | sa | sb | bm
  deriving DecidableEq, Repr

/-- One command: an event at the part's lines or timers, or the service of one request. -/
inductive Instr where
  /-- POWER_ON (R162): the supply is applied, with the levels then present on ENC_A, ENC_B and FIRE_EN. -/
  | powerOn (encA encB fireEn : Bool)
  /-- ENCODER_EDGE (R2): the levels of ENC_A and ENC_B after a change. -/
  | encoderEdge (encA encB : Bool) (coils : Coils)
  /-- SPEED_SAMPLE (R8). -/
  | speedSample (coils : Coils)
  /-- STALL_TIMER_EXPIRY (R10). -/
  | stallTimerExpiry (coils : Coils)
  /-- ACTIVE_EDGE (R25): a strobe line changes to the level `high`. -/
  | activeEdge (line : Line) (high : Bool)
  /-- STROBE_RETURN (R25): a strobe line changes to the level `high`. -/
  | strobeReturn (line : Line) (high : Bool)
  /-- FILTER_EXPIRY (R25). -/
  | filterExpiry (line : Line)
  /-- DEADLINE_EXPIRY (R30): of the entry of this number in the head's channel. -/
  | deadlineExpiry (head : Head) (seq : Byte)
  /-- FRAME_ACCEPTED (R169): on the control link. -/
  | frameAccepted (kind tag : Byte) (payload : List Byte)
  /-- FRAME_FAULT (R168). -/
  | frameFault (port : Port)
  /-- FRAME_TIMER_EXPIRY (R168). -/
  | frameTimerExpiry (port : Port)
  /-- REPORT (R35): a REPORT frame of the head, with its payload. -/
  | report (head : Head) (payload : List Byte) (coils : Coils)
  /-- HEAD_STATE (R33): a HEAD_STATE frame of the head, with its payload. -/
  | headState (head : Head) (payload : List Byte) (coils : Coils)
  /-- SILENCE_TIMER_EXPIRY (R33). -/
  | silenceTimerExpiry (head : Head) (coils : Coils)
  /-- WAVE (R112): the next later wave of an OPEN entry. -/
  | wave (bank : BankId) (track : TrackId) (coils : Coils)
  /-- NOZZLE_CLOSING (R112). -/
  | nozzleClosing (bank : BankId) (member : Member)
  /-- PULSE_EXPIRY (R113). -/
  | pulseExpiry (bank : BankId) (track : TrackId)
  /-- RECHARGE_EXPIRY (R114). -/
  | rechargeExpiry (bank : BankId) (coils : Coils)
  /-- SWITCH_EXPIRY (R115). -/
  | switchExpiry (bank : BankId) (coils : Coils)
  /-- FIRE_ENABLE_FALL (R118). -/
  | fireEnableFall
  /-- FIRE_ENABLE_RISE (R118). -/
  | fireEnableRise (coils : Coils)
  /-- PURGE_TIMER_EXPIRY (R127). -/
  | purgeTimerExpiry (bank : BankId) (coils : Coils)
  /-- PURGE_EXPIRY (R133). -/
  | purgeExpiry (bank : BankId)
  /-- CONDITIONING_STEP_EXPIRY (R135). -/
  | conditioningStepExpiry (bank : BankId) (coils : Coils)
  /-- PRESSURE_SAMPLE (R139): with the current on PRS_IN in microamperes. -/
  | pressureSample (microamps : Nat)
  /-- STATUS (R172). -/
  | status (tag : Byte) (payload : List Byte)
  /-- CLEAR_FLAGS (R179). -/
  | clearFlags (tag : Byte) (payload : List Byte) (coils : Coils)
  /-- GET (R165). -/
  | get (tag : Byte) (payload : List Byte)
  /-- SET (R165). -/
  | set (tag : Byte) (payload : List Byte) (coils : Coils)
  /-- SAVE (R164). -/
  | save (tag : Byte) (payload : List Byte)
  /-- SAVE_COMPLETE (R164): the 200 ms write is over. -/
  | saveComplete
  /-- START (R154). -/
  | start (tag : Byte) (payload : List Byte) (coils : Coils)
  /-- STOP (R156). -/
  | stop (tag : Byte) (payload : List Byte)
  /-- ABORT_RUN (R159). -/
  | abortRun (tag : Byte) (payload : List Byte)
  /-- RESUME (R160). -/
  | resume (tag : Byte) (payload : List Byte)
  /-- RESET (R161): the request; the reset itself is WARM_RESET. -/
  | reset (tag : Byte) (payload : List Byte)
  /-- WARM_RESET (R161). -/
  | warmReset
  /-- READ (R175): with a locator. -/
  | read (tag : Byte) (payload : List Byte)
  /-- SHORT_READ (R177): a READ of LEN 1. -/
  | shortRead (tag : Byte) (payload : List Byte)
  /-- WRITE_ROUTE (R68). -/
  | writeRoute (tag : Byte) (payload : List Byte)
  /-- WRITE_NOZZLE (R150). -/
  | writeNozzle (tag : Byte) (payload : List Byte)
  /-- FENCE (R119). -/
  | fence (tag : Byte) (payload : List Byte)
  /-- UNFENCE (R120). -/
  | unfence (tag : Byte) (payload : List Byte) (coils : Coils)
  /-- SET_LEVEL (R121). -/
  | setLevel (tag : Byte) (payload : List Byte)
  /-- LATCH_WATCH (R23). -/
  | latchWatch (tag : Byte) (payload : List Byte)
  /-- LATCH_NOW (R28). -/
  | latchNow (tag : Byte) (payload : List Byte)
  /-- INJECT (R60). -/
  | inject (tag : Byte) (payload : List Byte) (coils : Coils)
  /-- CLEAR_TALLIES (R63). -/
  | clearTallies (tag : Byte) (payload : List Byte)
  /-- UNKNOWN_KIND (R170): a request frame whose KIND the part does not know. -/
  | unknownKind (kind tag : Byte) (payload : List Byte)
  /-- FRAME_SENT (R171): the transmitter finishes a frame. -/
  | frameSent
  /-- BYTE_RECEIVED (R168): with whether its stop bit was received. -/
  | byteReceived (port : Port) (byte : Byte) (stopBit : Bool) (coils : Coils)
  /-- POWER_FAILURE (R164). -/
  | powerFailure
  deriving DecidableEq, Repr

end Sys2Proof
end

