-- ==== Sys2Proof/Decode.lean ====
section
/-!
DEFINITION. The command that a table word spells. The WZ-640 is a block: it decodes no instruction
words, and no row of spec/opcode_table.json gives bits (every row's "fields" is empty), so no word
spells a command. The bytes of the link's frames are read by BYTE_RECEIVED and by the meanings of
the requests.
-/

namespace Sys2Proof

/-- No row of the table gives bits, so no word spells a command. -/
def decodeTableWord (_nbits _w : Nat) : Option Instr := none

end Sys2Proof
end

