-- ==== Sys2Proof/Config.lean ====
section
/-!
DEFINITION. What is fixed for the part: its capacities, its fixed times, and the values the manual
leaves open. An open value is an opaque constant with no body, so nothing can be proved about it.
-/

namespace Sys2Proof.Config

/-- The Track Store holds up to 512 records (R40). -/
def storeCapacity : Nat := 512

/-- A bank's pulse queue holds at most 16 entries (R101). -/
def queueCapacity : Nat := 16

/-- SA and SB keep 16 captures (2.1). -/
def headFifoDepth : Nat := 16

/-- The request queue holds up to 2 frames (R169). -/
def requestCapacity : Nat := 2

/-- The notice queue never holds more than 8 notices (R180). -/
def noticeCapacity : Nat := 8

/-- The largest payload of a frame (R167). -/
def maxPayload : Nat := 240

/-- The maximum of a 32-bit tally (R61). -/
def tallyMax : Nat := 4294967295

/-- The maximum of a port's frame error count (R31). -/
def frameErrorMax : Nat := 65535

/-- The frame timer: 10 ms from SYNC (R168), in microseconds. -/
def frameTimeout : Nat := 10000

/-- The speed sample timer expires every 1 ms (R8), in microseconds. -/
def samplePeriod : Nat := 1000

/-- The pressure timer expires every 100 ms (R139), in microseconds. -/
def pressurePeriod : Nat := 100000

/-- The write of the stored copy takes 200 ms (R164), in microseconds. -/
def saveTime : Nat := 200000

/-- One byte on the line takes 10 µs (R167). -/
def byteTime : Nat := 10

/-- The largest distance ahead of TC at which INJECT takes a piece (R60). -/
def injectReach : Int := 16777215

/-- FREE VALUE. STATUS gives the time left to a purge timer in whole seconds and to a purge expiry in
whole milliseconds (10.9.5), and no rule says how a remainder is rounded: true when the time left
(in microseconds) is rounded up, false when it is rounded down. DESIGN CHOICE, assumption 12. -/
opaque statusRoundsUp : Nat → Bool

/-- FREE VALUE. The four bytes STATUS carries for the last measured loop while there is none (10.9.5
gives a presence bit and no value). DESIGN CHOICE, assumption 13. -/
opaque absentLoop : BitVec 32

end Sys2Proof.Config
end

