-- ==== Sys2Proof/Machine/State.lean ====
section
/-!
DEFINITION. The state of the WZ-640 as plain data, block by block (0.5), and the state right after
power-on. The values written as field defaults are the ones the spec gives for power-on (R20, R22,
R31, R33, R59, R61, R96, R126, R140, R145, R153, R162, section 10.8) and the default settings of
each chapter; `State.reset` is the power-on of a part that has never been saved.
-/

namespace Sys2Proof.Machine

/-! ### Enumerated values -/

/-- Why a step may stop. No rule of the manual stops the part on a command, so there is no reason. -/
inductive Fault where
  deriving DecidableEq, Repr

/-- Why a command may have no meaning. -/
inductive Refusal where
  /-- Raised by exec's arm for a command that has no meaning yet; safe. No arm raises it now. -/
  | notModelled (mnemonic : String)
  deriving DecidableEq, Repr

/-- Decode mode (R1). -/
inductive DecodeMode where
  | x1 | x2 | x4
  deriving DecidableEq, Repr

/-- Direction (R1). -/
inductive Direction where
  | normal | inverted
  deriving DecidableEq, Repr

/-- Motion state (R10, R11). -/
inductive Motion where
  | stopped | moving | reversing
  deriving DecidableEq, Repr

/-- The action of a crossed travel limit (R15). -/
inductive LimitAction where
  | note | suspend | halt
  deriving DecidableEq, Repr

/-- The pressure policy (R142). -/
inductive PressurePolicy where
  | note | shed | halt
  deriving DecidableEq, Repr

/-- Active edge of a strobe line (R21). -/
inductive ActiveEdge where
  | rising | falling
  deriving DecidableEq, Repr

/-- Filter class of a strobe line (R21). -/
inductive FilterClass where
  | f20 | f100 | f500 | f2000
  deriving DecidableEq, Repr

/-- Latch mode (R21). -/
inductive LatchMode where
  | first | every
  deriving DecidableEq, Repr

/-- The four strobe channels (2.1). -/
inductive Channel where
  | sa | sb | bm | mx
  deriving DecidableEq, Repr

/-- Manifold pressure level (R99). -/
inductive Level where
  | low | high
  deriving DecidableEq, Repr

/-- Route destination (R65). -/
inductive Destination where
  | pass | up | down
  deriving DecidableEq, Repr

/-- Conflict policy (R72). -/
inductive Policy where
  | degrade | yield
  deriving DecidableEq, Repr

/-- Nozzle open order (R111). -/
inductive OpenOrder where
  | ascending | centreOut | alternate
  deriving DecidableEq, Repr

/-- The two nozzle bars (0.6). -/
inductive Bar where
  | up | down
  deriving DecidableEq, Repr

/-- Causes of a miss or of a lost part (3.1.1). -/
inductive Cause where
  | late | slow | conflict | unavailable | inhibited | suspended | lateStart | pressure
  deriving DecidableEq, Repr

/-- The result of a part (R52). -/
inductive PartResult where
  | waiting | opened | done | doneDegraded
  | lost (cause : Cause)
  deriving DecidableEq, Repr

/-- The state of a track record (R39). -/
inductive RecState where
  | joining | ready | planned | firing | fired | degraded | partHit | missed | passed
  deriving DecidableEq, Repr

/-- The state of a pulse entry (R100). -/
inductive EntryState where
  | waiting | pending | opened
  deriving DecidableEq, Repr

/-- The kind of a purge (R126). -/
inductive PurgeKind where
  | opportunistic | forced
  deriving DecidableEq, Repr

/-- A nozzle's grade (R145). -/
inductive Grade where
  | ok | suspect | faulty
  deriving DecidableEq, Repr

/-- The cause of the entry to HALTED (R153, R158). -/
inductive HaltCause where
  | speedLimit | reverseLimit | pressure | host
  deriving DecidableEq, Repr

/-- The run state; the halt cause stands with HALTED and in no other state (R153). -/
inductive RunState where
  | setup | conditioning | run | drain
  | halted (cause : HaltCause)
  deriving DecidableEq, Repr

/-- The 24 flags, in the order of their positions (10.9.4). -/
inductive Flag where
  | powerUp | settingsDefaulted | beltStopSeen | phaseErr | slip | limitSpeed | limitReverse
  | strobeOverrunA | strobeOverrunB | unreportedA | unreportedB | orphanA | orphanB | reportClamped
  | headLostA | headLostB | storeFull | pressureLow | nozzleFault | bankAutoFenced | purgeForced
  | inhibited | linkFault | noticeDropped
  deriving DecidableEq, Repr

/-! ### Working settings (R163) -/

/-- One entry of the Route Table (R65), with the default entry of R67. -/
structure Route where
  destination : Destination := .pass
  level : Level := .low
  dmin : Nat := 4
  dmax : Nat := 80
  leadPad : Nat := 8
  spanPad : Nat := 1
  precedence : Nat := 0
  minConfidence : Nat := 0
  policy : Policy := .yield
  deriving DecidableEq, Repr

/-- The settings of one strobe line's channel (R21). -/
structure LatchSettings where
  edge : ActiveEdge := .rising
  filter : FilterClass := .f100
  mode : LatchMode := .every
  deriving DecidableEq, Repr

/-- The eight settings of a bank (R97): tRC and wave gap in half-milliseconds, tSW and tPG in
milliseconds, tPI in seconds. -/
structure BankSettings where
  tRC : Nat := 4
  tSW : Nat := 20
  tPG : Nat := 50
  tPI : Nat := 120
  maxDebt : Nat := 4
  mso : Nat := 8
  openOrder : OpenOrder := .ascending
  waveGap : Nat := 1
  deriving DecidableEq, Repr

/-- The working settings of every block (R163), with the defaults of R1, R9, R10, R12, R16, R21, R30,
R33, R42, R67, R79, R97 and R142. -/
structure Settings where
  decodeMode : DecodeMode := .x4
  direction : Direction := .normal
  smoothing : Nat := 3
  stallWindow : Nat := 200
  overspeedLimit : Nat := 0
  reverseLimit : Nat := 400
  limitAction : LimitAction := .note
  loopLength : Nat := 0
  slipTolerance : Nat := 20
  slipMargin : Nat := 24
  sa : LatchSettings := {}
  sb : LatchSettings := {}
  bm : LatchSettings := { filter := .f2000 }
  mxMode : LatchMode := .every
  reportDeadline : Nat := 40
  silenceTimeout : Nat := 500
  dA : Nat := 4000
  dB : Nat := 2000
  horizon : Nat := 600
  joinTolerance : Nat := 24
  upTrim : Int := 0
  downTrim : Int := 0
  upLatency : Nat := 3000
  downLatency : Nat := 3000
  vmin : Nat := 256
  banks : Vector BankSettings 16 := Vector.replicate 16 {}
  pressureThreshold : Nat := 450
  pressurePolicy : PressurePolicy := .shed
  routes : Vector Route 32 := Vector.replicate 32 {}
  deriving DecidableEq, Repr

/-! ### Belt Position Unit (chapter 1) -/

/-- The Belt Position Unit. RX is no field: it is HW minus TC (R6). Suspension is no field: R15
derives it from the limit action and the two conditions. -/
structure Belt where
  /-- Reference level of phase A (1.1). -/
  refA : Bool := false
  /-- Reference level of phase B (1.1). -/
  refB : Bool := false
  /-- Travel Counter (R4). -/
  tc : Pos := 0
  /-- High-water mark (R7). -/
  hw : Pos := 0
  /-- Speed estimate, Q8 counts per millisecond (R9). -/
  v : Int := 0
  /-- TC at the previous speed sample (R8). -/
  sampleRef : Pos := 0
  /-- When the free-running sample timer expires next (R8). -/
  sampleTimer : Time := 1000
  /-- Motion state (R11). -/
  motion : Motion := .stopped
  /-- The stall timer's expiry while it runs (R10). -/
  stallTimer : Option Time := none
  /-- Overspeed condition ACTIVE (R13). -/
  overspeed : Bool := false
  /-- Reverse condition ACTIVE (R14). -/
  reverse : Bool := false
  /-- Previous mark position (R17). -/
  prevMark : Option Pos := none
  /-- Last measured loop, a serial difference (R17). -/
  lastLoop : Option Int := none
  /-- Slip condition ACTIVE (R18). -/
  slip : Bool := false
  deriving DecidableEq, Repr

/-! ### Strobe Latch Unit and heads (chapter 2) -/

/-- A latch entry (R22); only SA and SB entries hold a deadline expiry (R30). -/
structure LatchEntry where
  seq : Byte
  position : Pos
  time : Time
  deadline : Option Time
  deriving DecidableEq, Repr

/-- An active edge under test by the filter, with the filter timer's expiry (R25). -/
structure PendingEdge where
  position : Pos
  time : Time
  filterEnds : Time
  deriving DecidableEq, Repr

/-- One strobe channel (R22). -/
structure Latch where
  watch : Bool := false
  captured : Bool := false
  toggle : Bool := false
  seq : Byte := 0
  fifo : List LatchEntry := []
  edge : Option PendingEdge := none
  deriving DecidableEq, Repr

/-- The four channels (2.1). -/
structure Latches where
  sa : Latch := {}
  sb : Latch := {}
  bm : Latch := {}
  mx : Latch := {}
  deriving DecidableEq, Repr

/-- A head's condition, silence timer and frame error count (R31, R33). -/
structure HeadStatus where
  present : Bool := false
  silence : Option Time := none
  frameErrors : Nat := 0
  deriving DecidableEq, Repr

/-- Both heads. -/
structure Heads where
  a : HeadStatus := {}
  b : HeadStatus := {}
  deriving DecidableEq, Repr

/-! ### Track Store (chapter 3) -/

/-- What one head said of a piece: the A part or the B part of a record (3.1.1). -/
structure HeadPart where
  position : Pos
  first : Nat
  last : Nat
  length : Nat
  cls : ClassCode
  confidence : Nat
  deriving DecidableEq, Repr

/-- One bank's share of a record's eject (R52). -/
structure Part where
  bank : BankId
  mask : Mask
  level : Level
  result : PartResult
  deriving DecidableEq, Repr

/-- Planned values and parts list, written at planning (R92). -/
structure Plan where
  lead : Nat
  dp : Nat
  trigger : Pos
  parts : List Part
  deriving DecidableEq, Repr

/-- The resolved class and its route copy, taken together (R49, R71). -/
structure Resolution where
  cls : ClassCode
  route : Route
  deriving DecidableEq, Repr

/-- A track record (3.1.1). `born` is the model's own: the place of the record's creation among all
creations, by which records of equal P_arr are ordered (R40). -/
structure Record where
  id : TrackId
  born : Nat
  state : RecState
  aPart : Option HeadPart
  bPart : Option HeadPart
  pArr : Pos
  first : Nat
  last : Nat
  length : Nat
  reached : Bool
  resolution : Option Resolution
  plan : Option Plan
  missCause : Option Cause
  deriving DecidableEq, Repr

/-- The seven tallies of a class (R61). -/
structure ClassTally where
  fired : Nat := 0
  degraded : Nat := 0
  partHit : Nat := 0
  missed : Nat := 0
  passed : Nat := 0
  flushed : Nat := 0
  dropped : Nat := 0
  deriving DecidableEq, Repr

/-- The ten global tallies (R61). -/
structure GlobalTally where
  created : Nat := 0
  unreported : Nat := 0
  late : Nat := 0
  slow : Nat := 0
  conflict : Nat := 0
  unavailable : Nat := 0
  inhibited : Nat := 0
  suspended : Nat := 0
  lateStart : Nat := 0
  pressure : Nat := 0
  deriving DecidableEq, Repr

/-- The Track Store. `births` is the model's own count of creations, from which `Record.born` is
taken. -/
structure Store where
  records : List Record := []
  nextId : TrackId := 0
  births : Nat := 0
  classTallies : Vector ClassTally 32 := Vector.replicate 32 {}
  globals : GlobalTally := {}
  deriving DecidableEq, Repr

/-! ### Valve banks and purging (chapters 6 and 7) -/

/-- While an entry is OPEN: its duration (Dp, or Dp − e after a late start), the time of its first
wave, its pulse expiry, and how many waves have opened (R100, R112). -/
structure PulseRun where
  duration : Nat
  firstWave : Time
  expiry : Time
  wavesOpened : Nat
  deriving DecidableEq, Repr

/-- A pulse entry (R100). `hit` is the entry's opened mark: whether any nozzle of it has been opened
(R112). -/
structure Entry where
  track : TrackId
  trigger : Pos
  dp : Nat
  level : Level
  mask : Mask
  dmin : Nat
  policy : Policy
  waves : Nat
  busyEnd : Pos
  degraded : Bool
  state : EntryState
  triggerTime : Option Time
  hit : Bool
  pulse : Option PulseRun
  deriving DecidableEq, Repr

/-- The state of a bank (R98), with the time at which a recharge, switch, purge or conditioning step
ends. A conditioning step without an end is holding (R136). -/
inductive BankState where
  | dark
  | conditioning (step : Nat) (ends : Option Time)
  | idle
  | opened
  | settling (ends : Time)
  | switching (target : Level) (ends : Time)
  | purging (kind : PurgeKind) (ends : Time) (hit : Bool)
  | fenced
  deriving DecidableEq, Repr

/-- A valve bank (R96) with its purge state (R126). An open nozzle holds its closing time. -/
structure Bank where
  state : BankState := .dark
  level : Level := .low
  queue : List Entry := []
  nozzles : Vector (Option Time) 8 := Vector.replicate 8 none
  debt : Nat := 0
  due : Bool := false
  purgeTimer : Option Time := none
  deriving DecidableEq, Repr

/-! ### Supply and nozzle health (chapter 8) -/

/-- One entry of the health map (R145). -/
structure Nozzle where
  grade : Grade := .ok
  badRun : Nat := 0
  marked : Bool := false
  deriving DecidableEq, Repr

/-- The pressure timer, the last reading and the low test (R139, R140). -/
structure Supply where
  timer : Time := 100000
  reading : Nat := 0
  testing : Bool := true
  lowRun : Nat := 0
  deriving DecidableEq, Repr

/-! ### Control link (chapter 10) -/

/-- A frame less its SYNC, LEN and CRC, which follow from these (R167). -/
structure Frame where
  kind : Byte
  tag : Byte
  payload : List Byte
  deriving DecidableEq, Repr

/-- The four receiver states with the bytes gathered in them (R168). -/
inductive RxState where
  | hunt
  | header (got : List Byte)
  | payload (kind tag : Byte) (len : Nat) (got : List Byte)
  | check (frame : Frame) (first : Option Byte)
  deriving DecidableEq, Repr

/-- A receiver with its frame timer (R168). -/
structure Receiver where
  state : RxState := .hunt
  timer : Option Time := none
  deriving DecidableEq, Repr

/-- The two kinds of notice (R180). -/
inductive NoticeKind where
  | flag (mask : FlagMask)
  | state (entered : RunState)
  deriving DecidableEq, Repr

/-- A raised notice with its notice number (R180). -/
structure Notice where
  number : Byte
  kind : NoticeKind
  deriving DecidableEq, Repr

/-- The phases of the request in service (R169): SAVE's write of the stored copy (R164), a reply
handed to the transmitter and waiting there, a reply being sent. `thenReset` marks the reply of a
RESET that was taken, and `resetting` stands from the end of that reply to the warm reset (R161). -/
inductive Service where
  | free
  | writing (tag : Byte) (copy : Settings) (ends : Time)
  | replying (reply : Frame) (thenReset : Bool)
  | sending (thenReset : Bool)
  | resetting
  deriving DecidableEq, Repr

/-- The frame the transmitter is sending, and when its last byte is out (R167, R171). -/
structure Transmission where
  frame : Frame
  isReply : Bool
  ends : Time
  deriving DecidableEq, Repr

/-- The control link and the receivers of the head ports. -/
structure Link where
  rxControl : Receiver := {}
  rxHeadA : Receiver := {}
  rxHeadB : Receiver := {}
  requests : List Frame := []
  service : Service := .free
  transmitter : Option Transmission := none
  notices : List Notice := []
  noticeNumber : Byte := 0
  deriving DecidableEq, Repr

/-- The cursor of an ordered collection (R174): the key is a track id or a sequence number. -/
inductive Cursor where
  | front
  | key (k : Nat)
  | atEnd
  deriving DecidableEq, Repr

/-- The tables of the link (10.5), PULSES with its bank and LATCH with its channel. -/
inductive Table where
  | track | route | bank
  | pulses (bank : BankId)
  | nozzle
  | latch (channel : Channel)
  | tally
  deriving DecidableEq, Repr

/-- The cursors of the four channels' LATCH tables. -/
structure LatchCursors where
  sa : Cursor := .front
  sb : Cursor := .front
  bm : Cursor := .front
  mx : Cursor := .front
  deriving DecidableEq, Repr

/-- Every table's cursor (R174) and the current table (R177). -/
structure Cursors where
  track : Cursor := .front
  pulses : Vector Cursor 16 := Vector.replicate 16 .front
  latch : LatchCursors := {}
  route : Nat := 0
  bank : Nat := 0
  nozzle : Nat := 0
  tally : Nat := 0
  current : Table := .track
  deriving DecidableEq, Repr

end Sys2Proof.Machine

/-! ### The whole part -/

namespace Sys2Proof.Machine

/-- The machine's state. `stored` is the stored copy of the working settings, `none` while its CRC
does not match (never saved, or a SAVE cut by a power failure: R163, R164). `powered` says that the
supply is applied. `pending` is the queue of commands that wait, first in, first out. -/
structure State where
  powered : Bool := true
  timeBase : Time := 0
  fireEnable : Bool := false
  run : RunState := .setup
  flags : FlagMask := 0
  settings : Settings := {}
  stored : Option Settings := none
  belt : Belt := {}
  latches : Latches := {}
  heads : Heads := {}
  store : Store := {}
  banks : Vector Bank 16 := Vector.replicate 16 {}
  health : Vector Nozzle 128 := Vector.replicate 128 {}
  supply : Supply := {}
  link : Link := {}
  cursors : Cursors := {}
  pending : List Instr := []
  deriving DecidableEq, Repr

/-- The part right after power-on with no valid stored copy and every line low: the defaults are
loaded, POWER_UP and SETTINGS_DEFAULTED are set, and their FLAG notice (number 0) is the frame the
transmitter is sending (R149, R162, R163, R171). Its ten bytes take 100 µs (R167). That no copy has
been saved and that the lines are low is DESIGN CHOICE, assumption 3. -/
def State.reset : State :=
  { flags := 0x00000003
    link :=
      { transmitter := some
          { frame := { kind := 0x60, tag := 0, payload := [0, 0, 0, 3] }
            isReply := false
            ends := 100 }
        noticeNumber := 1 } }

end Sys2Proof.Machine
end

