-- ==== Sys2Proof/Machine/Flags.lean ====
section
/-!
DEFINITION. The flag set (R178, 10.9.4) and the conditions the part derives from it: SHED (R144) and
suspension (R15).
-/

namespace Sys2Proof.Machine

/-- The position of a flag in the set (10.9.4). -/
def Flag.position : Flag → Nat
  | .powerUp => 0
  | .settingsDefaulted => 1
  | .beltStopSeen => 2
  | .phaseErr => 3
  | .slip => 4
  | .limitSpeed => 5
  | .limitReverse => 6
  | .strobeOverrunA => 7
  | .strobeOverrunB => 8
  | .unreportedA => 9
  | .unreportedB => 10
  | .orphanA => 11
  | .orphanB => 12
  | .reportClamped => 13
  | .headLostA => 14
  | .headLostB => 15
  | .storeFull => 16
  | .pressureLow => 17
  | .nozzleFault => 18
  | .bankAutoFenced => 19
  | .purgeForced => 20
  | .inhibited => 21
  | .linkFault => 22
  | .noticeDropped => 23

/-- The set that holds one flag alone. -/
def Flag.mask (f : Flag) : FlagMask := BitVec.twoPow 32 f.position

/-- The positions that carry a flag: 0–23 (R178). -/
def carriedFlags : FlagMask := 0x00FFFFFF

/-- Whether a flag is set. -/
def State.flag (s : State) (f : Flag) : Bool := s.flags.getLsbD f.position

/-- A flag is set and stays set until the host or a reset clears it (0.8, R178). -/
def State.setFlag (s : State) (f : Flag) : State := { s with flags := s.flags ||| f.mask }

/-- The flag is set when the condition holds. -/
def State.setFlagIf (s : State) (c : Bool) (f : Flag) : State := if c then s.setFlag f else s

/-- SHED is in force at every moment at which PRESSURE_LOW is set and the policy is SHED (R144). -/
def State.shed (s : State) : Bool :=
  s.flag .pressureLow && decide (s.settings.pressurePolicy = .shed)

/-- Suspension is in force while the limit action is SUSPEND and a limit condition is ACTIVE (R15). -/
def State.suspension (s : State) : Bool :=
  decide (s.settings.limitAction = .suspend) && (s.belt.overspeed || s.belt.reverse)

/-- The flags an event newly set: set after it and clear before (R180). -/
def newlySet (before after : FlagMask) : FlagMask := after &&& ~~~before

end Sys2Proof.Machine
end

