-- ==== Sys2Proof/Machine/Operands.lean ====
section
/-!
DEFINITION. The operand forms of the link: numbers in bytes (R167), the code tables of 10.9.6, the
status codes of R170, setting names (R172), the CRC and the form of a frame on the line (R167).
-/

namespace Sys2Proof.Machine

/-! ### Numbers in bytes (R167: high byte first, signed numbers in two's complement) -/

/-- One byte of a number. -/
def bytes1 (n : Nat) : List Byte := [BitVec.ofNat 8 n]

/-- Two bytes, high byte first. -/
def bytes2 (n : Nat) : List Byte := [BitVec.ofNat 8 (n / 256), BitVec.ofNat 8 n]

/-- Four bytes, high byte first. -/
def bytes4 (x : BitVec 32) : List Byte :=
  [x.extractLsb' 24 8, x.extractLsb' 16 8, x.extractLsb' 8 8, x.extractLsb' 0 8]

/-- The four bytes of a count. -/
def bytes4Nat (n : Nat) : List Byte := bytes4 (BitVec.ofNat 32 n)

/-- The four bytes of a signed number. -/
def bytes4Int (n : Int) : List Byte := bytes4 (BitVec.ofInt 32 n)

/-- A two-byte field read as an unsigned number. -/
def read2 (hi lo : Byte) : Nat := hi.toNat * 256 + lo.toNat

/-- A four-byte field. -/
def read4 (b3 b2 b1 b0 : Byte) : BitVec 32 := b3 ++ b2 ++ b1 ++ b0

/-- A yes-or-no field: 1 for yes (10.9.6). -/
def bitOf (b : Bool) : Nat := if b then 1 else 0

/-- A value clamped to a range (0.8). -/
def clampInt (lo hi x : Int) : Int := if x < lo then lo else if hi < x then hi else x

/-- A count clamped to a range (0.8). -/
def clampNat (lo hi x : Nat) : Nat := if x < lo then lo else if hi < x then hi else x

/-- A class code of 0–31; R32 makes 0 of a code above 31. -/
def classOfCode (n : Nat) : ClassCode := if h : n < 32 then ⟨n, h⟩ else 0

/-! ### Code tables (10.9.6; where it gives none, the place in the value's own list: R172) -/

/-- Status codes (R170). -/
inductive Status where
  | ok | okClamped | refusedState | refusedBusy | range | noSuch | length | unknownKind
  | settingsInvalid
  deriving DecidableEq, Repr

/-- The code of a status (R170). -/
def Status.code : Status → Byte
  | .ok => 0x00
  | .okClamped => 0x01
  | .refusedState => 0x10
  | .refusedBusy => 0x11
  | .range => 0x20
  | .noSuch => 0x21
  | .length => 0x22
  | .unknownKind => 0x23
  | .settingsInvalid => 0x24

/-- A status with which a request is taken; its reply carries data (R170). -/
def Status.taken : Status → Bool
  | .ok | .okClamped => true
  | _ => false

/-- Run state codes. -/
def RunState.code : RunState → Nat
  | .setup => 0
  | .conditioning => 1
  | .run => 2
  | .drain => 3
  | .halted _ => 4

/-- Halt cause codes; 0 is absent. -/
def RunState.causeCode : RunState → Nat
  | .halted .speedLimit => 1
  | .halted .reverseLimit => 2
  | .halted .pressure => 3
  | .halted .host => 4
  | _ => 0

/-- Record state codes. -/
def RecState.code : RecState → Nat
  | .joining => 0
  | .ready => 1
  | .planned => 2
  | .firing => 3
  | .fired => 4
  | .degraded => 5
  | .partHit => 6
  | .missed => 7
  | .passed => 8

/-- Cause codes; 0 is none. -/
def Cause.code : Cause → Nat
  | .late => 1
  | .slow => 2
  | .conflict => 3
  | .unavailable => 4
  | .inhibited => 5
  | .suspended => 6
  | .lateStart => 7
  | .pressure => 8

/-- Part result codes. -/
def PartResult.code : PartResult → Nat
  | .waiting => 0
  | .opened => 1
  | .done => 2
  | .doneDegraded => 3
  | .lost _ => 4

/-- The cause a part's result carries, 0 when it is not LOST. -/
def PartResult.causeCode : PartResult → Nat
  | .lost c => c.code
  | _ => 0

/-- Level codes. -/
def Level.code : Level → Nat
  | .low => 0
  | .high => 1

/-- Destination codes. -/
def Destination.code : Destination → Nat
  | .pass => 0
  | .up => 1
  | .down => 2

/-- Policy codes. -/
def Policy.code : Policy → Nat
  | .degrade => 0
  | .yield => 1

/-- Motion state codes. -/
def Motion.code : Motion → Nat
  | .stopped => 0
  | .moving => 1
  | .reversing => 2

/-- Bank state codes. -/
def BankState.code : BankState → Nat
  | .dark => 0
  | .conditioning _ _ => 1
  | .idle => 2
  | .opened => 3
  | .settling _ => 4
  | .switching _ _ => 5
  | .purging _ _ _ => 6
  | .fenced => 7

/-- Pulse entry state codes. -/
def EntryState.code : EntryState → Nat
  | .waiting => 0
  | .pending => 1
  | .opened => 2

/-- Purge kind codes. -/
def PurgeKind.code : PurgeKind → Nat
  | .opportunistic => 1
  | .forced => 2

/-- Latch mode codes. -/
def LatchMode.code : LatchMode → Nat
  | .first => 0
  | .every => 1

/-- Grade codes (10.9.8). -/
def Grade.code : Grade → Nat
  | .ok => 0
  | .suspect => 1
  | .faulty => 2

/-- Decode mode codes, in the order of R1. -/
def DecodeMode.code : DecodeMode → Nat
  | .x1 => 0
  | .x2 => 1
  | .x4 => 2

/-- Direction codes, in the order of R1. -/
def Direction.code : Direction → Nat
  | .normal => 0
  | .inverted => 1

/-- Limit action codes, in the order of R12. -/
def LimitAction.code : LimitAction → Nat
  | .note => 0
  | .suspend => 1
  | .halt => 2

/-- Pressure policy codes, in the order of R142. -/
def PressurePolicy.code : PressurePolicy → Nat
  | .note => 0
  | .shed => 1
  | .halt => 2

/-- Active edge codes, in the order of R21. -/
def ActiveEdge.code : ActiveEdge → Nat
  | .rising => 0
  | .falling => 1

/-- Filter class codes, in the order of R21. -/
def FilterClass.code : FilterClass → Nat
  | .f20 => 0
  | .f100 => 1
  | .f500 => 2
  | .f2000 => 3

/-- Open order codes, in the order of R97. -/
def OpenOrder.code : OpenOrder → Nat
  | .ascending => 0
  | .centreOut => 1
  | .alternate => 2

/-- The level of a code, if it is one. -/
def levelOfCode : Nat → Option Level
  | 0 => some .low
  | 1 => some .high
  | _ => none

/-- The destination of a code, if it is one. -/
def destinationOfCode : Nat → Option Destination
  | 0 => some .pass
  | 1 => some .up
  | 2 => some .down
  | _ => none

/-- The policy of a code, if it is one. -/
def policyOfCode : Nat → Option Policy
  | 0 => some .degrade
  | 1 => some .yield
  | _ => none

/-- The channel of a channel number, if it is one (2.1). -/
def channelOfCode : Nat → Option Channel
  | 0 => some .sa
  | 1 => some .sb
  | 2 => some .bm
  | 3 => some .mx
  | _ => none

/-- The strobe line of a channel number; MX holds no active edge and no filter class (R21). -/
def lineOfCode : Nat → Option Line
  | 0 => some .sa
  | 1 => some .sb
  | 2 => some .bm
  | _ => none

/-- The bank of a bank index, if it is one (R96). -/
def bankOfCode (b : Byte) : Option BankId := if h : b.toNat < 16 then some ⟨b.toNat, h⟩ else none

/-- The channel of a strobe line. -/
def channelOfLine : Line → Channel
  | .sa => .sa
  | .sb => .sb
  | .bm => .bm

/-- The strobe line of a head (2.1). -/
def lineOfHead : Head → Line
  | .a => .sa
  | .b => .sb

/-- The minimum pulse width of a filter class in microseconds (R21). -/
def FilterClass.width : FilterClass → Nat
  | .f20 => 20
  | .f100 => 100
  | .f500 => 500
  | .f2000 => 2000

/-- The level of the line that is active (R21): high under RISING. -/
def ActiveEdge.activeHigh : ActiveEdge → Bool
  | .rising => true
  | .falling => false

/-- The other level. -/
def Level.other : Level → Level
  | .low => .high
  | .high => .low

/-- The bar of a bank (R96). -/
def barOfBank (b : BankId) : Bar := if b.val < 8 then .up else .down

/-- The first column of a bank (R96). -/
def firstColumn (b : BankId) : Nat := (b.val % 8) * 8

/-- The bank of a column's nozzle on a bar (R90). -/
def bankOf (bar : Bar) (column : Nat) : BankId :=
  Fin.ofNat 16 (match bar with
    | .up => column / 8
    | .down => 8 + column / 8)

/-- The place in the health map of a bank's member (R96, R150). -/
def nozzleOf (b : BankId) (m : Member) : NozzleId :=
  ⟨b.val * 8 + m.val, by have := b.isLt; have := m.isLt; omega⟩

/-! ### Setting names (R172) -/

/-- The settings of a bank, in the order of their codes. -/
inductive BankField where
  | tRC | tSW | tPG | tPI | maxDebt | mso | openOrder | waveGap
  deriving DecidableEq, Repr

/-- The working settings that GET and SET reach, with their qualifier. -/
inductive SettingName where
  | decodeMode | direction | smoothing | stallWindow | overspeedLimit | reverseLimit | limitAction
  | loopLength | slipTolerance | slipMargin
  | latchEdge (line : Line) | latchFilter (line : Line) | latchMode (channel : Channel)
  | reportDeadline | silenceTimeout
  | dA | dB | horizon | joinTolerance
  | upTrim | downTrim | upLatency | downLatency | vmin
  | bank (b : BankId) (field : BankField)
  | pressureThreshold | pressurePolicy
  deriving DecidableEq, Repr

/-- What a code and a qualifier name: a setting, or the refusal of the first two rows of R165. -/
inductive NamedSetting where
  | setting (name : SettingName)
  | unknown
  | badQualifier
  deriving DecidableEq, Repr

/-- A bank setting under its qualifier (R165). -/
def namedBank (qualifier : Byte) (field : BankField) : NamedSetting :=
  match bankOfCode qualifier with
  | some b => .setting (.bank b field)
  | none => .badQualifier

/-- A latch setting of a strobe line under its qualifier (R21, R165). -/
def namedLine (qualifier : Byte) (make : Line → SettingName) : NamedSetting :=
  match lineOfCode qualifier.toNat with
  | some l => .setting (make l)
  | none => .badQualifier

/-- The setting that a code and a qualifier name (R165, R172). -/
def nameSetting (code qualifier : Byte) : NamedSetting :=
  match code.toNat with
  | 0x01 => .setting .decodeMode
  | 0x02 => .setting .direction
  | 0x03 => .setting .smoothing
  | 0x04 => .setting .stallWindow
  | 0x05 => .setting .overspeedLimit
  | 0x06 => .setting .reverseLimit
  | 0x07 => .setting .limitAction
  | 0x08 => .setting .loopLength
  | 0x09 => .setting .slipTolerance
  | 0x0A => .setting .slipMargin
  | 0x10 => namedLine qualifier .latchEdge
  | 0x11 => namedLine qualifier .latchFilter
  | 0x12 =>
    match channelOfCode qualifier.toNat with
    | some c => .setting (.latchMode c)
    | none => .badQualifier
  | 0x13 => .setting .reportDeadline
  | 0x14 => .setting .silenceTimeout
  | 0x20 => .setting .dA
  | 0x21 => .setting .dB
  | 0x22 => .setting .horizon
  | 0x23 => .setting .joinTolerance
  | 0x30 => .setting .upTrim
  | 0x31 => .setting .downTrim
  | 0x32 => .setting .upLatency
  | 0x33 => .setting .downLatency
  | 0x34 => .setting .vmin
  | 0x40 => namedBank qualifier .tRC
  | 0x41 => namedBank qualifier .tSW
  | 0x42 => namedBank qualifier .tPG
  | 0x43 => namedBank qualifier .tPI
  | 0x44 => namedBank qualifier .maxDebt
  | 0x45 => namedBank qualifier .mso
  | 0x46 => namedBank qualifier .openOrder
  | 0x47 => namedBank qualifier .waveGap
  | 0x50 => .setting .pressureThreshold
  | 0x51 => .setting .pressurePolicy
  | _ => .unknown

/-- The values of a setting: an enumeration of so many codes from 0, or a numeric range. -/
inductive Domain where
  | codes (count : Nat)
  | numeric (low high : Int)
  deriving DecidableEq, Repr

/-- The set or range of a bank setting (R97). -/
def BankField.domain : BankField → Domain
  | .tRC => .numeric 0 40
  | .tSW => .numeric 5 60
  | .tPG => .numeric 20 200
  | .tPI => .numeric 10 600
  | .maxDebt => .numeric 1 8
  | .mso => .numeric 1 8
  | .openOrder => .codes 3
  | .waveGap => .numeric 1 8

/-- The set or range of a setting (R1, R9, R10, R12, R16, R21, R30, R33, R42, R79, R97, R142). -/
def SettingName.domain : SettingName → Domain
  | .decodeMode => .codes 3
  | .direction => .codes 2
  | .smoothing => .numeric 0 6
  | .stallWindow => .numeric 10 2000
  | .overspeedLimit => .numeric 0 65535
  | .reverseLimit => .numeric 0 65535
  | .limitAction => .codes 3
  | .loopLength => .numeric 0 16777215
  | .slipTolerance => .numeric 0 4095
  | .slipMargin => .numeric 0 1023
  | .latchEdge _ => .codes 2
  | .latchFilter _ => .codes 4
  | .latchMode _ => .codes 2
  | .reportDeadline => .numeric 1 250
  | .silenceTimeout => .numeric 100 5000
  | .dA => .numeric 1 1000000
  | .dB => .numeric 1 1000000
  | .horizon => .numeric 50 8000
  | .joinTolerance => .numeric 0 1023
  | .upTrim => .numeric (-2048) 2047
  | .downTrim => .numeric (-2048) 2047
  | .upLatency => .numeric 500 8000
  | .downLatency => .numeric 500 8000
  | .vmin => .numeric 16 4096
  | .bank _ f => f.domain
  | .pressureThreshold => .numeric 100 800
  | .pressurePolicy => .codes 3

/-- The settings that may change in SETUP only (R166). -/
def SettingName.setupOnly : SettingName → Bool
  | .decodeMode | .direction | .dA | .dB | .horizon => true
  | .upTrim | .downTrim | .upLatency | .downLatency | .vmin => true
  | _ => false

/-! ### The CRC and the frame on the line (R167) -/

/-- One bit of the CRC: a shift, and the polynomial 0x1021 when a 1 is shifted out. -/
def crcShift (c : BitVec 16) : BitVec 16 :=
  if c.msb then (c <<< 1) ^^^ 0x1021#16 else c <<< 1

/-- One byte into the CRC, most significant bit first. -/
def crcByte (c : BitVec 16) (b : Byte) : BitVec 16 :=
  let c0 := c ^^^ (b ++ 0#8)
  crcShift (crcShift (crcShift (crcShift (crcShift (crcShift (crcShift (crcShift c0)))))))

/-- The CRC of a run of bytes, from the initial value 0xFFFF. -/
def crcOf (bs : List Byte) : BitVec 16 := bs.foldl crcByte 0xFFFF#16

/-- KIND, TAG, LEN and payload: what the CRC is taken over. -/
def Frame.body (f : Frame) : List Byte :=
  [f.kind, f.tag, BitVec.ofNat 8 f.payload.length] ++ f.payload

/-- The bytes of a frame in the order they are sent. -/
def Frame.wire (f : Frame) : List Byte :=
  [0xA5#8] ++ f.body ++ [(crcOf f.body).extractLsb' 8 8, (crcOf f.body).extractLsb' 0 8]

/-- How long a frame is on the line: (6 + LEN) × 10 µs. -/
def Frame.lineTime (f : Frame) : Nat := (6 + f.payload.length) * Config.byteTime

/-! ### Locators (R173, 10.9.9) -/

/-- The modes of a locator (10.9.6). -/
inductive LocatorMode where
  | direct | cursor | first | offset | id
  deriving DecidableEq, Repr

/-- A locator whose table, qualifier and mode are known. -/
structure Locator where
  table : Table
  mode : LocatorMode
  operand : Nat
  deriving DecidableEq, Repr

/-- The table that a table code and a qualifier name; none is refused with RANGE (R173). -/
def tableOfCode (code qualifier : Byte) : Option Table :=
  match code.toNat with
  | 0 => some .track
  | 1 => some .route
  | 2 => some .bank
  | 3 => (bankOfCode qualifier).map .pulses
  | 4 => some .nozzle
  | 5 => (channelOfCode qualifier.toNat).map .latch
  | 6 => some .tally
  | _ => none

/-- The mode of a mode code. -/
def modeOfCode (code : Byte) : Option LocatorMode :=
  match code.toNat with
  | 0 => some .direct
  | 1 => some .cursor
  | 2 => some .first
  | 3 => some .offset
  | 4 => some .id
  | _ => none

/-- The size of a fixed table; an ordered collection has none (10.5). -/
def Table.fixedSize : Table → Option Nat
  | .route => some 32
  | .bank => some 16
  | .nozzle => some 128
  | .tally => some 33
  | .track | .pulses _ | .latch _ => none

/-- A locator whose mode suits its table and whose operand lies in it (R173). -/
def Locator.valid (l : Locator) : Bool :=
  match l.table.fixedSize with
  | some size =>
    match l.mode with
    | .direct | .offset => decide (l.operand < size)
    | .cursor | .first => true
    | .id => false
  | none =>
    match l.mode with
    | .direct => false
    | .id => decide (l.table = .track)
    | .cursor | .first | .offset => true

/-- The locator in five bytes, unless R173 refuses it with RANGE. -/
def readLocator (table qualifier mode hi lo : Byte) : Option Locator :=
  match tableOfCode table qualifier, modeOfCode mode with
  | some t, some m =>
    let l : Locator := { table := t, mode := m, operand := read2 hi lo }
    if l.valid then some l else none
  | _, _ => none

end Sys2Proof.Machine
end

