-- ==== Sys2Proof/Machine/Ops.lean ====
section
/-!
DEFINITION. The named operations every block shares: serial order, the time base, access to banks,
nozzles, channels and tallies, cursors (R174, R176), notices (R180), the transmitter (R171), and the
two ways a command is carried out: an event of the part, and the service of a request (R169, R170).
-/

namespace Sys2Proof.Machine

/-! ### Serial order (0.8, R5, R24) -/

/-- The difference a − b taken modulo 2^32 and read as a signed number. -/
def serialDiff (a b : BitVec 32) : Int := (a - b).toInt

/-- a is at or past b. -/
def atOrPast (a b : BitVec 32) : Bool := decide (0 ≤ serialDiff a b)

/-- A position moved by a signed number of counts, modulo 2^32. -/
def posPlus (p : Pos) (n : Int) : Pos := p + BitVec.ofInt 32 n

/-- A time so many microseconds later. -/
def timePlus (t : Time) (us : Nat) : Time := t + BitVec.ofNat 32 us

/-- The later of two times. -/
def laterOf (a b : Time) : Time := if atOrPast a b then a else b

/-- How far ahead of `now` a time lies, 0 when it has come. -/
def timeLeft (t now : Time) : Nat := (serialDiff t now).toNat

/-- The least integer not below a / b (0.8). -/
def ceilDiv (a b : Nat) : Nat := (a + (b - 1)) / b

/-- A time given in half-milliseconds, in microseconds. -/
def halfMs (n : Nat) : Nat := n * 500

/-- A timer's expiry is an event at the time the timer was set to: the time base has then reached it.
A time base already past it stays. DESIGN CHOICE, assumption 1. -/
def State.atTime (s : State) (t : Time) : State := { s with timeBase := laterOf s.timeBase t }

/-! ### Access to the blocks' state -/

/-- All sixteen banks in index order. -/
def allBanks : List BankId := [0, 1, 2, 3, 4, 5, 6, 7, 8, 9, 10, 11, 12, 13, 14, 15]

/-- All eight members of a bank, lowest first. -/
def allMembers : List Member := [0, 1, 2, 3, 4, 5, 6, 7]

/-- A bank. -/
def State.bank (s : State) (b : BankId) : Bank := s.banks[b]

/-- A bank's state replaced. -/
def State.setBank (s : State) (b : BankId) (v : Bank) : State := { s with banks := s.banks.set b v }

/-- A bank changed by a function of it. -/
def State.modBank (s : State) (b : BankId) (f : Bank → Bank) : State := s.setBank b (f (s.bank b))

/-- A bank's eight settings (R97). -/
def State.bankSettings (s : State) (b : BankId) : BankSettings := s.settings.banks[b]

/-- An entry of the health map (R145). -/
def State.nozzle (s : State) (n : NozzleId) : Nozzle := s.health[n]

/-- An entry of the health map replaced. -/
def State.setNozzle (s : State) (n : NozzleId) (v : Nozzle) : State :=
  { s with health := s.health.set n v }

/-- A nozzle is FAULTY (R145); OK and SUSPECT are healthy. -/
def State.faulty (s : State) (n : NozzleId) : Bool := decide ((s.nozzle n).grade = .faulty)

/-- All eight nozzles of a bank are FAULTY (R151). -/
def State.allFaulty (s : State) (b : BankId) : Bool := allMembers.all fun m => s.faulty (nozzleOf b m)

/-- Every nozzle of a bank closed. -/
def noNozzleOpen : Vector (Option Time) 8 := Vector.replicate 8 none

/-- The nozzles a bank has open, as a nozzle mask (10.9.6). -/
def Bank.openMask (b : Bank) : Mask :=
  allMembers.foldl (fun acc m => if b.nozzles[m].isSome then acc ||| BitVec.twoPow 8 m.val else acc) 0

/-- The members of a nozzle mask, lowest first. -/
def membersOf (mask : Mask) : List Member := allMembers.filter fun m => mask.getLsbD m.val

/-- A channel of the Strobe Latch Unit. -/
def Latches.get (l : Latches) : Channel → Latch
  | .sa => l.sa
  | .sb => l.sb
  | .bm => l.bm
  | .mx => l.mx

/-- A channel replaced. -/
def Latches.put (l : Latches) (c : Channel) (v : Latch) : Latches :=
  match c with
  | .sa => { l with sa := v }
  | .sb => { l with sb := v }
  | .bm => { l with bm := v }
  | .mx => { l with mx := v }

/-- A channel of the part. -/
def State.latch (s : State) (c : Channel) : Latch := s.latches.get c

/-- A channel of the part replaced. -/
def State.setLatch (s : State) (c : Channel) (v : Latch) : State :=
  { s with latches := s.latches.put c v }

/-- The cursor of a channel's LATCH table. -/
def LatchCursors.get (l : LatchCursors) : Channel → Cursor
  | .sa => l.sa
  | .sb => l.sb
  | .bm => l.bm
  | .mx => l.mx

/-- The cursor of a channel's LATCH table replaced. -/
def LatchCursors.put (l : LatchCursors) (c : Channel) (v : Cursor) : LatchCursors :=
  match c with
  | .sa => { l with sa := v }
  | .sb => { l with sb := v }
  | .bm => { l with bm := v }
  | .mx => { l with mx := v }

/-- A head's condition. -/
def Heads.get (h : Heads) : Head → HeadStatus
  | .a => h.a
  | .b => h.b

/-- A head's condition replaced. -/
def Heads.put (h : Heads) (w : Head) (v : HeadStatus) : Heads :=
  match w with
  | .a => { h with a := v }
  | .b => { h with b := v }

/-- A port's receiver. -/
def Link.receiver (l : Link) : Port → Receiver
  | .control => l.rxControl
  | .head .a => l.rxHeadA
  | .head .b => l.rxHeadB

/-- A port's receiver replaced. -/
def State.setReceiver (s : State) (p : Port) (r : Receiver) : State :=
  { s with link := match p with
      | .control => { s.link with rxControl := r }
      | .head .a => { s.link with rxHeadA := r }
      | .head .b => { s.link with rxHeadB := r } }

/-- The settings of a strobe line's channel (R21). -/
def Settings.line (st : Settings) : Line → LatchSettings
  | .sa => st.sa
  | .sb => st.sb
  | .bm => st.bm

/-- The settings of a strobe line's channel replaced. -/
def Settings.putLine (st : Settings) (l : Line) (v : LatchSettings) : Settings :=
  match l with
  | .sa => { st with sa := v }
  | .sb => { st with sb := v }
  | .bm => { st with bm := v }

/-- The mode of a channel (R21). -/
def Settings.mode (st : Settings) : Channel → LatchMode
  | .sa => st.sa.mode
  | .sb => st.sb.mode
  | .bm => st.bm.mode
  | .mx => st.mxMode

/-! ### Tallies (R61) -/

/-- A tally increased by 1; at its maximum it stays. -/
def satInc (n : Nat) : Nat := if n < Config.tallyMax then n + 1 else n

/-- A class's tallies changed. -/
def State.modTally (s : State) (c : ClassCode) (f : ClassTally → ClassTally) : State :=
  { s with store := { s.store with
      classTallies := s.store.classTallies.set c (f s.store.classTallies[c]) } }

/-- The global tallies changed. -/
def State.modGlobals (s : State) (f : GlobalTally → GlobalTally) : State :=
  { s with store := { s.store with globals := f s.store.globals } }

/-- One count of a cause (R55). -/
def GlobalTally.count (g : GlobalTally) : Cause → GlobalTally
  | .late => { g with late := satInc g.late }
  | .slow => { g with slow := satInc g.slow }
  | .conflict => { g with conflict := satInc g.conflict }
  | .unavailable => { g with unavailable := satInc g.unavailable }
  | .inhibited => { g with inhibited := satInc g.inhibited }
  | .suspended => { g with suspended := satInc g.suspended }
  | .lateStart => { g with lateStart := satInc g.lateStart }
  | .pressure => { g with pressure := satInc g.pressure }

/-- One count of a miss cause in the global tallies. -/
def State.countCause (s : State) (c : Cause) : State := s.modGlobals fun g => g.count c

/-! ### Cursors of ordered collections (R174, R176) -/

/-- The cursor that names the member after the first one with key k, END if none follows. -/
def followerOf : List Nat → Nat → Cursor
  | [], _ => .atEnd
  | [_], _ => .atEnd
  | a :: b :: rest, k => if a = k then .key b else followerOf (b :: rest) k

/-- A cursor when the member of key k leaves the collection `keys` (R176). -/
def Cursor.leave (c : Cursor) (keys : List Nat) (k : Nat) : Cursor :=
  if c = .key k then followerOf keys k else c

/-- The PULSES cursor of a bank replaced. -/
def State.setPulsesCursor (s : State) (b : BankId) (c : Cursor) : State :=
  { s with cursors := { s.cursors with pulses := s.cursors.pulses.set b c } }

/-- The TRACK cursor replaced. -/
def State.setTrackCursor (s : State) (c : Cursor) : State :=
  { s with cursors := { s.cursors with track := c } }

/-- The LATCH cursor of a channel replaced. -/
def State.setLatchCursor (s : State) (ch : Channel) (c : Cursor) : State :=
  { s with cursors := { s.cursors with latch := s.cursors.latch.put ch c } }

/-! ### Notices and the transmitter (R171, R180) -/

/-- The frame a notice is sent as (10.9.1, 10.9.3). -/
def Notice.frame (n : Notice) : Frame :=
  match n.kind with
  | .flag mask => { kind := 0x60, tag := n.number, payload := bytes4 mask }
  | .state r => { kind := 0x61, tag := n.number, payload := bytes1 r.code ++ bytes1 r.causeCode }

/-- A notice raised: it takes the notice number, and joins the queue unless the queue holds 8. A notice
discarded there sets NOTICE_DROPPED; when that flag was clear its own FLAG notice is raised in turn,
takes a number and is discarded (R180). -/
def State.raise (s : State) (k : NoticeKind) : State :=
  let l := s.link
  if l.notices.length < Config.noticeCapacity then
    { s with link := { l with
        notices := l.notices ++ [{ number := l.noticeNumber, kind := k }]
        noticeNumber := l.noticeNumber + 1 } }
  else if s.flag .noticeDropped then
    { s with link := { l with noticeNumber := l.noticeNumber + 1 } }
  else
    ({ s with link := { l with noticeNumber := l.noticeNumber + 2 } } : State).setFlag .noticeDropped

/-- The notices of one event: one FLAG notice for the flags it newly set, then a STATE notice if it
changed the run state (R153, R180). That a step is one event and that FLAG goes first is DESIGN
CHOICE, assumption 6. -/
def raiseNotices (before after : State) : State :=
  let s1 :=
    if newlySet before.flags after.flags = 0 then after
    else after.raise (.flag (newlySet before.flags after.flags))
  if before.run = after.run then s1 else s1.raise (.state after.run)

/-- A transmitter that is free sends the reply handed to it, otherwise the oldest notice (R171).
Nothing is sent between the end of RESET's reply and the warm reset (R161). -/
def State.transmit (s : State) : State :=
  match s.link.transmitter, s.link.service with
  | some _, _ => s
  | none, .resetting => s
  | none, .replying reply thenReset =>
    { s with link := { s.link with
        service := .sending thenReset
        transmitter := some
          { frame := reply, isReply := true, ends := timePlus s.timeBase reply.lineTime } } }
  | none, _ =>
    match s.link.notices with
    | [] => s
    | n :: rest =>
      { s with link := { s.link with
          notices := rest
          transmitter := some
            { frame := n.frame, isReply := false, ends := timePlus s.timeBase n.frame.lineTime } } }

/-- What closes every event: its notices are raised and a free transmitter is given work. -/
def closeEvent (before after : State) : State := (raiseNotices before after).transmit

/-! ### Events and requests -/

/-- An event of the part. A part without supply does nothing (R164). -/
def event (s : State) (f : State → State) : Host.Outcome State Fault Refusal :=
  .next (if s.powered then closeEvent s (f s) else s)

/-- A request's status and the data of its reply (R170); `thenReset` marks a RESET that is taken. -/
structure Answer where
  status : Status
  data : List Byte
  thenReset : Bool := false
  deriving DecidableEq, Repr

/-- A refusal: its reply carries the status alone (R170). -/
def refusal (status : Status) : Answer := { status := status, data := [] }

/-- An OK reply with its data. -/
def okWith (data : List Byte) : Answer := { status := .ok, data := data }

/-- The reply frame of a request: KIND plus 0x80, the request's TAG, the status first (R170). -/
def Answer.reply (a : Answer) (kind tag : Byte) : Frame :=
  { kind := kind + 0x80
    tag := tag
    payload := a.status.code :: (if a.status.taken then a.data else []) }

/-- The reply handed to the transmitter (R169). -/
def State.handReply (s : State) (reply : Frame) (thenReset : Bool) : State :=
  { s with link := { s.link with service := .replying reply thenReset } }

/-- A request taken into service (R169): no other is in service, and the frame is the oldest waiting
one, which leaves the queue; with an empty queue the frame was accepted and is taken at once. None
when this request cannot be the one taken. DESIGN CHOICE, assumption 4. -/
def State.takeRequest (s : State) (f : Frame) : Option State :=
  if s.powered && decide (s.link.service = .free) then
    match s.link.requests with
    | [] => some s
    | g :: rest =>
      if g = f then some { s with link := { s.link with requests := rest } } else none
  else none

/-- The service of a request (R169, R170): the LEN test, the effect, the reply handed on. `prepare` is
the part of the effect made before the flags are compared for the FLAG notice. A request that
cannot be taken into service changes nothing. -/
def serveAfter (prepare : State → State) (kind tag : Byte) (payload : List Byte) (lens : List Nat)
    (act : State → Answer × State) (s : State) : Host.Outcome State Fault Refusal :=
  .next (match s.takeRequest { kind := kind, tag := tag, payload := payload } with
    | none => s
    | some s0 =>
      if lens.contains payload.length then
        let s1 := prepare s0
        let r := act s1
        closeEvent s1 (r.2.handReply (r.1.reply kind tag) r.1.thenReset)
      else
        closeEvent s0 (s0.handReply ((refusal .length).reply kind tag) false))

/-- The service of a request whose whole effect is one event. -/
def serve (kind tag : Byte) (payload : List Byte) (lens : List Nat)
    (act : State → Answer × State) (s : State) : Host.Outcome State Fault Refusal :=
  serveAfter id kind tag payload lens act s

/-- A byte of a payload; the LEN test has been made, so the byte is there. -/
def byteAt (payload : List Byte) (i : Nat) : Byte := payload.getD i 0

end Sys2Proof.Machine
end

