-- ==== Sys2Proof/Machine/Store.lean ====
section
/-!
DEFINITION. The Track Store (chapter 3): store order and ids, class resolution, part results and the
outcome rule, retirement, flush, and the effect of a record's leaving.
-/

namespace Sys2Proof.Machine

/-! ### Records and their order (R39 to R41) -/

/-- A terminal state (3.1.1). -/
def RecState.terminal : RecState → Bool
  | .fired | .degraded | .partHit | .missed | .passed => true
  | .joining | .ready | .planned | .firing => false

/-- A final result, which is not changed again (R52). -/
def PartResult.final : PartResult → Bool
  | .done | .doneDegraded | .lost _ => true
  | .waiting | .opened => false

/-- A part lost with any cause. -/
def PartResult.isLost : PartResult → Bool
  | .lost _ => true
  | _ => false

/-- A held record: READY with its horizon mark REACHED (R51). -/
def Record.held (r : Record) : Bool := decide (r.state = .ready) && r.reached

/-- The track ids of the store in store order, as cursor keys. -/
def Store.keys (st : Store) : List Nat := st.records.map fun r => r.id.toNat

/-- The record of an id, if the store holds it. -/
def State.record? (s : State) (id : TrackId) : Option Record :=
  s.store.records.find? fun r => decide (r.id = id)

/-- The record of an id changed in its place. -/
def State.modRecord (s : State) (id : TrackId) (f : Record → Record) : State :=
  { s with store := { s.store with
      records := s.store.records.map fun r => if r.id = id then f r else r } }

/-- Store order: by P_arr in serial order, and among equal P_arr by creation (R40). -/
def goesBefore (a b : Record) : Bool :=
  decide (serialDiff a.pArr b.pArr < 0) ||
    (decide (serialDiff a.pArr b.pArr = 0) && decide (a.born < b.born))

/-- A record put in its place in store order (R40). -/
def place (r : Record) : List Record → List Record
  | [] => [r]
  | x :: xs => if goesBefore r x then r :: x :: xs else x :: place r xs

/-- The first id at or after `id` that no present record holds (R41). -/
def freeId (records : List Record) (id : TrackId) : Nat → TrackId
  | 0 => id
  | fuel + 1 => if records.any fun r => decide (r.id = id) then freeId records (id + 1) fuel else id

/-- The id the next record takes (R41). -/
def Store.idToUse (st : Store) : TrackId := freeId st.records st.nextId st.records.length

/-- The store holds 512 records (R43, R44, R60). -/
def Store.full (st : Store) : Bool := decide (Config.storeCapacity ≤ st.records.length)

/-- A new record enters the store with the next id and takes its place; CREATED increases by 1 (R41,
R43, R47, R60). The record is given by its id and its creation number. -/
def State.createRecord (s : State) (make : TrackId → Nat → Record) : State :=
  ({ s with store := { s.store with
      records := place (make s.store.idToUse s.store.births) s.store.records
      nextId := s.store.idToUse + 1
      births := s.store.births + 1 } } : State).modGlobals
    fun g => { g with created := satInc g.created }

/-! ### Class resolution (R49) -/

/-- The Route Table entry of a class as it stands (R65). -/
def State.route (s : State) (c : ClassCode) : Route := s.settings.routes[c]

/-- The candidate class of a part: class 0 below the minimum confidence of its own class (R49, R73). -/
def State.candidateClass (s : State) (p : HeadPart) : ClassCode :=
  if p.confidence < (s.route p.cls).minConfidence then 0 else p.cls

/-- The class of two parts: by precedence, then by confidence, then the A part (R49). -/
def State.betterClass (s : State) (a b : HeadPart) : ClassCode :=
  let ca := s.candidateClass a
  let cb := s.candidateClass b
  let pa := (s.route ca).precedence
  let pb := (s.route cb).precedence
  if pb < pa then ca
  else if pa < pb then cb
  else if a.confidence < b.confidence then cb
  else ca

/-- The class that a record's present parts resolve to (R49). -/
def State.resolvedClass (s : State) (a b : Option HeadPart) : Option ClassCode :=
  match a, b with
  | some p, some q => some (s.betterClass p q)
  | some p, none => some (s.candidateClass p)
  | none, some q => some (s.candidateClass q)
  | none, none => none

/-- The class with a copy of its route as the table now stands (R49, R71). -/
def State.resolutionOf (s : State) (a b : Option HeadPart) : Option Resolution :=
  (s.resolvedClass a b).map fun c => { cls := c, route := s.route c }

/-- A record resolved from the parts given and made READY (R46, R48, R50). -/
def State.resolveReady (s : State) (r : Record) (a b : Option HeadPart) : Record :=
  { r with resolution := s.resolutionOf a b, state := .ready }

/-- The class a record is tallied under: class 0 if it was never resolved (R58). -/
def Record.tallyClass (r : Record) : ClassCode :=
  match r.resolution with
  | some res => res.cls
  | none => 0

/-! ### A record leaves the store (R57) -/

/-- The keys of a queue's entries, for its PULSES cursor. -/
def Bank.keys (b : Bank) : List Nat := b.queue.map fun e => e.track.toNat

/-- The members of the OPEN entries of a queue. -/
def openMaskOf (q : List Entry) : Mask :=
  q.foldl (fun acc e => if e.state = .opened then acc ||| e.mask else acc) 0

/-- A queue holds an OPEN entry. -/
def anyOpen (q : List Entry) : Bool := q.any fun e => decide (e.state = .opened)

/-- The nozzles of a mask closed. -/
def closeMask (nozzles : Vector (Option Time) 8) (mask : Mask) : Vector (Option Time) 8 :=
  Vector.ofFn fun i => if mask.getLsbD i.val then none else nozzles[i]

/-- A bank without a record's entries (R57, R124): the nozzles that its OPEN entry alone had open
close, and a bank whose last OPEN entry is gone recharges from `now`. -/
def Bank.withoutTrack (b : Bank) (id : TrackId) (recharged : Time) : Bank :=
  let gone := b.queue.filter fun e => decide (e.track = id)
  let rest := b.queue.filter fun e => decide (e.track ≠ id)
  { b with
    queue := rest
    nozzles := closeMask b.nozzles (openMaskOf gone &&& ~~~(openMaskOf rest))
    state := if b.state = .opened ∧ anyOpen gone = true ∧ anyOpen rest = false
      then .settling recharged else b.state }

/-- One bank drops the entries of a record that leaves, without a report (R57, R124, R176). -/
def State.dropEntries (s : State) (id : TrackId) (b : BankId) : State :=
  if (s.bank b).queue.any fun e => decide (e.track = id) then
    (s.modBank b fun k =>
        k.withoutTrack id (timePlus s.timeBase (halfMs (s.bankSettings b).tRC))).setPulsesCursor b
      (s.cursors.pulses[b].leave (s.bank b).keys id.toNat)
  else s

/-- A removal that leaves the store empty in DRAIN ends the drain (R57, R157). -/
def State.drainEnd (s : State) : State :=
  if s.run = .drain ∧ s.store.records = [] then { s with run := .setup } else s

/-- A record leaves the store: its entries leave the queues, the TRACK cursor moves on from it, and
Run Control is told of an empty store (R57, R176). -/
def State.removeRecord (s : State) (id : TrackId) : State :=
  let s1 : State :=
    { s with
      store := { s.store with records := s.store.records.filter fun r => decide (r.id ≠ id) }
      cursors := { s.cursors with track := s.cursors.track.leave s.store.keys id.toNat } }
  (allBanks.foldl (fun t b => t.dropEntries id b) s1).drainEnd

/-! ### Retirement (R56) -/

/-- One count of a retiring record's terminal state. -/
def ClassTally.countOutcome (t : ClassTally) : RecState → ClassTally
  | .fired => { t with fired := satInc t.fired }
  | .degraded => { t with degraded := satInc t.degraded }
  | .partHit => { t with partHit := satInc t.partHit }
  | .missed => { t with missed := satInc t.missed }
  | .passed => { t with passed := satInc t.passed }
  | .joining | .ready | .planned | .firing => t

/-- The belt has carried a record's trailing edge across the eject line (R56). -/
def State.edgePassed (s : State) (r : Record) : Bool :=
  atOrPast s.belt.tc (posPlus r.pArr r.length)

/-- The retirement test of one record, and its retirement (R56). -/
def State.retireTest (s : State) (id : TrackId) : State :=
  match s.record? id with
  | none => s
  | some r =>
    if r.state.terminal && s.edgePassed r then
      (s.modTally r.tallyClass fun t => t.countOutcome r.state).removeRecord id
    else s

/-- The retirement test of every terminal record, as each count brings it (R56). -/
def State.retireAll (s : State) : State :=
  (s.store.records.filter fun r => r.state.terminal && s.edgePassed r).foldl
    (fun t r => t.retireTest r.id) s

/-- A record takes a terminal state, and is then tested for retirement (R39, R56). -/
def State.endRecord (s : State) (id : TrackId) (st : RecState) (miss : Option Cause) : State :=
  (s.modRecord id fun r => { r with state := st, missCause := miss }).retireTest id

/-! ### Part results and the outcome rule (R52 to R54) -/

/-- The cause a part was lost with. -/
def PartResult.cause? : PartResult → Option Cause
  | .lost c => some c
  | _ => none

/-- The outcome of a record whose parts are all final, with the miss cause of a MISSED one (R54). -/
def outcomeOf (parts : List Part) : RecState × Option Cause :=
  if parts.all fun p => p.result.isLost then
    (.missed, parts.head?.bind fun p => p.result.cause?)
  else if parts.any fun p => p.result.isLost then (.partHit, none)
  else if parts.any fun p => decide (p.result = .doneDegraded) then (.degraded, none)
  else (.fired, none)

/-- The outcome rule for one record: it applies once every part is final (R54). -/
def State.outcomeRule (s : State) (id : TrackId) : State :=
  match s.record? id with
  | none => s
  | some r =>
    match r.plan with
    | none => s
    | some p =>
      if (decide (r.state = .planned) || decide (r.state = .firing)) &&
          p.parts.all fun q => q.result.final then
        s.endRecord id (outcomeOf p.parts).1 (outcomeOf p.parts).2
      else s

/-- A part of a bank with a new result, and a new level when one is reported; a final result stays
(R52). -/
def Part.report (q : Part) (b : BankId) (result : PartResult) (level : Option Level) : Part :=
  if q.bank = b ∧ q.result.final = false then
    { q with result := result, level := level.getD q.level }
  else q

/-- A record with a bank's report written into its part; the first OPEN moves PLANNED to FIRING (R52,
R53). -/
def Record.report (r : Record) (b : BankId) (result : PartResult) (level : Option Level) : Record :=
  { r with
    plan := r.plan.map fun p => { p with parts := p.parts.map fun q => q.report b result level }
    state := if r.state = .planned ∧ result = .opened then .firing else r.state }

/-- The record has a part on the bank that is not final yet. -/
def Record.openPart (r : Record) (b : BankId) : Bool :=
  match r.plan with
  | none => false
  | some p => p.parts.any fun q => decide (q.bank = b) && !q.result.final

/-- A bank's report of a part's result (R52, R53, R102): it is written into the part, a LOST part
counts once in the tally of its cause, and the outcome rule is applied. -/
def State.reportPart (s : State) (id : TrackId) (b : BankId) (result : PartResult)
    (level : Option Level) : State :=
  match s.record? id with
  | none => s
  | some r =>
    if r.openPart b then
      let s1 := s.modRecord id fun q => q.report b result level
      let s2 := match result with
        | .lost c => s1.countCause c
        | _ => s1
      s2.outcomeRule id
    else s

/-! ### Flush (R58) -/

/-- Every record leaves, counted FLUSHED under its class, and the TRACK cursor goes to END (R58,
R176). The records' entries leave with the emptying of the bank queues (R124). -/
def State.flush (s : State) : State :=
  let s1 := s.store.records.foldl
    (fun t r => t.modTally r.tallyClass fun k => { k with flushed := satInc k.flushed }) s
  { s1 with
    store := { s1.store with records := [] }
    cursors := { s1.cursors with track := .atEnd } }

/-- Every JOINING record is resolved from its A part and becomes READY (R48). -/
def State.resolveJoining (s : State) : State :=
  { s with store := { s.store with records := s.store.records.map fun r =>
      if r.state = .joining then s.resolveReady r r.aPart none else r } }

end Sys2Proof.Machine
end

