-- ==== Sys2Proof/Machine/Health.lean ====
section
/-!
DEFINITION. Nozzle health (8.3, 8.5) and the fence (R119): coil checks, the drive of a nozzle, the
fence's five steps, the automatic fence, and the readiness test that a fence brings (R155).
-/

namespace Sys2Proof.Machine

/-! ### The readiness test (R155) -/

/-- A bank that Run Control waits for: DARK or CONDITIONING (R154, R155). -/
def BankState.awaited : BankState → Bool
  | .dark | .conditioning _ _ => true
  | .idle | .opened | .settling _ | .switching _ _ | .purging _ _ _ | .fenced => false

/-- Some bank is DARK or CONDITIONING. -/
def State.anyAwaited (s : State) : Bool := allBanks.any fun b => (s.bank b).state.awaited

/-- In CONDITIONING the run state becomes RUN once no bank is awaited (R155). -/
def State.readinessTest (s : State) : State :=
  if s.run = .conditioning ∧ s.anyAwaited = false then { s with run := .run } else s

/-! ### The fence (R119, R126, R151) -/

/-- A bank out of service: nozzles closed, work abandoned, queue empty, purge state reset; the level
stays (R119, R126). -/
def Bank.fencedBank (b : Bank) : Bank :=
  { b with
    state := .fenced, queue := [], nozzles := noNozzleOpen, debt := 0, due := false
    purgeTimer := none }

/-- The five steps of FENCE, and the readiness test they bring; a FENCED bank is left as it is (R119,
R155). -/
def State.fenceBank (s : State) (b : BankId) : State :=
  if (s.bank b).state = .fenced then s
  else
    ((s.bank b).queue.foldl (fun t e => t.reportPart e.track b (.lost .unavailable) none)
      ((s.modBank b Bank.fencedBank).setPulsesCursor b .atEnd)).readinessTest

/-- The automatic fence: when all eight nozzles are FAULTY the bank is fenced and BANK_AUTO_FENCED set,
unless it is FENCED already (R151). -/
def State.autoFence (s : State) (b : BankId) : State :=
  if s.allFaulty b = true ∧ (s.bank b).state ≠ .fenced then
    (s.fenceBank b).setFlag .bankAutoFenced
  else s

/-! ### Coil checks (R146, R147) -/

/-- A nozzle's entry after a good check; a change of grade clears the marked field (R147). -/
def Nozzle.good (n : Nozzle) : Nozzle :=
  match n.grade with
  | .ok => { n with badRun := 0 }
  | .suspect => { grade := .ok, badRun := 0, marked := false }
  | .faulty => n

/-- A nozzle's entry after a bad check (R147). -/
def Nozzle.bad (n : Nozzle) : Nozzle :=
  match n.grade with
  | .ok => { grade := .suspect, badRun := 1, marked := false }
  | .suspect =>
    if n.badRun < 2 then { n with badRun := n.badRun + 1 }
    else { grade := .faulty, badRun := 3, marked := false }
  | .faulty => n

/-- A good check handed to the health map (R147). -/
def State.goodCheck (s : State) (b : BankId) (m : Member) : State :=
  s.setNozzle (nozzleOf b m) (s.nozzle (nozzleOf b m)).good

/-- A bad check handed to the health map: a grading to FAULTY sets NOZZLE_FAULT and is handed to the
automatic fence (R147, R151). -/
def State.badCheck (s : State) (b : BankId) (m : Member) : State :=
  let s1 := s.setNozzle (nozzleOf b m) (s.nozzle (nozzleOf b m)).bad
  if s1.faulty (nozzleOf b m) then (s1.setFlag .nozzleFault).autoFence b else s1

/-! ### Driving a nozzle (R112, R118, R132) -/

/-- A nozzle open until its closing time. -/
def State.openNozzle (s : State) (b : BankId) (m : Member) (closing : Time) : State :=
  s.modBank b fun k => { k with nozzles := k.nozzles.set m (some closing) }

/-- The coil of a nozzle checks good if it is driven at this event. -/
def coilGood (coils : Coils) (b : BankId) (m : Member) : Bool := coils.getLsbD (nozzleOf b m).val

/-- A drive of a closed, healthy nozzle opens it: FIRE-ENABLE is active and the coil checks good
(R112, R118, R132). -/
def State.driveOpens (s : State) (b : BankId) (m : Member) (coils : Coils) : Bool :=
  s.fireEnable && coilGood coils b m

/-- A closed, healthy nozzle is driven, only while FIRE-ENABLE is active (R118): with a good check it
is open until its closing time, with a bad one it stays closed (R112, R132, R146). -/
def State.drive (s : State) (b : BankId) (m : Member) (closing : Time) (coils : Coils) : State :=
  if s.fireEnable then
    if coilGood coils b m then (s.openNozzle b m closing).goodCheck b m else s.badCheck b m
  else s

end Sys2Proof.Machine
end

