-- ==== Sys2Proof/Machine/Purge.lean ====
section
/-!
DEFINITION. When and how a bank purges (7.2, 7.3): the clear window, the purge tests, the opening, and
the end of a purge.
-/

namespace Sys2Proof.Machine

/-- The count equivalent c(t) of a time of t microseconds at a speed V, rounded up; 0 for a V of 0 or
less (R94). -/
def countEquivalent (v : Int) (us : Nat) : Nat := if v ≤ 0 then 0 else ceilDiv (v.toNat * us) 256000

/-- The length S of a bank's clear window (R130). -/
def State.windowLength (s : State) (b : BankId) : Nat :=
  match s.belt.motion with
  | .stopped => 0
  | .moving | .reversing =>
    countEquivalent s.belt.v ((s.bankSettings b).tPG * 1000 + halfMs (s.bankSettings b).tRC)

/-- A position lies in [TC, TC + S] (R130). -/
def State.inWindow (s : State) (span : Nat) (p : Pos) : Bool :=
  atOrPast p s.belt.tc && decide (serialDiff p (posPlus s.belt.tc span) ≤ 0)

/-- The span [P_arr, P_arr + Lo] shares a position with the window (R130). -/
def State.spanMeets (s : State) (span : Nat) (r : Record) : Bool :=
  decide (serialDiff r.pArr (posPlus s.belt.tc span) ≤ 0) &&
    atOrPast (posPlus r.pArr r.length) s.belt.tc

/-- The box shares a column with the bank's columns (R130). -/
def Record.meetsColumns (r : Record) (b : BankId) : Bool :=
  decide (r.first ≤ firstColumn b + 7) && decide (firstColumn b ≤ r.last)

/-- The destination names the bar (R130). -/
def Destination.names : Destination → Bar → Bool
  | .up, .up => true
  | .down, .down => true
  | _, _ => false

/-- An unplanned record that may bring work to the bank: JOINING, or READY with a route that names the
bank's bar (R130). -/
def Record.mayUse (r : Record) (b : BankId) : Bool :=
  match r.state with
  | .joining => true
  | .ready =>
    match r.resolution with
    | some res => res.route.destination.names (barOfBank b)
    | none => false
  | _ => false

/-- The clear window of a bank holds (R130). -/
def State.clearWindow (s : State) (b : BankId) : Bool :=
  let span := s.windowLength b
  ((s.bank b).queue.all fun e =>
      match e.state with
      | .waiting => !s.inWindow span e.trigger
      | .pending => false
      | .opened => true) &&
    s.store.records.all fun r => !(r.mayUse b && r.meetsColumns b && s.spanMeets span r)

/-- The purge is marked opened. -/
def State.markPurgeHit (s : State) (b : BankId) : State :=
  s.modBank b fun k =>
    match k.state with
    | .purging kind ends _ => { k with state := .purging kind ends true }
    | _ => k

/-- One member at a purge opening: not driven when FAULTY, otherwise driven and checked (R132). -/
def State.purgeMember (b : BankId) (closing : Time) (coils : Coils) (s : State) (m : Member) : State :=
  if s.faulty (nozzleOf b m) then s
  else if s.driveOpens b m coils then (s.drive b m closing coils).markPurgeHit b
  else s.drive b m closing coils

/-- The start of a purge: PURGING for tPG, all healthy members in one opening; a forced purge sets
PURGE_FORCED (R131, R132). -/
def State.startPurge (s : State) (b : BankId) (kind : PurgeKind) (coils : Coils) : State :=
  let ends := timePlus s.timeBase ((s.bankSettings b).tPG * 1000)
  let s1 := s.modBank b fun k => { k with state := .purging kind ends false }
  let s2 := match kind with
    | .forced => s1.setFlag .purgeForced
    | .opportunistic => s1
  allMembers.foldl (State.purgeMember b ends coils) s2

/-- Under SHED a bank at HIGH does not purge (R129). -/
def State.purgeBarred (s : State) (b : BankId) : Bool := s.shed && decide ((s.bank b).level = .high)

/-- The purge tests of one bank (R129). -/
def State.purgeTest (coils : Coils) (s : State) (b : BankId) : State :=
  let k := s.bank b
  if k.state = .idle ∧ 1 ≤ k.debt ∧ s.fireEnable = true ∧ s.purgeBarred b = false then
    if k.due then s.startPurge b .forced coils
    else if s.clearWindow b then s.startPurge b .opportunistic coils
    else s
  else s

/-- The purge tests of all sixteen banks, at an event that brings them to every bank (R129). That they
come once, at the end of the event, is DESIGN CHOICE, assumption 8. -/
def State.purgeTests (s : State) (coils : Coils) : State := allBanks.foldl (State.purgeTest coils) s

/-- The bank recharges for tRC from now (R114). -/
def State.settle (s : State) (b : BankId) : State :=
  s.modBank b fun k =>
    { k with state := .settling (timePlus s.timeBase (halfMs (s.bankSettings b).tRC)) }

/-- The debt after a purge: one less if the purge opened, and PURGE_DUE cleared below the maximum
(R133). -/
def Bank.payDebt (b : Bank) (maxDebt : Nat) (hit : Bool) : Bank :=
  if hit then { b with debt := b.debt - 1, due := b.due && decide (maxDebt ≤ b.debt - 1) } else b

/-- The end of a purge at its expiry (R133). -/
def State.endPurge (s : State) (b : BankId) (hit : Bool) : State :=
  (s.modBank b fun k =>
    ({ k with nozzles := noNozzleOpen } : Bank).payDebt (s.bankSettings b).maxDebt hit).settle b

end Sys2Proof.Machine
end

