-- ==== Sys2Proof/Machine/Bank.lean ====
section
/-!
DEFINITION. The pulse queue of a bank (chapter 6): admission, triggers, waves, the free bank's work,
late starts, and the fall of FIRE-ENABLE.
-/

namespace Sys2Proof.Machine

/-! ### Entries (R100, R101) -/

/-- A bank's entry of a track id. -/
def State.entry? (s : State) (b : BankId) (id : TrackId) : Option Entry :=
  (s.bank b).queue.find? fun e => decide (e.track = id)

/-- An entry changed in its place. -/
def State.modEntry (s : State) (b : BankId) (id : TrackId) (f : Entry → Entry) : State :=
  s.modBank b fun k => { k with queue := k.queue.map fun e => if e.track = id then f e else e }

/-- An entry leaves the queue, and the PULSES cursor moves on from it (R101, R176). -/
def State.removeEntry (s : State) (b : BankId) (id : TrackId) : State :=
  (s.modBank b fun k => { k with queue := k.queue.filter fun e => decide (e.track ≠ id) }).setPulsesCursor
    b (s.cursors.pulses[b].leave (s.bank b).keys id.toNat)

/-- Trigger order: by trigger position, and among equal triggers after those admitted before (R101). -/
def queueEntry (e : Entry) : List Entry → List Entry
  | [] => [e]
  | x :: xs => if serialDiff e.trigger x.trigger < 0 then e :: x :: xs else x :: queueEntry e xs

/-- The queue's head: its first WAITING or PENDING entry (R101). -/
def Bank.head? (b : Bank) : Option Entry := b.queue.find? fun e => decide (e.state ≠ .opened)

/-- An entry finishes with a final result: it leaves the queue and its result is reported (R102). -/
def State.finishEntry (s : State) (b : BankId) (id : TrackId) (result : PartResult) : State :=
  (s.removeEntry b id).reportPart id b result none

/-- An entry is LOST; with cause INHIBITED that sets INHIBITED (R102, R118). -/
def State.loseEntry (s : State) (b : BankId) (id : TrackId) (cause : Cause) : State :=
  (s.finishEntry b id (.lost cause)).setFlagIf (decide (cause = .inhibited)) .inhibited

/-- The bank goes to SWITCHING toward a level for tSW (R115). -/
def State.startSwitch (s : State) (b : BankId) (target : Level) : State :=
  s.modBank b fun k =>
    { k with state := .switching target (timePlus s.timeBase ((s.bankSettings b).tSW * 1000)) }

/-- The level a head at the other level asks a bank to switch to; under SHED no switch toward HIGH is
started (R114, R116, R122). -/
def State.switchWanted (s : State) (b : BankId) : Option Level :=
  match (s.bank b).head? with
  | none => none
  | some e =>
    if e.level = (s.bank b).level then none
    else if s.shed = true ∧ e.level = .high then none
    else some e.level

/-- The head test of an IDLE bank (R116). -/
def State.headTest (s : State) (b : BankId) : State :=
  if (s.bank b).state = .idle then
    match s.switchWanted b with
    | some target => s.startSwitch b target
    | none => s
  else s

/-! ### Waves (R111, R112) -/

/-- The nozzles of a mask in a bank's open order (R111). -/
def orderMembers (order : OpenOrder) (mask : Mask) : List Member :=
  let ms := membersOf mask
  match order with
  | .ascending => ms
  | .centreOut =>
    let low := (ms.head?.map fun m => m.val).getD 0
    let high := (ms.getLast?.map fun m => m.val).getD 0
    (List.range 15).flatMap fun d =>
      ms.filter fun m => decide (2 * m.val + d = low + high ∨ 2 * m.val = low + high + d)
  | .alternate =>
    ((ms.zipIdx.filter fun p => decide (p.2 % 2 = 0)) ++
      (ms.zipIdx.filter fun p => decide (p.2 % 2 = 1))).map fun p => p.1

/-- The number of waves a mask needs (R100). -/
def wavesOf (mask : Mask) (mso : Nat) : Nat := ceilDiv (membersOf mask).length mso

/-- The members of wave k + 1 (R111). -/
def waveMembers (order : OpenOrder) (mso : Nat) (mask : Mask) (k : Nat) : List Member :=
  ((orderMembers order mask).drop (k * mso)).take mso

/-- The entry is marked opened (R112). -/
def State.markHit (s : State) (b : BankId) (id : TrackId) : State :=
  s.modEntry b id fun e => { e with hit := true }

/-- One member at a wave (R112): a FAULTY one is left as it is, one already open for another entry stays
open until the later of the two closing times, a closed one is driven. That a member which is FAULTY and
still open for another entry is dealt with as FAULTY is DESIGN CHOICE, assumption 29. -/
def State.waveMember (b : BankId) (id : TrackId) (closing : Time) (coils : Coils) (s : State)
    (m : Member) : State :=
  if s.faulty (nozzleOf b m) then s
  else
    match (s.bank b).nozzles[m] with
    | some present => (s.openNozzle b m (laterOf present closing)).markHit b id
    | none =>
      if s.driveOpens b m coils then (s.drive b m closing coils).markHit b id
      else s.drive b m closing coils

/-- The next wave of an OPEN entry opens now; each nozzle is open for the entry's duration (R112). -/
def State.openWave (s : State) (b : BankId) (id : TrackId) (coils : Coils) : State :=
  match s.entry? b id with
  | none => s
  | some e =>
    match e.pulse with
    | none => s
    | some p =>
      (waveMembers (s.bankSettings b).openOrder (s.bankSettings b).mso e.mask p.wavesOpened).foldl
        (State.waveMember b id (timePlus s.timeBase (halfMs p.duration)) coils)
        (s.modEntry b id fun e => { e with pulse := some { p with wavesOpened := p.wavesOpened + 1 } })

/-- When wave k + 1 of an entry opens: k wave gaps after wave 1 (R112). -/
def waveTime (p : PulseRun) (gap k : Nat) : Time := timePlus p.firstWave (halfMs (k * gap))

/-- An entry opens its first wave for a duration: it is OPEN, its pulse expiry is fixed, the bank goes
to OPEN and the opening is reported with its level (R102, R109, R112, R117). -/
def State.openEntry (s : State) (b : BankId) (id : TrackId) (duration : Nat) (coils : Coils) : State :=
  match s.entry? b id with
  | none => s
  | some e =>
    let expiry := timePlus s.timeBase
      (halfMs ((e.waves - 1) * (s.bankSettings b).waveGap + duration))
    let s1 := s.modEntry b id fun e => { e with
      state := .opened
      pulse := some
        { duration := duration, firstWave := s.timeBase, expiry := expiry, wavesOpened := 0 } }
    ((s1.modBank b fun k => { k with state := .opened }).reportPart id b .opened
      (some e.level)).openWave b id coils

/-! ### Admission (R103 to R108) -/

/-- An offer from the Planner (R92). -/
structure Offer where
  track : TrackId
  mask : Mask
  trigger : Pos
  dp : Nat
  level : Level
  dmin : Nat
  policy : Policy
  speed : Int
  deriving DecidableEq, Repr

/-- A bank that is unavailable to a new part (R98). -/
def Bank.unavailable (b : Bank) : Bool :=
  (match b.state with
    | .dark | .conditioning _ _ | .fenced => true
    | .idle | .opened | .settling _ | .switching _ _ | .purging _ _ _ => false) ||
  b.due || decide (Config.queueCapacity ≤ b.queue.length)

/-- The standing level: the target while SWITCHING, the level in every other state (R99). -/
def Bank.standingLevel (b : Bank) : Level :=
  match b.state with
  | .switching target _ => target
  | _ => b.level

/-- The time a new entry occupies its bank, in microseconds (R104). -/
def busyTime (st : BankSettings) (o : Offer) : Nat :=
  halfMs o.dp + halfMs ((wavesOf o.mask st.mso - 1) * st.waveGap) + halfMs st.tRC

/-- The busy end of a new entry, Ptrig + B (R104). -/
def busyEndOf (st : BankSettings) (o : Offer) : Pos :=
  posPlus o.trigger (countEquivalent o.speed (busyTime st o))

/-- The queue test at a level: an entry at the other level whose busy span overlaps the new one or lies
less than Q counts from it (R105). -/
def State.queueConflict (s : State) (b : BankId) (o : Offer) (level : Level) : Bool :=
  let st := s.bankSettings b
  let q : Int := countEquivalent o.speed (st.tSW * 1000)
  (s.bank b).queue.any fun e =>
    decide (e.level ≠ level) &&
      decide (serialDiff o.trigger (posPlus e.busyEnd q) < 0) &&
      decide (serialDiff e.trigger (posPlus (busyEndOf st o) q) < 0)

/-- The time until the last pulse expiry of a bank's OPEN entries. -/
def Bank.openTimeLeft (b : Bank) (now : Time) : Nat :=
  b.queue.foldl (fun acc e =>
    match e.state, e.pulse with
    | .opened, some p => max acc (timeLeft p.expiry now)
    | _, _ => acc) 0

/-- The time r a bank needs to finish what it is doing and then switch (R106). A bank in a state that
takes no part needs none. -/
def State.switchTime (s : State) (b : BankId) : Nat :=
  let st := s.bankSettings b
  match (s.bank b).state with
  | .idle => st.tSW * 1000
  | .opened => (s.bank b).openTimeLeft s.timeBase + halfMs st.tRC + st.tSW * 1000
  | .settling ends => timeLeft ends s.timeBase + st.tSW * 1000
  | .purging _ ends _ => timeLeft ends s.timeBase + halfMs st.tRC + st.tSW * 1000
  | .switching _ ends => timeLeft ends s.timeBase + st.tSW * 1000
  | .dark | .conditioning _ _ | .fenced => 0

/-- The standing-level test at a level (R106). -/
def State.standingConflict (s : State) (b : BankId) (o : Offer) (level : Level) : Bool :=
  decide ((s.bank b).standingLevel ≠ level) &&
    decide (serialDiff o.trigger s.belt.tc < countEquivalent o.speed (s.switchTime b))

/-- A conflict at a level: under SHED every HIGH part, otherwise by the two tests (R103, R107). -/
def State.conflictAt (s : State) (b : BankId) (o : Offer) (level : Level) : Bool :=
  (s.shed && decide (level = .high)) || s.queueConflict b o level || s.standingConflict b o level

/-- The new entry of an admitted part (R100, R108). -/
def newEntry (st : BankSettings) (o : Offer) (level : Level) : Entry :=
  { track := o.track
    trigger := o.trigger
    dp := o.dp
    level := level
    mask := o.mask
    dmin := o.dmin
    policy := o.policy
    waves := wavesOf o.mask st.mso
    busyEnd := busyEndOf st o
    degraded := decide (level ≠ o.level)
    state := .waiting
    triggerTime := none
    hit := false
    pulse := none }

/-- A part admitted at a level: it joins the queue, WAITING is reported with the level, and an IDLE
bank makes the head test (R102, R108). -/
def State.enqueue (s : State) (b : BankId) (o : Offer) (level : Level) : State :=
  ((s.modBank b fun k =>
    { k with queue := queueEntry (newEntry (s.bankSettings b) o level) k.queue }).reportPart
      o.track b .waiting (some level)).headTest b

/-- The level a bank admits an offer at, or the cause it refuses it with (R103, R107). -/
def State.admission (s : State) (b : BankId) (o : Offer) : Except Cause Level :=
  if (s.bank b).unavailable then .error .unavailable
  else if s.conflictAt b o o.level = false then .ok o.level
  else
    match o.policy with
    | .yield => .error .conflict
    | .degrade =>
      if s.conflictAt b o o.level.other then .error .conflict else .ok o.level.other

/-- A bank takes an offer (R103). -/
def State.offer (s : State) (b : BankId) (o : Offer) : State :=
  match s.admission b o with
  | .ok level => s.enqueue b o level
  | .error cause => s.reportPart o.track b (.lost cause) none

/-! ### Triggers (R109) -/

/-- What becomes of an entry at its trigger. -/
inductive TriggerAction where
  | loses (cause : Cause)
  | opens
  | opensDegraded
  | pends
  deriving DecidableEq, Repr

/-- The first row of R109 that applies to an entry of a bank. -/
def State.triggerAction (s : State) (b : BankId) (e : Entry) : TriggerAction :=
  if s.fireEnable = false then .loses .inhibited
  else if s.suspension then .loses .suspended
  else if s.shed = true ∧ e.level = .high then .loses .pressure
  else
    match (s.bank b).state with
    | .idle | .opened =>
      if e.level = (s.bank b).level then .opens
      else
        match e.policy with
        | .yield => .loses .conflict
        | .degrade =>
          if s.shed = true ∧ (s.bank b).level = .high then .loses .pressure else .opensDegraded
    | _ => .pends

/-- One WAITING entry whose trigger is reached is dealt with whole (R109). -/
def State.trigger (b : BankId) (coils : Coils) (s : State) (id : TrackId) : State :=
  match s.entry? b id with
  | none => s
  | some e =>
    if e.state = .waiting then
      let s1 := s.modEntry b id fun e => { e with triggerTime := some s.timeBase }
      match s.triggerAction b e with
      | .loses cause => (s1.loseEntry b id cause).headTest b
      | .opens => s1.openEntry b id e.dp coils
      | .opensDegraded =>
        (s1.modEntry b id fun e =>
          { e with level := (s.bank b).level, degraded := true }).openEntry b id e.dp coils
      | .pends => s1.modEntry b id fun e => { e with state := .pending }
    else s

/-- The WAITING entries of a bank whose triggers TC has reached, in queue order (R109). -/
def State.reachedTriggers (s : State) (b : BankId) : List TrackId :=
  ((s.bank b).queue.filter fun e =>
    decide (e.state = .waiting) && atOrPast s.belt.tc e.trigger).map fun e => e.track

/-- The trigger test of one bank at a forward count (R109). -/
def State.triggerTest (coils : Coils) (s : State) (b : BankId) : State :=
  (s.reachedTriggers b).foldl (State.trigger b coils) s

/-! ### Late starts and the free bank (R116, R117) -/

/-- The wait of a PENDING entry in half-milliseconds, rounded up (R117). -/
def State.waited (s : State) (e : Entry) : Nat :=
  match e.triggerTime with
  | some t => ceilDiv (s.timeBase - t).toNat 500
  | none => 0

/-- The late start of a PENDING entry (R117). -/
def State.lateStart (b : BankId) (coils : Coils) (s : State) (id : TrackId) : State :=
  match s.entry? b id with
  | none => s
  | some e =>
    if e.state = .pending then
      if s.fireEnable = false then s.loseEntry b id .inhibited
      else if s.suspension then s.loseEntry b id .suspended
      else if s.shed = true ∧ e.level = .high then s.loseEntry b id .pressure
      else if e.dmin + s.waited e ≤ e.dp then s.openEntry b id (e.dp - s.waited e) coils
      else s.loseEntry b id .lateStart
    else s

/-- The PENDING entries that free-bank work gives a late start: those at the bank's level, and under
SHED those at HIGH whatever the bank's level (R116). -/
def State.lateStarters (s : State) (b : BankId) : List TrackId :=
  ((s.bank b).queue.filter fun e =>
    decide (e.state = .pending) &&
      (decide (e.level = (s.bank b).level) || (s.shed && decide (e.level = .high)))).map fun e => e.track

/-- The free-bank work of a bank that has become IDLE (R116): the head test; if it starts no switch,
the late starts; then the head test that a lost entry brings, and the purge tests. That the second
head test comes after the last late start is DEDUCED, assumption 9. -/
def State.freeBankWork (s : State) (b : BankId) (coils : Coils) : State :=
  let s1 := s.headTest b
  if (s1.bank b).state = .idle then
    (((s1.lateStarters b).foldl (State.lateStart b coils) s1).headTest b).purgeTest coils b
  else s1

/-- The end of a recharge (R114). -/
def State.rechargeDone (s : State) (b : BankId) (coils : Coils) : State :=
  match s.switchWanted b with
  | some target => s.startSwitch b target
  | none => (s.modBank b fun k => { k with state := .idle }).freeBankWork b coils

/-- The end of a level switch (R115). -/
def State.switchDone (s : State) (b : BankId) (target : Level) (coils : Coils) : State :=
  (s.modBank b fun k => { k with state := .idle, level := target }).freeBankWork b coils

/-! ### Pulse expiry (R113) -/

/-- The result of an entry that has run to its expiry or was cut by FIRE-ENABLE (R102, R113, R118);
`unopened` is the cause when no nozzle of it opened. -/
def Entry.endResult (e : Entry) (unopened : Cause) : PartResult :=
  if e.hit then (if e.degraded then .doneDegraded else .done) else .lost unopened

/-- The nozzles whose closing time has come are closed. -/
def closeDue (nozzles : Vector (Option Time) 8) (now : Time) : Vector (Option Time) 8 :=
  Vector.ofFn fun i =>
    match nozzles[i] with
    | some t => if atOrPast now t then none else some t
    | none => none

/-- An entry at its pulse expiry: due nozzles close, the entry finishes, and after the last OPEN entry
the bank recharges (R113). -/
def State.pulseEnds (s : State) (b : BankId) (e : Entry) : State :=
  let s1 := s.modBank b fun k => { k with nozzles := closeDue k.nozzles s.timeBase }
  let s2 := s1.finishEntry b e.track (e.endResult .unavailable)
  if (s2.bank b).state = .opened ∧ anyOpen (s2.bank b).queue = false then s2.settle b else s2

/-! ### The fall of FIRE-ENABLE (R118) -/

/-- The bank's state at a fall: OPEN and PURGING recharge, a conditioning sequence holds at step 1
(R118, R136). -/
def BankState.cut (st : BankState) (recharged : Time) : BankState :=
  match st with
  | .opened => .settling recharged
  | .purging _ _ _ => .settling recharged
  | .conditioning _ _ => .conditioning 1 none
  | .dark => .dark
  | .idle => .idle
  | .settling ends => .settling ends
  | .switching target ends => .switching target ends
  | .fenced => .fenced

/-- An OPEN entry cut by FIRE-ENABLE finishes; a PENDING one is LOST (R118). -/
def State.cutEntry (b : BankId) (s : State) (e : Entry) : State :=
  match e.state with
  | .waiting => s
  | .pending => s.loseEntry b e.track .inhibited
  | .opened =>
    match e.endResult .inhibited with
    | .lost c => s.loseEntry b e.track c
    | r => s.finishEntry b e.track r

/-- One bank at a fall of FIRE-ENABLE (R118). -/
def State.cutBank (s : State) (b : BankId) : State :=
  let recharged := timePlus s.timeBase (halfMs (s.bankSettings b).tRC)
  let s1 := s.modBank b fun k => { k with nozzles := noNozzleOpen, state := k.state.cut recharged }
  (((s.bank b).queue.filter fun e => decide (e.state ≠ .waiting)).foldl (State.cutEntry b) s1).headTest b

end Sys2Proof.Machine
end

