-- ==== Sys2Proof/Machine/Planner.lean ====
section
/-!
DEFINITION. The Planner (chapter 5) and the planning event (R50, R51): speed check, Lead, duration,
trigger, columns and substitutes, parts, offers.
-/

namespace Sys2Proof.Machine

/-! ### The window arithmetic (R84 to R86) -/

/-- The trim of a bar (R79). -/
def Settings.trim (st : Settings) : Bar → Int
  | .up => st.upTrim
  | .down => st.downTrim

/-- The latency of a bar in microseconds (R79). -/
def Settings.latency (st : Settings) : Bar → Nat
  | .up => st.upLatency
  | .down => st.downLatency

/-- Lead: V × Lv plus 128,000, integer-divided by 256,000, clamped to 0–65,535 (R84). The speed has
passed the check of R82, so it is positive. -/
def leadOf (v : Int) (latency : Nat) : Nat := clampNat 0 65535 ((v.toNat * latency + 128000) / 256000)

/-- Units: (Lo + 2 × Pd) × 512 / V, rounded up (R85). -/
def unitsOf (v : Int) (length pad : Nat) : Nat := ceilDiv ((length + 2 * pad) * 512) v.toNat

/-- Dp: units clamped to the route copy's Dmin to Dmax (R85). -/
def durationOf (v : Int) (length pad : Nat) (r : Route) : Nat :=
  clampNat r.dmin r.dmax (unitsOf v length pad)

/-- The trigger position P_arr + T − Pd − Lead, modulo 2^32 (R86). -/
def triggerOf (pArr : Pos) (trim : Int) (pad lead : Nat) : Pos := posPlus pArr (trim - pad - lead)

/-- The lead pad of a pass: the route copy's, widened by the slip margin while slip is ACTIVE (R19,
R80). -/
def State.padOf (s : State) (r : Route) : Nat :=
  if s.belt.slip then r.leadPad + s.settings.slipMargin else r.leadPad

/-! ### Columns and parts (R88 to R90) -/

/-- The nozzle of a column on a bar. -/
def nozzleAt (bar : Bar) (column : Nat) : NozzleId :=
  Fin.ofNat 128 (match bar with
    | .up => column
    | .down => 64 + column)

/-- A column that exists and whose nozzle on the bar is healthy (R89). -/
def State.healthyColumn (s : State) (bar : Bar) (column : Nat) : Bool :=
  decide (column ≤ 63) && !s.faulty (nozzleAt bar column)

/-- The first and last column of the padded span, clipped to 0–63 (R88). -/
def paddedSpan (first last pad : Nat) : Nat × Nat := (first - pad, min (last + pad) 63)

/-- The columns of a span. -/
def spanColumns (f l : Nat) : List Nat := (List.range 64).filter fun c => decide (f ≤ c ∧ c ≤ l)

/-- A removed column lies on the lower side of the span (R89). -/
def lowerSide (f l c : Nat) : Bool := decide (c - f ≤ l - c)

/-- The substitute on the lower side: column f − 1, or else f − 2 (R89). -/
def State.lowerSubstitute (s : State) (bar : Bar) (f : Nat) : Option Nat :=
  if 1 ≤ f ∧ s.healthyColumn bar (f - 1) = true then some (f - 1)
  else if 2 ≤ f ∧ s.healthyColumn bar (f - 2) = true then some (f - 2)
  else none

/-- The substitute on the upper side: column l + 1, or else l + 2 (R89). -/
def State.upperSubstitute (s : State) (bar : Bar) (l : Nat) : Option Nat :=
  if s.healthyColumn bar (l + 1) then some (l + 1)
  else if s.healthyColumn bar (l + 2) then some (l + 2)
  else none

/-- The columns an eject opens: the healthy ones of the padded span, and one substitute for each side
that had a nozzle removed (R89). -/
def State.ejectColumns (s : State) (bar : Bar) (f l : Nat) : List Nat :=
  let span := spanColumns f l
  let removed := span.filter fun c => !s.healthyColumn bar c
  let lower :=
    if removed.any (lowerSide f l) then (s.lowerSubstitute bar f).toList else []
  let upper :=
    if removed.any fun c => !lowerSide f l c then (s.upperSubstitute bar l).toList else []
  lower ++ (span.filter fun c => s.healthyColumn bar c) ++ upper

/-- The members of a bank's columns among the columns of an eject, as a mask (R90). -/
def maskOfColumns (columns : List Nat) (n : Nat) : Mask :=
  columns.foldl (fun acc c => if c / 8 = n then acc ||| BitVec.twoPow 8 (c % 8) else acc) 0

/-- The parts of an eject, one for each bank with a member, lowest bank first (R90). -/
def partsOf (bar : Bar) (level : Level) (columns : List Nat) : List Part :=
  (List.range 8).filterMap fun n =>
    if maskOfColumns columns n = 0 then none
    else some
      { bank := bankOf bar (8 * n), mask := maskOfColumns columns n, level := level, result := .waiting }

/-! ### The planning pass (R78, R82, R87, R91, R92) -/

/-- The bar that a destination names; PASS names none (R66). -/
def Destination.bar? : Destination → Option Bar
  | .pass => none
  | .up => some .up
  | .down => some .down

/-- The offer of one part (R92). -/
def offerOf (id : TrackId) (r : Route) (plan : Plan) (speed : Int) (p : Part) : Offer :=
  { track := id, mask := p.mask, trigger := plan.trigger, dp := plan.dp, level := r.level
    dmin := r.dmin, policy := r.policy, speed := speed }

/-- The plan of a record at one pass: Lead, Dp, trigger and parts (R84 to R90). -/
def State.planOf (s : State) (r : Record) (route : Route) (bar : Bar) : Plan :=
  let pad := s.padOf route
  let lead := leadOf s.belt.v (s.settings.latency bar)
  let span := paddedSpan r.first r.last route.spanPad
  { lead := lead
    dp := durationOf s.belt.v r.length pad route
    trigger := triggerOf r.pArr (s.settings.trim bar) pad lead
    parts := partsOf bar route.level (s.ejectColumns bar span.1 span.2) }

/-- A record found LATE or SLOW: MISSED with that cause, which is tallied (R55, R82, R87). -/
def State.missRecord (s : State) (id : TrackId) (cause : Cause) : State :=
  (s.countCause cause).endRecord id .missed (some cause)

/-- A planning pass of a READY record on a bar (R78). -/
def State.planPass (s : State) (r : Record) (route : Route) (bar : Bar) : State :=
  if s.belt.v < s.settings.vmin then
    if atOrPast s.belt.tc (posPlus r.pArr (s.settings.trim bar)) then s.missRecord r.id .slow else s
  else
    let plan := s.planOf r route bar
    if atOrPast s.belt.tc plan.trigger then s.missRecord r.id .late
    else if plan.parts = [] then
      (s.modRecord r.id fun q => { q with plan := some plan }).missRecord r.id .unavailable
    else
      plan.parts.foldl (fun t p => t.offer p.bank (offerOf r.id route plan s.belt.v p))
        (s.modRecord r.id fun q => { q with plan := some plan, state := .planned })

/-- A READY record at its planning event, or a held one at a speed sample, is dealt with by its route
copy (R51). -/
def State.dealReady (s : State) (id : TrackId) : State :=
  match s.record? id with
  | none => s
  | some r =>
    match r.state, r.resolution with
    | .ready, some res =>
      match res.route.destination.bar? with
      | none => s.endRecord id .passed none
      | some bar => s.planPass r res.route bar
    | _, _ => s

/-- A record lies within its planning horizon (R50). -/
def State.withinHorizon (s : State) (r : Record) : Bool :=
  decide (serialDiff r.pArr s.belt.tc ≤ (s.settings.horizon : Int))

/-- The planning event of a record: its horizon mark becomes REACHED, a JOINING record is resolved from
its A part, and it is dealt with (R50, R51). -/
def State.planningEvent (s : State) (id : TrackId) : State :=
  (s.modRecord id fun r =>
    if r.state = .joining then { s.resolveReady r r.aPart none with reached := true }
    else { r with reached := true }).dealReady id

/-- The horizon test of one record (R50). -/
def State.horizonTest (s : State) (id : TrackId) : State :=
  match s.record? id with
  | none => s
  | some r => if r.reached = false ∧ s.withinHorizon r = true then s.planningEvent id else s

/-- The horizon test of every record whose mark is NOT_REACHED, in store order, as each count brings it
(R50). -/
def State.horizonAll (s : State) : State :=
  (s.store.records.filter fun r => !r.reached && s.withinHorizon r).foldl
    (fun t r => t.planningEvent r.id) s

/-- A record enters the store, is tested against the horizon once, and the purge tests that its creation
brings follow (R43, R47, R50, R60, R129). -/
def State.addRecord (s : State) (make : TrackId → Nat → Record) (coils : Coils) : State :=
  ((s.createRecord make).horizonTest s.store.idToUse).purgeTests coils

/-- Every held record is handed to the Planner again, in store order (R51, R83). -/
def State.planHeld (s : State) : State :=
  (s.store.records.filter fun r => r.held).foldl (fun t r => t.dealReady r.id) s

end Sys2Proof.Machine
end

