-- ==== Sys2Proof/Machine/Conditioning.lean ====
section
/-!
DEFINITION. Conditioning (7.4): the seven steps, their holds, and the events that take held steps up
again: the rise of FIRE-ENABLE and the end of SHED (R116, R129, R136, R144).
-/

namespace Sys2Proof.Machine

/-- The bank stands at a conditioning step, running until `ends` or holding (R135, R136). -/
def State.atStep (s : State) (b : BankId) (step : Nat) (ends : Option Time) : State :=
  s.modBank b fun k => { k with state := .conditioning step ends }

/-- The purge timer started with tPI (R127). -/
def State.startPurgeTimer (s : State) (b : BankId) : State :=
  s.modBank b fun k =>
    { k with purgeTimer := some (timePlus s.timeBase ((s.bankSettings b).tPI * 1000000)) }

/-- Step 7: debt 0, PURGE_DUE clear, the purge timer restarted, IDLE, the free-bank work, and Run
Control's readiness test (R137, R155). -/
def State.beginStep7 (b : BankId) (coils : Coils) (s : State) : State :=
  (((s.modBank b fun k => { k with state := .idle, debt := 0, due := false }).startPurgeTimer
    b).freeBankWork b coils).readinessTest

/-- Step 6: the switch to LOW (R135). -/
def State.beginStep6 (b : BankId) (s : State) : State :=
  s.atStep b 6 (some (timePlus s.timeBase ((s.bankSettings b).tSW * 1000)))

/-- Step 5: settle for tRC; with tRC 0 it ends at once (R135). -/
def State.beginStep5 (b : BankId) (s : State) : State :=
  if (s.bankSettings b).tRC = 0 then s.beginStep6 b
  else s.atStep b 5 (some (timePlus s.timeBase (halfMs (s.bankSettings b).tRC)))

/-- One member at a conditioning purge opening: not driven when FAULTY, otherwise driven and checked
(R132, R135). -/
def State.stepMember (b : BankId) (closing : Time) (coils : Coils) (s : State) (m : Member) : State :=
  if s.faulty (nozzleOf b m) then s else s.drive b m closing coils

/-- A purge step: it holds while SHED is in force or FIRE-ENABLE is inactive, otherwise it opens the
bank's healthy nozzles for tPG (R135, R136). -/
def State.purgeStep (b : BankId) (coils : Coils) (step : Nat) (s : State) : State :=
  if s.shed = true ∨ s.fireEnable = false then s.atStep b step none
  else
    let ends := timePlus s.timeBase ((s.bankSettings b).tPG * 1000)
    allMembers.foldl (State.stepMember b ends coils) (s.atStep b step (some ends))

/-- Step 3: settle for tRC; with tRC 0 it ends at once and step 4 begins (R135). -/
def State.beginStep3 (b : BankId) (coils : Coils) (s : State) : State :=
  if (s.bankSettings b).tRC = 0 then s.purgeStep b coils 4
  else s.atStep b 3 (some (timePlus s.timeBase (halfMs (s.bankSettings b).tRC)))

/-- Step 1: it holds while FIRE-ENABLE is inactive; a level already HIGH ends it at once; under SHED a
bank not at HIGH holds; otherwise the switch to HIGH runs for tSW (R135, R136). -/
def State.beginStep1 (b : BankId) (coils : Coils) (s : State) : State :=
  if s.fireEnable = false then s.atStep b 1 none
  else if (s.bank b).level = .high then s.purgeStep b coils 2
  else if s.shed then s.atStep b 1 none
  else s.atStep b 1 (some (timePlus s.timeBase ((s.bankSettings b).tSW * 1000)))

/-- A held step tried again (R136): only the steps that ask for HIGH hold. -/
def State.retryStep (coils : Coils) (s : State) (b : BankId) : State :=
  match (s.bank b).state with
  | .conditioning 1 none => s.beginStep1 b coils
  | .conditioning 2 none => s.purgeStep b coils 2
  | .conditioning 4 none => s.purgeStep b coils 4
  | _ => s

/-- A timed step ends and the next begins (R135): the switches take their level, the purge steps close
their nozzles. -/
def State.stepDone (s : State) (b : BankId) (step : Nat) (coils : Coils) : State :=
  match step with
  | 1 => (s.modBank b fun k => { k with level := .high }).purgeStep b coils 2
  | 2 => (s.modBank b fun k => { k with nozzles := noNozzleOpen }).beginStep3 b coils
  | 3 => s.purgeStep b coils 4
  | 4 => (s.modBank b fun k => { k with nozzles := noNozzleOpen }).beginStep5 b
  | 5 => s.beginStep6 b
  | 6 => (s.modBank b fun k => { k with level := .low }).beginStep7 b coils
  | _ => s

/-- A DARK bank begins conditioning: its purge timer starts, its debt is 0, step 1 (R127, R135). -/
def State.beginConditioning (coils : Coils) (s : State) (b : BankId) : State :=
  ((s.modBank b fun k => { k with debt := 0, due := false }).startPurgeTimer b).beginStep1 b coils

/-- The end of SHED at one bank: an IDLE bank makes the head test, a held step begins (R116, R144). -/
def State.shedEndBank (coils : Coils) (s : State) (b : BankId) : State :=
  (s.headTest b).retryStep coils b

/-- The end of SHED, handed to all banks and to the purge logic (R129, R144). -/
def State.shedEnd (s : State) (coils : Coils) : State :=
  (allBanks.foldl (State.shedEndBank coils) s).purgeTests coils

/-- What follows an event that may have ended SHED: `was` says whether it was in force before. -/
def State.afterShed (s : State) (was : Bool) (coils : Coils) : State :=
  if was = true ∧ s.shed = false then s.shedEnd coils else s

end Sys2Proof.Machine
end

