-- ==== Sys2Proof/Machine/Run.lean ====
section
/-!
DEFINITION. Run Control's teardown (R158): the entry to HALTED, taken by every block as one event, and
the halt requests that lead to it.
-/

namespace Sys2Proof.Machine

/-- A bank at the entry to HALTED and at warm reset (R96, R124, R126): DARK, or FENCED if it was; queue
empty, nozzles closed, work abandoned, purge state reset, level kept. -/
def Bank.darkened (b : Bank) : Bank :=
  { b with
    state := if b.state = .fenced then .fenced else .dark
    queue := [], nozzles := noNozzleOpen, debt := 0, due := false, purgeTimer := none }

/-- Every bank torn down. -/
def State.darkenBanks (s : State) : State :=
  { s with banks := Vector.ofFn fun b => (s.banks[b]).darkened }

/-- Every collection cursor at END (R174). -/
def Cursors.collectionsAtEnd (c : Cursors) : Cursors :=
  { c with
    track := .atEnd
    pulses := Vector.replicate 16 .atEnd
    latch := { sa := .atEnd, sb := .atEnd, bm := .atEnd, mx := .atEnd } }

/-- The entry to HALTED: the store is flushed, the banks go dark, the latch watches stop and their
FIFOs, counters and marks are reset (R22, R58, R124, R158, R174). -/
def State.enterHalted (s : State) (cause : HaltCause) : State :=
  let s1 := s.flush.darkenBanks
  { s1 with
    latches := {}
    cursors := s1.cursors.collectionsAtEnd
    run := .halted cause }

/-- A halt request of a limit or of the supply logic, which ask only in CONDITIONING, RUN and DRAIN
(R15, R143, R158). -/
def State.haltRequest (s : State) (cause : HaltCause) : State :=
  match s.run with
  | .conditioning | .run | .drain => s.enterHalted cause
  | .setup | .halted _ => s

end Sys2Proof.Machine
end

