-- ==== Sys2Proof/Machine/Belt.lean ====
section
/-!
DEFINITION. The Belt Position Unit (chapter 1): encoder decoding, counts, the speed sample, the stall
timer, the travel limits and the belt-mark slip check.
-/

namespace Sys2Proof.Machine

/-! ### Encoder decoding (R2, R3) -/

/-- What a change on the encoder lines is. -/
inductive EdgeKind where
  /-- Neither level differs from its reference. -/
  | unchanged
  /-- Both levels differ at once (R3). -/
  | phaseError
  /-- An edge that does not count under the decode mode (R2). -/
  | silent
  /-- An edge that counts, forward or reverse (R2). -/
  | counts (forward : Bool)
  deriving DecidableEq, Repr

/-- The sense of a count: the raw direction under the direction setting (R2). -/
def senseOf (d : Direction) (rawForward : Bool) : Bool :=
  match d with
  | .normal => rawForward
  | .inverted => !rawForward

/-- The decoding of a change to the levels (a, b) against the reference levels (R2, R3). -/
def decodeEdge (mode : DecodeMode) (d : Direction) (refA refB a b : Bool) : EdgeKind :=
  if a = refA ∧ b = refB then .unchanged
  else if a ≠ refA ∧ b ≠ refB then .phaseError
  else if a ≠ refA then
    match mode with
    | .x4 | .x2 => .counts (senseOf d (decide (a ≠ refB)))
    | .x1 => if refB then .silent else .counts (senseOf d (decide (a ≠ refB)))
  else
    match mode with
    | .x4 => .counts (senseOf d (decide (b = refA)))
    | .x2 | .x1 => .silent

/-! ### Counts (R4, R6, R7, R10, R11) -/

/-- The reverse excursion: HW minus TC (R6, R7). -/
def Belt.rx (b : Belt) : Int := serialDiff b.hw b.tc

/-- TC and HW after a count (R4, R6): HW follows a forward count past it, and is moved back by one when
a reverse count would take HW minus TC past 2^31 − 1. -/
def Belt.counted (b : Belt) (forward : Bool) : Belt :=
  if forward then
    { b with
      tc := b.tc + 1
      hw := if 1 ≤ serialDiff (b.tc + 1) b.hw then b.tc + 1 else b.hw }
  else
    { b with
      tc := b.tc - 1
      hw := if 2147483647 < (b.hw - (b.tc - 1)).toNat then b.hw - 1 else b.hw }

/-- The motion state a count sets, with HW and RX up to date (R11). -/
def Belt.motionAfter (b : Belt) (forward : Bool) : Motion :=
  if forward = false ∧ 8 < b.rx then .reversing else .moving

/-- A crossing of a travel limit applies the limit action (R15). -/
def State.limitCrossed (s : State) (cause : HaltCause) : State :=
  match s.settings.limitAction with
  | .note | .suspend => s
  | .halt => s.haltRequest cause

/-- The test of the reverse condition at a count (R14). -/
def State.reverseTest (s : State) (forward : Bool) : State :=
  if s.belt.reverse then
    if s.belt.rx = 0 then { s with belt := { s.belt with reverse := false } } else s
  else if forward = false ∧ s.settings.reverseLimit ≠ 0 ∧ s.settings.reverseLimit < s.belt.rx then
    (({ s with belt := { s.belt with reverse := true } } : State).setFlag .limitReverse).limitCrossed
      .reverseLimit
  else s

/-- A count at the Belt Position Unit: HW and RX, the motion state with the stall timer, the reverse
limit (R4). -/
def State.beltCount (s : State) (forward : Bool) : State :=
  let b := s.belt.counted forward
  ({ s with belt := { b with
      motion := b.motionAfter forward
      stallTimer := some (timePlus s.timeBase (s.settings.stallWindow * 1000)) } } : State).reverseTest
    forward

/-- A count handed on to the blocks that keep positions of their own: the store tests planning horizons
and retirements, the banks test triggers on a forward count, the purge logic makes its tests (R4,
R50, R56, R109, R129). The order among the blocks is R4's; that the horizons come before the
retirements is DESIGN CHOICE, assumption 7. -/
def State.handCount (s : State) (forward : Bool) (coils : Coils) : State :=
  let s1 := s.horizonAll.retireAll
  let s2 := if forward then allBanks.foldl (State.triggerTest coils) s1 else s1
  s2.purgeTests coils

/-- One count (R4). -/
def State.count (s : State) (forward : Bool) (coils : Coils) : State :=
  (s.beltCount forward).handCount forward coils

/-- The reference levels take the new levels of the lines (R2, R3). -/
def State.takeLevels (s : State) (a b : Bool) : State :=
  { s with belt := { s.belt with refA := a, refB := b } }

/-- ENCODER_EDGE: a change on the encoder lines (R2, R3, R4). -/
def execEncoderEdge (a b : Bool) (coils : Coils) (s : State) : Host.Outcome State Fault Refusal :=
  event s fun s =>
    match decodeEdge s.settings.decodeMode s.settings.direction s.belt.refA s.belt.refB a b with
    | .unchanged => s
    | .phaseError => (s.takeLevels a b).setFlag .phaseErr
    | .silent => s.takeLevels a b
    | .counts forward => (s.takeLevels a b).count forward coils

/-! ### The speed sample (R8, R9, R13) -/

/-- Δ: the counts since the previous sample, clamped to −255 to +255 (R8). -/
def Belt.sampleDelta (b : Belt) : Int := clampInt (-255) 255 (serialDiff b.tc b.sampleRef)

/-- V after a sample S: a step of S − V shifted right arithmetically by k, clamped (R9). -/
def smoothed (v sample : Int) (k : Nat) : Int := clampInt (-65535) 65535 (v + (sample - v) >>> k)

/-- The overspeed test at a sample (R13). -/
def State.overspeedTest (s : State) : State :=
  if s.settings.overspeedLimit = 0 then s
  else if s.belt.overspeed then
    if s.belt.v * 16 ≤ s.settings.overspeedLimit * 15 then
      { s with belt := { s.belt with overspeed := false } }
    else s
  else if s.settings.overspeedLimit < s.belt.v then
    (({ s with belt := { s.belt with overspeed := true } } : State).setFlag .limitSpeed).limitCrossed
      .speedLimit
  else s

/-- The sample timer's expiry: a sample is taken, V follows, and the free-running timer goes on (R8,
R9). -/
def State.takeSample (s : State) : State :=
  let s1 := s.atTime s.belt.sampleTimer
  { s1 with belt := { s1.belt with
      v := smoothed s1.belt.v (s1.belt.sampleDelta * 256) s1.settings.smoothing
      sampleRef := s1.belt.tc
      sampleTimer := timePlus s1.belt.sampleTimer Config.samplePeriod } }

/-- SPEED_SAMPLE: the sample, the overspeed limit, the held records, the purge tests (R8, R13, R51, R83,
R129). R8 names the two that take the new V in no order; that the overspeed test, with the flush of a
HALT, comes before the held records is DESIGN CHOICE, assumption 28. -/
def execSpeedSample (coils : Coils) (s : State) : Host.Outcome State Fault Refusal :=
  event s fun s => s.takeSample.overspeedTest.planHeld.purgeTests coils

/-! ### The stall timer (R10) -/

/-- STALL_TIMER_EXPIRY: the belt is STOPPED and BELT_STOP_SEEN set; a stopped timer does not expire
(R10, R129). -/
def execStallTimerExpiry (coils : Coils) (s : State) : Host.Outcome State Fault Refusal :=
  event s fun s =>
    match s.belt.stallTimer with
    | none => s
    | some t =>
      let s1 := s.atTime t
      (({ s1 with belt := { s1.belt with motion := .stopped, stallTimer := none } } : State).setFlag
        .beltStopSeen).purgeTests coils

/-! ### The belt mark (R17, R18) -/

/-- The slip check of a measured loop (R18). -/
def State.slipCheck (s : State) (loop : Int) : State :=
  if s.settings.loopLength = 0 then s
  else if (s.settings.slipTolerance : Int) < (loop - s.settings.loopLength).natAbs then
    ({ s with belt := { s.belt with slip := true } } : State).setFlag .slip
  else { s with belt := { s.belt with slip := false } }

/-- A BM capture in EVERY mode (R17): without a previous mark it becomes one; otherwise the loop is
measured and checked, and the capture becomes the previous mark. -/
def State.markCapture (s : State) (position : Pos) : State :=
  match s.belt.prevMark with
  | none => { s with belt := { s.belt with prevMark := some position } }
  | some previous =>
    let loop := serialDiff position previous
    ({ s with belt := { s.belt with
        lastLoop := some loop
        prevMark := some position } } : State).slipCheck loop

end Sys2Proof.Machine
end

