-- ==== Sys2Proof/Machine/Latch.lean ====
section
/-!
DEFINITION. The Strobe Latch Unit (2.1 to 2.4): watches, the strobe filter, captures, the report
deadline, and the requests LATCH-WATCH and LATCH-NOW.
-/

namespace Sys2Proof.Machine

/-- The sequence numbers of a FIFO, as cursor keys. -/
def Latch.keys (l : Latch) : List Nat := l.fifo.map fun e => e.seq.toNat

/-- A channel changed by a function of it. -/
def State.modLatch (s : State) (c : Channel) (f : Latch → Latch) : State := s.setLatch c (f (s.latch c))

/-- The flag of a strobe overrun (R27). -/
def overrunFlag : Channel → Option Flag
  | .sa => some .strobeOverrunA
  | .sb => some .strobeOverrunB
  | .bm | .mx => none

/-- The UNREPORTED flag of a channel (R29). -/
def unreportedFlag : Channel → Option Flag
  | .sa => some .unreportedA
  | .sb => some .unreportedB
  | .bm | .mx => none

/-- A flag set, if there is one. -/
def State.setFlag? (s : State) (f : Option Flag) : State :=
  match f with
  | some g => s.setFlag g
  | none => s

/-- The oldest entry leaves the FIFO, and the LATCH cursor moves on from it (R176). -/
def State.popOldest (s : State) (c : Channel) : State :=
  match (s.latch c).fifo with
  | [] => s
  | e :: rest =>
    (s.modLatch c fun l => { l with fifo := rest }).setLatchCursor c
      ((s.cursors.latch.get c).leave (s.latch c).keys e.seq.toNat)

/-- The oldest entry is removed as UNREPORTED: the flag of its channel and the global tally (R29). -/
def State.removeUnreported (s : State) (c : Channel) : State :=
  ((s.popOldest c).modGlobals fun g => { g with unreported := satInc g.unreported }).setFlag?
    (unreportedFlag c)

/-- So many of the oldest entries are removed as UNREPORTED, each counted once (R29, R30, R35). -/
def State.removeOldest (s : State) (c : Channel) : Nat → State
  | 0 => s
  | n + 1 => (s.removeUnreported c).removeOldest c n

/-- Room made for a capture (R27): a full SA or SB FIFO loses its oldest entry as UNREPORTED with the
overrun flag; BM and MX lose the entry they hold. -/
def State.makeRoom (s : State) (c : Channel) : State :=
  match c with
  | .sa | .sb =>
    if Config.headFifoDepth ≤ (s.latch c).fifo.length then
      (s.removeUnreported c).setFlag? (overrunFlag c)
    else s
  | .bm | .mx => s.popOldest c

/-- The deadline expiry of a capture (R30): SA and SB entries hold one. -/
def State.deadlineOf (s : State) (c : Channel) (time : Time) : Option Time :=
  match c with
  | .sa | .sb => some (timePlus time (s.settings.reportDeadline * 1000))
  | .bm | .mx => none

/-- The status a capture made while watching leaves: CAPTURED set, TOGGLE changed, and a FIRST-mode
watch ended (R26). -/
def Latch.marked (l : Latch) (mode : LatchMode) : Latch :=
  { l with
    captured := true
    toggle := !l.toggle
    watch := match mode with
      | .first => false
      | .every => l.watch }

/-- A capture of a position and time on a channel (R26, R27): the numbered entry joins as the newest,
the counter goes on, and while watching the status follows. -/
def State.capture (s : State) (c : Channel) (position : Pos) (time : Time) : State :=
  (s.makeRoom c).modLatch c fun l =>
    let l1 : Latch :=
      { l with
        fifo := l.fifo ++
          [{ seq := l.seq, position := position, time := time, deadline := s.deadlineOf c time }]
        seq := l.seq + 1 }
    if l.watch then l1.marked (s.settings.mode c) else l1

/-- A capture from a pending edge, handed on: a BM capture in EVERY mode goes to the slip check (R17,
R26). -/
def State.lineCapture (s : State) (line : Line) (position : Pos) (time : Time) : State :=
  let s1 := s.capture (channelOfLine line) position time
  match line with
  | .sa | .sb => s1
  | .bm =>
    match s.settings.mode .bm with
    | .every => s1.markCapture position
    | .first => s1

/-- ACTIVE_EDGE: on a watching channel a change of the line to its active level keeps TC and the time
as the pending edge and starts the filter timer (R25). -/
def execActiveEdge (line : Line) (high : Bool) (s : State) : Host.Outcome State Fault Refusal :=
  event s fun s =>
    if (s.latch (channelOfLine line)).watch = true ∧ high = (s.settings.line line).edge.activeHigh then
      s.modLatch (channelOfLine line) fun l =>
        { l with
          edge := some
            { position := s.belt.tc
              time := s.timeBase
              filterEnds := timePlus s.timeBase (s.settings.line line).filter.width } }
    else s

/-- STROBE_RETURN: a change of the line back to its inactive level while the filter timer runs discards
the pending edge (R25). -/
def execStrobeReturn (line : Line) (high : Bool) (s : State) : Host.Outcome State Fault Refusal :=
  event s fun s =>
    if high = (s.settings.line line).edge.activeHigh then s
    else s.modLatch (channelOfLine line) fun l => { l with edge := none }

/-- FILTER_EXPIRY: a pending edge still present is captured with its own position and time (R25, R26). -/
def execFilterExpiry (line : Line) (s : State) : Host.Outcome State Fault Refusal :=
  event s fun s =>
    match (s.latch (channelOfLine line)).edge with
    | none => s
    | some p =>
      ((s.atTime p.filterEnds).modLatch (channelOfLine line) fun l => { l with edge := none }).lineCapture line
        p.position p.time

/-- How many entries of a FIFO are older than the one of a number; none if it is not held. -/
def olderThan : List LatchEntry → Byte → Option Nat
  | [], _ => none
  | e :: rest, n => if e.seq = n then some 0 else (olderThan rest n).map (· + 1)

/-- DEADLINE_EXPIRY: the entry of this number, if still held, and every older one are removed as
UNREPORTED (R30). -/
def execDeadlineExpiry (head : Head) (seq : Byte) (s : State) : Host.Outcome State Fault Refusal :=
  event s fun s =>
    let c := channelOfLine (lineOfHead head)
    match (s.latch c).fifo.find? fun e => decide (e.seq = seq) with
    | none => s
    | some e =>
      match e.deadline, olderThan (s.latch c).fifo seq with
      | some t, some n => (s.atTime t).removeOldest c (n + 1)
      | _, _ => s

/-- A watch start: FIFO and counter emptied, CAPTURED and TOGGLE reset, WATCH set, and for BM the
previous mark made absent (R17, R23, R176). -/
def State.startWatch (s : State) (c : Channel) : State :=
  let s1 := (s.setLatch c { watch := true }).setLatchCursor c .atEnd
  match c with
  | .bm => { s1 with belt := { s1.belt with prevMark := none } }
  | .sa | .sb | .mx => s1

/-- A watch stop: everything but the counter is reset (R23, R176). -/
def State.stopWatch (s : State) (c : Channel) : State :=
  (s.setLatch c { seq := (s.latch c).seq }).setLatchCursor c .atEnd

/-- LATCH_WATCH (R23, R172): channel, then 0 for off or 1 for on. -/
def execLatchWatch (tag : Byte) (payload : List Byte) (s : State) : Host.Outcome State Fault Refusal :=
  serve 0x10 tag payload [2] (fun s =>
    match channelOfCode (byteAt payload 0).toNat, (byteAt payload 1).toNat with
    | some c, 0 => (okWith [], s.stopWatch c)
    | some c, 1 => (okWith [], s.startWatch c)
    | _, _ => (refusal .range, s)) s

/-- LATCH_NOW: TC and the time base are captured on MX, watching or not, and the entry is returned
(R26, R28). -/
def execLatchNow (tag : Byte) (payload : List Byte) (s : State) : Host.Outcome State Fault Refusal :=
  serve 0x11 tag payload [0] (fun s =>
    (okWith ([(s.latch .mx).seq] ++ bytes4 s.belt.tc ++ bytes4 s.timeBase),
      s.capture .mx s.belt.tc s.timeBase)) s

end Sys2Proof.Machine
end

