-- ==== Sys2Proof/Machine/Heads.lean ====
section
/-!
DEFINITION. The heads (2.5, 2.6) and what their reports make of the store: conditions and silence
timers, clamping, binding, creation and joining (3.2, 3.3).
-/

namespace Sys2Proof.Machine

/-! ### Head conditions (R33, R34) -/

/-- A head's status changed by a function of it. -/
def State.modHead (s : State) (h : Head) (f : HeadStatus → HeadStatus) : State :=
  { s with heads := s.heads.put h (f (s.heads.get h)) }

/-- The flag of a head's loss (R33). -/
def headLostFlag : Head → Flag
  | .a => .headLostA
  | .b => .headLostB

/-- The silence timer restarted with the timeout in force (R33). -/
def State.restartSilence (s : State) (h : Head) : State :=
  s.modHead h fun k =>
    { k with silence := some (timePlus s.timeBase (s.settings.silenceTimeout * 1000)) }

/-- Head B's loss at the Track Store: the JOINING records are resolved, and the purge tests follow if
there were any; a store with none is not changed (R48, R129). -/
def State.joiningLost (s : State) (coils : Coils) : State :=
  if s.store.records.any fun r => decide (r.state = .joining) then
    s.resolveJoining.purgeTests coils
  else s

/-- A PRESENT head becomes LOST: its flag is set, and head B's loss is handed to the Track Store; a
LOST head stays LOST (R33, R34, R48). -/
def State.headLost (s : State) (h : Head) (coils : Coils) : State :=
  if (s.heads.get h).present then
    let s1 := (s.modHead h fun k => { k with present := false }).setFlag (headLostFlag h)
    match h with
    | .a => s1
    | .b => s1.joiningLost coils
  else s

/-- A frame of a head port with a wrong KIND or LEN, or found at fault: the port's error count goes up
to its maximum (R31). -/
def State.frameError (s : State) (h : Head) : State :=
  s.modHead h fun k =>
    { k with frameErrors :=
        if k.frameErrors < Config.frameErrorMax then k.frameErrors + 1 else k.frameErrors }

/-- A HEAD_STATE frame: with its LEN of 1 the silence timer is restarted, and READY makes the head
PRESENT, any other byte LOST; a wrong LEN is a frame error (R31, R33). -/
def State.takeHeadState (s : State) (h : Head) (payload : List Byte) (coils : Coils) : State :=
  match payload with
  | [b] =>
    let s1 := s.restartSilence h
    if b = 0x01 then s1.modHead h fun k => { k with present := true }
    else s1.headLost h coils
  | _ => s.frameError h

/-! ### Clamping (R32) -/

/-- A REPORT's fields as they stand in its payload (10.9.2). -/
structure ReportFields where
  seq : Byte
  first : Nat
  last : Nat
  length : Nat
  cls : Nat
  confidence : Nat
  deriving DecidableEq, Repr

/-- The fields of a REPORT payload of 7 bytes. -/
def readReport (payload : List Byte) : ReportFields :=
  { seq := byteAt payload 0
    first := (byteAt payload 1).toNat
    last := (byteAt payload 2).toNat
    length := read2 (byteAt payload 3) (byteAt payload 4)
    cls := (byteAt payload 5).toNat
    confidence := (byteAt payload 6).toNat }

/-- The fields brought into range (R32): columns to 63, a length of 0 to 1, a class above 31 to 0, a
confidence to 15; then columns in the wrong order are swapped. -/
def ReportFields.clamped (r : ReportFields) : ReportFields :=
  let f := min r.first 63
  let l := min r.last 63
  { seq := r.seq
    first := min f l
    last := max f l
    length := max r.length 1
    cls := if r.cls < 32 then r.cls else 0
    confidence := min r.confidence 15 }

/-- The head's part of a record: the clamped fields with the matched position (R36, 3.1.1). -/
def ReportFields.part (r : ReportFields) (position : Pos) : HeadPart :=
  { position := position, first := r.first, last := r.last, length := r.length
    cls := classOfCode r.cls, confidence := r.confidence }

/-! ### Creation and joining (R43 to R47) -/

/-- The class a dropped report is counted under (R44). -/
def State.dropReport (s : State) (p : HeadPart) : State :=
  (s.modTally (s.candidateClass p) fun t => { t with dropped := satInc t.dropped }).setFlag .storeFull

/-- A new record of one head's part, not yet resolved (R43, R47). -/
def newRecord (pArr : Pos) (a b : Option HeadPart) (p : HeadPart) (id : TrackId) (born : Nat) : Record :=
  { id := id, born := born, state := .joining, aPart := a, bPart := b, pArr := pArr
    first := p.first, last := p.last, length := p.length, reached := false
    resolution := none, plan := none, missCause := none }

/-- A record created, or the report dropped by a full store, which leaves the records as they were and
so brings no purge test (R43, R44, R47, R129). -/
def State.createOrDrop (s : State) (p : HeadPart) (make : TrackId → Nat → Record) (coils : Coils) :
    State :=
  if s.store.full then s.dropReport p else s.addRecord make coils

/-- A bound head A report in RUN (R43): a JOINING record, or a READY one while head B is LOST. -/
def State.reportA (s : State) (p : HeadPart) (coils : Coils) : State :=
  let pArr := posPlus p.position s.settings.dA
  s.createOrDrop p (fun id born =>
    let r := newRecord pArr (some p) none p id born
    if s.heads.b.present then r else s.resolveReady r (some p) none) coils

/-- The join tolerance in use (R19, R42). -/
def State.joinReach (s : State) : Nat :=
  if s.belt.slip then s.settings.joinTolerance + s.settings.slipMargin else s.settings.joinTolerance

/-- The distance of a record from an arrival position (R45). -/
def Record.distance (r : Record) (pArrB : Pos) : Nat := (serialDiff r.pArr pArrB).natAbs

/-- A record is a candidate for a head B report (R45): JOINING, near enough, and its A part's columns
meet the report's when each is widened by one column. -/
def State.candidate (s : State) (p : HeadPart) (pArrB : Pos) (r : Record) : Bool :=
  decide (r.state = .joining) && decide (r.distance pArrB ≤ s.joinReach) &&
    match r.aPart with
    | some a => decide (p.first ≤ a.last + 2) && decide (a.first ≤ p.last + 2)
    | none => false

/-- The better of two candidates: the nearer, and among equals the one created first (R45). -/
def betterCandidate (pArrB : Pos) (x y : Record) : Record :=
  if y.distance pArrB < x.distance pArrB then y
  else if y.distance pArrB = x.distance pArrB ∧ y.born < x.born then y
  else x

/-- The candidate a head B report joins, if there is one (R45). -/
def State.joinChoice (s : State) (p : HeadPart) (pArrB : Pos) : Option Record :=
  match s.store.records.filter (s.candidate p pArrB) with
  | [] => none
  | r :: rest => some (rest.foldl (betterCandidate pArrB) r)

/-- A record joined by a head B report (R46): B part, P_arr, box and length, class, READY. -/
def State.joined (s : State) (r : Record) (p : HeadPart) (pArrB : Pos) : Record :=
  s.resolveReady
    { r with
      bPart := some p
      pArr := pArrB
      first := min r.first p.first
      last := max r.last p.last
      length := max r.length p.length }
    r.aPart (some p)

/-- The join: the record is changed and takes its new place, is then tested against the horizon once,
and the purge tests that its change brings follow (R40, R46, R50, R129). -/
def State.join (s : State) (r : Record) (p : HeadPart) (pArrB : Pos) (coils : Coils) : State :=
  (({ s with store := { s.store with
      records := place (s.joined r p pArrB) (s.store.records.filter fun q => decide (q.id ≠ r.id)) } }
    : State).horizonTest r.id).purgeTests coils

/-- A bound head B report in RUN (R45 to R47). -/
def State.reportB (s : State) (p : HeadPart) (coils : Coils) : State :=
  let pArrB := posPlus p.position s.settings.dB
  match s.joinChoice p pArrB with
  | some r => s.join r p pArrB coils
  | none =>
    s.createOrDrop p (fun id born =>
      s.resolveReady (newRecord pArrB none (some p) p id born) none (some p)) coils

/-- A bound report handed to the store in RUN; in every other run state it is discarded and leaves
nothing (R36). -/
def State.handReport (s : State) (h : Head) (p : HeadPart) (coils : Coils) : State :=
  if s.run = .run then
    match h with
    | .a => s.reportA p coils
    | .b => s.reportB p coils
  else s

/-! ### Binding (R35) -/

/-- The flag of an orphan (R35). -/
def orphanFlag : Head → Flag
  | .a => .orphanA
  | .b => .orphanB

/-- The binding of a clamped report (R35): older entries are UNREPORTED, the matched one leaves the
FIFO, and the report is handed on with its position; without a match it is an orphan. -/
def State.bind (s : State) (h : Head) (r : ReportFields) (coils : Coils) : State :=
  let c := channelOfLine (lineOfHead h)
  match (s.latch c).fifo.find? fun e => decide (e.seq = r.seq), olderThan (s.latch c).fifo r.seq with
  | some e, some n => ((s.removeOldest c n).popOldest c).handReport h (r.part e.position) coils
  | _, _ => s.setFlag (orphanFlag h)

/-- A REPORT frame: with its LEN of 7 the silence timer is restarted, the fields are clamped and bound;
a wrong LEN is a frame error (R31, R32, R35). -/
def State.takeReport (s : State) (h : Head) (payload : List Byte) (coils : Coils) : State :=
  if payload.length = 7 then
    let r := readReport payload
    ((s.restartSilence h).setFlagIf (decide (r ≠ r.clamped)) .reportClamped).bind h r.clamped coils
  else s.frameError h

/-! ### The commands -/

/-- The receiver of a head port stands in HUNT after a frame (R168). -/
def State.huntHead (s : State) (h : Head) : State := s.setReceiver (.head h) {}

/-- REPORT: a REPORT frame of a head, whole and with a good CRC (R31, R35). -/
def execReport (h : Head) (payload : List Byte) (coils : Coils) (s : State) :
    Host.Outcome State Fault Refusal :=
  event s fun s => (s.huntHead h).takeReport h payload coils

/-- HEAD_STATE: a HEAD_STATE frame of a head, whole and with a good CRC (R31, R33). -/
def execHeadState (h : Head) (payload : List Byte) (coils : Coils) (s : State) :
    Host.Outcome State Fault Refusal :=
  event s fun s => (s.huntHead h).takeHeadState h payload coils

/-- SILENCE_TIMER_EXPIRY: the timer stops, and a PRESENT head becomes LOST (R33); a stopped timer does
not expire. -/
def execSilenceTimerExpiry (h : Head) (coils : Coils) (s : State) : Host.Outcome State Fault Refusal :=
  event s fun s =>
    match (s.heads.get h).silence with
    | none => s
    | some t =>
      ((s.atTime t).modHead h fun k => { k with silence := none }).headLost h coils

end Sys2Proof.Machine
end

