-- ==== Sys2Proof/WellFormed.lean ====
section
/-!
DEFINITION. Which commands can come about: a frame's payload fits LEN (R167), a READ of LEN 1 is the
short read's row and no other READ is (R177), a WRITE goes to the row of the table its locator names
(R172), and the UNKNOWN_KIND row is for KINDs outside the request catalogue (R170, R172).
-/

namespace Sys2Proof

/-- The KIND codes of the requests, 0x01–0x13 (10.9.1). -/
def isRequestKind (kind : Byte) : Bool := decide (1 ≤ kind.toNat) && decide (kind.toNat ≤ 0x13)

/-- The code of the NOZZLE table in a locator (10.9.6). -/
def nozzleTableCode : Byte := 4

/-- The payload of a frame holds at most 240 bytes (R167). -/
def payloadFits (payload : List Byte) : Bool := decide (payload.length ≤ Config.maxPayload)

/-- The commands that can come about on the part's lines. -/
def Instr.wellFormed : Instr → Bool
  | .powerOn _ _ _ => true
  | .encoderEdge _ _ _ => true
  | .speedSample _ => true
  | .stallTimerExpiry _ => true
  | .activeEdge _ _ => true
  | .strobeReturn _ _ => true
  | .filterExpiry _ => true
  | .deadlineExpiry _ _ => true
  | .frameAccepted _ _ payload => payloadFits payload
  | .frameFault _ => true
  | .frameTimerExpiry _ => true
  | .report _ payload _ => payloadFits payload
  | .headState _ payload _ => payloadFits payload
  | .silenceTimerExpiry _ _ => true
  | .wave _ _ _ => true
  | .nozzleClosing _ _ => true
  | .pulseExpiry _ _ => true
  | .rechargeExpiry _ _ => true
  | .switchExpiry _ _ => true
  | .fireEnableFall => true
  | .fireEnableRise _ => true
  | .purgeTimerExpiry _ _ => true
  | .purgeExpiry _ => true
  | .conditioningStepExpiry _ _ => true
  | .pressureSample _ => true
  | .status _ payload => payloadFits payload
  | .clearFlags _ payload _ => payloadFits payload
  | .get _ payload => payloadFits payload
  | .set _ payload _ => payloadFits payload
  | .save _ payload => payloadFits payload
  | .saveComplete => true
  | .start _ payload _ => payloadFits payload
  | .stop _ payload => payloadFits payload
  | .abortRun _ payload => payloadFits payload
  | .resume _ payload => payloadFits payload
  | .reset _ payload => payloadFits payload
  | .warmReset => true
  | .read _ payload => payloadFits payload && decide (payload.length ≠ 1)
  | .shortRead _ payload => decide (payload.length = 1)
  | .writeRoute _ payload => payloadFits payload && decide (payload.head? ≠ some nozzleTableCode)
  | .writeNozzle _ payload => payloadFits payload && decide (payload.head? = some nozzleTableCode)
  | .fence _ payload => payloadFits payload
  | .unfence _ payload _ => payloadFits payload
  | .setLevel _ payload => payloadFits payload
  | .latchWatch _ payload => payloadFits payload
  | .latchNow _ payload => payloadFits payload
  | .inject _ payload _ => payloadFits payload
  | .clearTallies _ payload => payloadFits payload
  | .unknownKind kind _ payload => payloadFits payload && !isRequestKind kind
  | .frameSent => true
  | .byteReceived _ _ _ _ => true
  | .powerFailure => true

end Sys2Proof
end

