-- ==== Sys2Proof/Machine/Link.lean ====
section
/-!
DEFINITION. The receivers, the request queue and the transmitter of the link (10.1 to 10.3): bytes,
frames, faults, frames sent, and the answer to an unknown KIND.
-/

namespace Sys2Proof.Machine

/-! ### Frames (R168, R169) -/

/-- A frame fault of a port, once its receiver is back in HUNT: LINK_FAULT on the control link, the
frame error count on a head port (R31, R168). -/
def State.frameFault (s : State) (p : Port) : State :=
  match p with
  | .control => (s.setReceiver p {}).setFlag .linkFault
  | .head h => (s.setReceiver p {}).frameError h

/-- A frame accepted on the control link joins the request queue; with 2 waiting it is discarded and
LINK_FAULT set (R169). -/
def State.acceptRequest (s : State) (f : Frame) : State :=
  if s.link.requests.length < Config.requestCapacity then
    { s with link := { s.link with requests := s.link.requests ++ [f] } }
  else s.setFlag .linkFault

/-- The KIND of a REPORT frame (10.9.1). -/
def reportKind : Byte := 0x40

/-- The KIND of a HEAD_STATE frame (10.9.1). -/
def headStateKind : Byte := 0x41

/-- A frame with a good CRC, handed on while the receiver returns to HUNT (R31, R168, R169). -/
def State.acceptFrame (s : State) (p : Port) (f : Frame) (coils : Coils) : State :=
  let s1 := s.setReceiver p {}
  match p with
  | .control => s1.acceptRequest f
  | .head h =>
    if f.kind = reportKind then s1.takeReport h f.payload coils
    else if f.kind = headStateKind then s1.takeHeadState h f.payload coils
    else s1.frameError h

/-- FRAME_ACCEPTED: on the control link (R169). -/
def execFrameAccepted (kind tag : Byte) (payload : List Byte) (s : State) :
    Host.Outcome State Fault Refusal :=
  event s fun s =>
    (s.setReceiver .control {}).acceptRequest { kind := kind, tag := tag, payload := payload }

/-- FRAME_FAULT (R168). -/
def execFrameFault (p : Port) (s : State) : Host.Outcome State Fault Refusal :=
  event s fun s => s.frameFault p

/-- FRAME_TIMER_EXPIRY: a frame still under way is a frame fault; a stopped timer does not expire
(R168). -/
def execFrameTimerExpiry (p : Port) (s : State) : Host.Outcome State Fault Refusal :=
  event s fun s =>
    match (s.link.receiver p).timer with
    | none => s
    | some t => (s.atTime t).frameFault p

/-! ### Bytes (R168) -/

/-- What a received byte does at a receiver. -/
inductive ByteEffect where
  /-- The receiver goes on to a state. -/
  | goes (state : RxState)
  /-- A frame begins: the frame timer starts. -/
  | begins
  | accepts (frame : Frame)
  | faults
  deriving DecidableEq, Repr

/-- The receiver after LEN, or after the last payload byte: the rest of the frame. -/
def afterHeader (kind tag : Byte) (len : Nat) : ByteEffect :=
  if Config.maxPayload < len then .faults
  else if len = 0 then .goes (.check { kind := kind, tag := tag, payload := [] } none)
  else .goes (.payload kind tag len [])

/-- A byte received with its stop bit (R168). -/
def RxState.take (r : RxState) (byte : Byte) : ByteEffect :=
  match r with
  | .hunt => if byte = 0xA5 then .begins else .goes .hunt
  | .header [kind, tag] => afterHeader kind tag byte.toNat
  | .header got => .goes (.header (got ++ [byte]))
  | .payload kind tag len got =>
    if len ≤ got.length + 1 then
      .goes (.check { kind := kind, tag := tag, payload := got ++ [byte] } none)
    else .goes (.payload kind tag len (got ++ [byte]))
  | .check f none => .goes (.check f (some byte))
  | .check f (some first) => if first ++ byte = crcOf f.body then .accepts f else .faults

/-- A byte received without its stop bit: discarded in HUNT, a frame fault elsewhere (R168). -/
def RxState.takeBroken (r : RxState) : ByteEffect :=
  match r with
  | .hunt => .goes .hunt
  | .header _ | .payload _ _ _ _ | .check _ _ => .faults

/-- A byte's effect carried out (R168). -/
def State.takeByte (s : State) (p : Port) (e : ByteEffect) (coils : Coils) : State :=
  match e with
  | .goes st => s.setReceiver p { s.link.receiver p with state := st }
  | .begins =>
    s.setReceiver p
      { state := .header [], timer := some (timePlus s.timeBase Config.frameTimeout) }
  | .accepts f => s.acceptFrame p f coils
  | .faults => s.frameFault p

/-- BYTE_RECEIVED (R168). -/
def execByteReceived (p : Port) (byte : Byte) (stopBit : Bool) (coils : Coils) (s : State) :
    Host.Outcome State Fault Refusal :=
  event s fun s =>
    let r := (s.link.receiver p).state
    s.takeByte p (if stopBit then r.take byte else r.takeBroken) coils

/-! ### Frames sent (R169, R171) -/

/-- The request in service when the frame being sent is out: its reply ends the service, and the reply
of a RESET leaves the warm reset to be made (R161, R169). -/
def Service.replySent : Service → Service
  | .sending true => .resetting
  | .sending false => .free
  | .free => .free
  | .writing tag copy ends => .writing tag copy ends
  | .replying reply thenReset => .replying reply thenReset
  | .resetting => .resetting

/-- FRAME_SENT: the transmitter is free, and takes the next frame at the close of the event (R171). A
transmitter that sends nothing finishes nothing. -/
def execFrameSent (s : State) : Host.Outcome State Fault Refusal :=
  event s fun s =>
    match s.link.transmitter with
    | none => s
    | some t =>
      let s1 := s.atTime t.ends
      { s1 with link := { s1.link with
          transmitter := none
          service := if t.isReply then s1.link.service.replySent else s1.link.service } }

/-- UNKNOWN_KIND: the reply of KIND 0xFF with the status and the KIND received (R170). A KIND of the
catalogue is no unknown one. -/
def execUnknownKind (kind tag : Byte) (payload : List Byte) (s : State) :
    Host.Outcome State Fault Refusal :=
  .next (match s.takeRequest { kind := kind, tag := tag, payload := payload } with
    | none => s
    | some s0 =>
      if isRequestKind kind then s
      else
        closeEvent s0 (s0.handReply
          { kind := 0xFF, tag := tag, payload := [Status.unknownKind.code, kind] } false))

end Sys2Proof.Machine
end

