-- ==== Sys2Proof/Machine/Supply.lean ====
section
/-!
DEFINITION. The supply logic (8.1): the pressure sample, the low test and the pressure policy.
-/

namespace Sys2Proof.Machine

/-- The reading in kilopascals of a current in microamperes (R139). -/
def readingOf (microamps : Nat) : Nat :=
  if microamps < 4000 then 0
  else if 20000 < microamps then 1000
  else (microamps - 4000) * 625 / 10000

/-- The setting of PRESSURE_LOW, with what the policy in force makes of it (R143). SHED follows from
the flag and the policy (R144). -/
def State.pressureLow (s : State) : State :=
  match s.settings.pressurePolicy with
  | .note | .shed => s.setFlag .pressureLow
  | .halt => (s.setFlag .pressureLow).haltRequest .pressure

/-- The low test of a reading, while it is running (R140). -/
def State.lowTest (s : State) (reading : Nat) : State :=
  if s.supply.testing then
    if reading < s.settings.pressureThreshold then
      if s.supply.lowRun < 2 then
        { s with supply := { s.supply with lowRun := s.supply.lowRun + 1 } }
      else
        ({ s with supply := { s.supply with lowRun := 0, testing := false } } : State).pressureLow
    else { s with supply := { s.supply with lowRun := 0 } }
  else s

/-- The low test restarted with a low run of 0 (R141). -/
def State.restartLowTest (s : State) : State :=
  { s with supply := { s.supply with testing := true, lowRun := 0 } }

/-- PRESSURE_SAMPLE: the free-running timer's expiry, the reading, the low test (R139, R140). -/
def execPressureSample (microamps : Nat) (s : State) : Host.Outcome State Fault Refusal :=
  event s fun s =>
    let s1 := s.atTime s.supply.timer
    ({ s1 with supply := { s1.supply with
        timer := timePlus s1.supply.timer Config.pressurePeriod
        reading := readingOf microamps } } : State).lowTest (readingOf microamps)

end Sys2Proof.Machine
end

