-- ==== Sys2Proof/Machine/RunControl.lean ====
section
/-!
DEFINITION. The requests that act on the run state, the banks, the store and the flags: START, STOP,
ABORT-RUN, RESUME, RESET and the warm reset (chapter 9), FENCE, UNFENCE and SET-LEVEL (6.7), INJECT and
CLEAR-TALLIES (chapter 3), CLEAR-FLAGS (10.6).
-/

namespace Sys2Proof.Machine

/-! ### START (R154) -/

/-- The geometry check: D_A greater than D_B + J, and D_B greater than H + J (R154). -/
def Settings.geometryValid (st : Settings) : Bool :=
  decide (st.dB + st.joinTolerance < st.dA) && decide (st.horizon + st.joinTolerance < st.dB)

/-- Every one of the sixteen banks is FENCED (R154). -/
def State.allFenced (s : State) : Bool := allBanks.all fun b => decide ((s.bank b).state = .fenced)

/-- A bank that is DARK begins conditioning (R135, R154). -/
def State.conditionDark (coils : Coils) (s : State) (b : BankId) : State :=
  if (s.bank b).state = .dark then s.beginConditioning coils b else s

/-- The effect of a START that is taken: DARK banks begin conditioning, and the run state is set by
whether a bank is waited for (R154). -/
def State.startRun (s : State) (coils : Coils) : State :=
  let s1 := allBanks.foldl (State.conditionDark coils) s
  { s1 with run := if s1.anyAwaited then .conditioning else .run }

/-- START (R154). -/
def execStart (tag : Byte) (payload : List Byte) (coils : Coils) (s : State) :
    Host.Outcome State Fault Refusal :=
  serve 0x06 tag payload [0] (fun s =>
    if s.run ≠ .setup then (refusal .refusedState, s)
    else if s.settings.geometryValid = false then (refusal .settingsInvalid, s)
    else if s.allFenced then (refusal .refusedState, s)
    else (okWith (bytes1 (s.startRun coils).run.code), s.startRun coils)) s

/-! ### STOP (R156) -/

/-- A STOP in RUN with an empty store passes through DRAIN: its first STATE notice (R153, R156). -/
def State.passDrain (s : State) : State :=
  if s.run = .run ∧ s.store.records = [] then s.raise (.state .drain) else s

/-- STOP (R156, R157). -/
def execStop (tag : Byte) (payload : List Byte) (s : State) : Host.Outcome State Fault Refusal :=
  serveAfter State.passDrain 0x07 tag payload [0] (fun s =>
    match s.run with
    | .run =>
      if s.store.records = [] then (okWith (bytes1 RunState.setup.code), { s with run := .setup })
      else (okWith (bytes1 RunState.drain.code), { s with run := .drain })
    | .conditioning => (okWith (bytes1 RunState.setup.code), { s with run := .setup })
    | .setup | .drain | .halted _ => (refusal .refusedState, s)) s

/-! ### ABORT-RUN and RESUME (R159, R160) -/

/-- ABORT-RUN (R159). -/
def execAbortRun (tag : Byte) (payload : List Byte) (s : State) : Host.Outcome State Fault Refusal :=
  serve 0x08 tag payload [0] (fun s =>
    match s.run with
    | .setup | .conditioning | .run | .drain => (okWith [], s.enterHalted .host)
    | .halted _ => (refusal .refusedState, s)) s

/-- RESUME (R160). -/
def execResume (tag : Byte) (payload : List Byte) (s : State) : Host.Outcome State Fault Refusal :=
  serve 0x09 tag payload [0] (fun s =>
    match s.run with
    | .halted _ => (okWith [], { s with run := .setup })
    | .setup | .conditioning | .run | .drain => (refusal .refusedState, s)) s

/-! ### RESET and the warm reset (R161) -/

/-- RESET: the reply OK goes out first; the warm reset follows its end (R161). -/
def execReset (tag : Byte) (payload : List Byte) (s : State) : Host.Outcome State Fault Refusal :=
  serve 0x0A tag payload [0] (fun s =>
    ({ status := .ok, data := [], thenReset := true }, s)) s

/-- The link at warm reset: the waiting requests and notices are discarded, the notice number is 0, and
the RESET is no longer in service; the receivers are kept (R161, R168, R169, R180). -/
def Link.reset (l : Link) : Link :=
  { l with requests := [], service := .free, notices := [], noticeNumber := 0 }

/-- The belt at warm reset: conditions INACTIVE, previous mark and last loop absent (R161, R20). -/
def Belt.reset (b : Belt) : Belt :=
  { b with overspeed := false, reverse := false, slip := false, prevMark := none, lastLoop := none }

/-- A head's frame error count at warm reset; its condition and silence timer are kept (R161). -/
def HeadStatus.reset (h : HeadStatus) : HeadStatus := { h with frameErrors := 0 }

/-- The warm reset, taken by each block on its own state; it queues no notice (R161, 10.8). -/
def State.warmReset (s : State) : State :=
  let s1 := s.darkenBanks
  { s1 with
    run := .setup
    store := {}
    latches := {}
    flags := s1.flags &&& Flag.powerUp.mask
    supply := { s1.supply with testing := true, lowRun := 0 }
    belt := s1.belt.reset
    heads := { a := s1.heads.a.reset, b := s1.heads.b.reset }
    cursors := {}
    link := s1.link.reset }

/-- WARM_RESET: it follows the end of the reply of a RESET that was taken (R161); at any other moment
there is no reset to make. -/
def execWarmReset (s : State) : Host.Outcome State Fault Refusal :=
  .next (if s.powered = true ∧ s.link.service = .resetting then s.warmReset else s)

/-! ### FENCE, UNFENCE and SET-LEVEL (R119 to R121) -/

/-- FENCE (R119). -/
def execFence (tag : Byte) (payload : List Byte) (s : State) : Host.Outcome State Fault Refusal :=
  serve 0x0D tag payload [1] (fun s =>
    match bankOfCode (byteAt payload 0) with
    | none => (refusal .range, s)
    | some b => (okWith [], s.fenceBank b)) s

/-- A bank that is unfenced: DARK with its level as it was, queue empty, purge state reset (R120,
R126). -/
def Bank.unfenced (b : Bank) : Bank :=
  { b with
    state := .dark, queue := [], nozzles := noNozzleOpen, debt := 0, due := false
    purgeTimer := none }

/-- The effect of an UNFENCE that is taken: in RUN and CONDITIONING the bank begins conditioning at
once (R120, R135). -/
def State.unfenceBank (s : State) (b : BankId) (coils : Coils) : State :=
  let s1 := s.modBank b Bank.unfenced
  match s.run with
  | .run | .conditioning => s1.beginConditioning coils b
  | .setup | .drain | .halted _ => s1

/-- UNFENCE (R120). -/
def execUnfence (tag : Byte) (payload : List Byte) (coils : Coils) (s : State) :
    Host.Outcome State Fault Refusal :=
  serve 0x0E tag payload [1] (fun s =>
    match bankOfCode (byteAt payload 0) with
    | none => (refusal .range, s)
    | some b =>
      if (s.bank b).state ≠ .fenced then (refusal .refusedState, s)
      else if s.allFaulty b then (refusal .refusedState, s)
      else (okWith [], s.unfenceBank b coils)) s

/-- SET-LEVEL (R121). -/
def execSetLevel (tag : Byte) (payload : List Byte) (s : State) : Host.Outcome State Fault Refusal :=
  serve 0x0F tag payload [2] (fun s =>
    match bankOfCode (byteAt payload 0), levelOfCode (byteAt payload 1).toNat with
    | some b, some level =>
      if s.shed = true ∧ level = .high then (refusal .refusedState, s)
      else if (s.bank b).state ≠ .idle then (refusal .refusedBusy, s)
      else if level = (s.bank b).level then (okWith [], s)
      else (okWith [], s.startSwitch b level)
    | _, _ => (refusal .range, s)) s

/-! ### INJECT and CLEAR-TALLIES (R60, R63) -/

/-- The fields of an INJECT payload (R172). -/
structure InjectFields where
  first : Nat
  last : Nat
  length : Nat
  cls : Nat
  mode : Nat
  position : Pos
  deriving DecidableEq, Repr

/-- The fields of an INJECT payload of 10 bytes. -/
def readInject (payload : List Byte) : InjectFields :=
  { first := (byteAt payload 0).toNat
    last := (byteAt payload 1).toNat
    length := read2 (byteAt payload 2) (byteAt payload 3)
    cls := (byteAt payload 4).toNat
    mode := (byteAt payload 5).toNat
    position := read4 (byteAt payload 6) (byteAt payload 7) (byteAt payload 8) (byteAt payload 9) }

/-- The arrival position an INJECT gives: absolute, or TC plus the offset modulo 2^32 (R60). -/
def InjectFields.arrival (f : InjectFields) (tc : Pos) : Pos :=
  if f.mode = 1 then tc + f.position else f.position

/-- Every field of an INJECT lies in its range (R60, R172). -/
def InjectFields.valid (f : InjectFields) (tc : Pos) : Bool :=
  decide (f.first ≤ f.last ∧ f.last ≤ 63 ∧ 1 ≤ f.length ∧ f.cls ≤ 31 ∧ f.mode ≤ 1 ∧
    0 ≤ serialDiff (f.arrival tc) tc ∧ serialDiff (f.arrival tc) tc ≤ Config.injectReach)

/-- The READY record of an INJECT (R60). -/
def State.injected (s : State) (f : InjectFields) (id : TrackId) (born : Nat) : Record :=
  { id := id, born := born, state := .ready, aPart := none, bPart := none
    pArr := f.arrival s.belt.tc
    first := f.first, last := f.last, length := f.length, reached := false
    resolution := some { cls := classOfCode f.cls, route := s.route (classOfCode f.cls) }
    plan := none, missCause := none }

/-- INJECT: the record is created and tested against the horizon once, and the purge tests follow
(R50, R60, R129). -/
def execInject (tag : Byte) (payload : List Byte) (coils : Coils) (s : State) :
    Host.Outcome State Fault Refusal :=
  serve 0x12 tag payload [10] (fun s =>
    let f := readInject payload
    if s.run ≠ .run then (refusal .refusedState, s)
    else if f.valid s.belt.tc = false then (refusal .range, s)
    else if s.store.full then (refusal .refusedBusy, s)
    else
      (okWith (bytes2 s.store.idToUse.toNat), s.addRecord (s.injected f) coils)) s

/-- Every tally 0, then CREATED at the number of records (R63). -/
def Store.clearTallies (st : Store) : Store :=
  { st with
    classTallies := Vector.replicate 32 {}
    globals := { created := st.records.length } }

/-- CLEAR-TALLIES (R63). -/
def execClearTallies (tag : Byte) (payload : List Byte) (s : State) :
    Host.Outcome State Fault Refusal :=
  serve 0x13 tag payload [0] (fun s =>
    (okWith (bytes2 s.store.records.length), { s with store := s.store.clearTallies })) s

/-! ### CLEAR-FLAGS (R179) -/

/-- The mask a CLEAR-FLAGS carries. -/
def clearMask (payload : List Byte) : FlagMask :=
  read4 (byteAt payload 0) (byteAt payload 1) (byteAt payload 2) (byteAt payload 3)

/-- The flags of a mask cleared; PRESSURE_LOW going from set to clear restarts the low test (R141,
R179). -/
def State.clearFlagsOf (s : State) (mask : FlagMask) : State :=
  let s1 : State := { s with flags := s.flags &&& ~~~mask }
  if s.flag .pressureLow = true ∧ s1.flag .pressureLow = false then s1.restartLowTest else s1

/-- CLEAR-FLAGS: the clear queues no notice; its reply carries the flag set after it; then the end of
SHED, if the clear ended it, is taken (R144, R179). -/
def execClearFlags (tag : Byte) (payload : List Byte) (coils : Coils) (s : State) :
    Host.Outcome State Fault Refusal :=
  serveAfter (fun t => t.clearFlagsOf (clearMask payload)) 0x02 tag payload [4] (fun t =>
    (okWith (bytes4 t.flags), t.afterShed s.shed coils)) s

end Sys2Proof.Machine
end

