-- ==== Sys2Proof/Machine/Settings.lean ====
section
/-!
DEFINITION. The working settings and the stored copy (9.6, 9.7): GET, SET, SAVE and the end of its
write, the loss of the supply and the start at power-on.
-/

namespace Sys2Proof.Machine

/-! ### The value of a setting (R165) -/

/-- The value of a bank's setting, an enumerated one by its code. -/
def BankSettings.get (st : BankSettings) : BankField → Int
  | .tRC => st.tRC
  | .tSW => st.tSW
  | .tPG => st.tPG
  | .tPI => st.tPI
  | .maxDebt => st.maxDebt
  | .mso => st.mso
  | .openOrder => st.openOrder.code
  | .waveGap => st.waveGap

/-- The working value of a setting, an enumerated one by its code (R165, R172). -/
def Settings.get (st : Settings) : SettingName → Int
  | .decodeMode => st.decodeMode.code
  | .direction => st.direction.code
  | .smoothing => st.smoothing
  | .stallWindow => st.stallWindow
  | .overspeedLimit => st.overspeedLimit
  | .reverseLimit => st.reverseLimit
  | .limitAction => st.limitAction.code
  | .loopLength => st.loopLength
  | .slipTolerance => st.slipTolerance
  | .slipMargin => st.slipMargin
  | .latchEdge l => (st.line l).edge.code
  | .latchFilter l => (st.line l).filter.code
  | .latchMode c => (st.mode c).code
  | .reportDeadline => st.reportDeadline
  | .silenceTimeout => st.silenceTimeout
  | .dA => st.dA
  | .dB => st.dB
  | .horizon => st.horizon
  | .joinTolerance => st.joinTolerance
  | .upTrim => st.upTrim
  | .downTrim => st.downTrim
  | .upLatency => st.upLatency
  | .downLatency => st.downLatency
  | .vmin => st.vmin
  | .bank b f => (st.banks[b]).get f
  | .pressureThreshold => st.pressureThreshold
  | .pressurePolicy => st.pressurePolicy.code

/-! ### The enumerated value of a code (R172); SET has tested the code, so the last case stands for the
last value. -/

/-- The decode mode of a code. -/
def decodeModeOf : Int → DecodeMode
  | 0 => .x1
  | 1 => .x2
  | _ => .x4

/-- The direction of a code. -/
def directionOf : Int → Direction
  | 0 => .normal
  | _ => .inverted

/-- The limit action of a code. -/
def limitActionOf : Int → LimitAction
  | 0 => .note
  | 1 => .suspend
  | _ => .halt

/-- The pressure policy of a code. -/
def pressurePolicyOf : Int → PressurePolicy
  | 0 => .note
  | 1 => .shed
  | _ => .halt

/-- The active edge of a code. -/
def activeEdgeOf : Int → ActiveEdge
  | 0 => .rising
  | _ => .falling

/-- The filter class of a code. -/
def filterClassOf : Int → FilterClass
  | 0 => .f20
  | 1 => .f100
  | 2 => .f500
  | _ => .f2000

/-- The latch mode of a code. -/
def latchModeOf : Int → LatchMode
  | 0 => .first
  | _ => .every

/-- The open order of a code. -/
def openOrderOf : Int → OpenOrder
  | 0 => .ascending
  | 1 => .centreOut
  | _ => .alternate

/-- A bank's setting replaced by a value of its domain. -/
def BankSettings.put (st : BankSettings) (f : BankField) (v : Int) : BankSettings :=
  match f with
  | .tRC => { st with tRC := v.toNat }
  | .tSW => { st with tSW := v.toNat }
  | .tPG => { st with tPG := v.toNat }
  | .tPI => { st with tPI := v.toNat }
  | .maxDebt => { st with maxDebt := v.toNat }
  | .mso => { st with mso := v.toNat }
  | .openOrder => { st with openOrder := openOrderOf v }
  | .waveGap => { st with waveGap := v.toNat }

/-- The mode of a channel replaced (R21). -/
def Settings.putMode (st : Settings) (c : Channel) (m : LatchMode) : Settings :=
  match c with
  | .sa => { st with sa := { st.sa with mode := m } }
  | .sb => { st with sb := { st.sb with mode := m } }
  | .bm => { st with bm := { st.bm with mode := m } }
  | .mx => { st with mxMode := m }

/-- A setting replaced by a value of its domain (R165). -/
def Settings.put (st : Settings) (n : SettingName) (v : Int) : Settings :=
  match n with
  | .decodeMode => { st with decodeMode := decodeModeOf v }
  | .direction => { st with direction := directionOf v }
  | .smoothing => { st with smoothing := v.toNat }
  | .stallWindow => { st with stallWindow := v.toNat }
  | .overspeedLimit => { st with overspeedLimit := v.toNat }
  | .reverseLimit => { st with reverseLimit := v.toNat }
  | .limitAction => { st with limitAction := limitActionOf v }
  | .loopLength => { st with loopLength := v.toNat }
  | .slipTolerance => { st with slipTolerance := v.toNat }
  | .slipMargin => { st with slipMargin := v.toNat }
  | .latchEdge l => st.putLine l { st.line l with edge := activeEdgeOf v }
  | .latchFilter l => st.putLine l { st.line l with filter := filterClassOf v }
  | .latchMode c => st.putMode c (latchModeOf v)
  | .reportDeadline => { st with reportDeadline := v.toNat }
  | .silenceTimeout => { st with silenceTimeout := v.toNat }
  | .dA => { st with dA := v.toNat }
  | .dB => { st with dB := v.toNat }
  | .horizon => { st with horizon := v.toNat }
  | .joinTolerance => { st with joinTolerance := v.toNat }
  | .upTrim => { st with upTrim := v }
  | .downTrim => { st with downTrim := v }
  | .upLatency => { st with upLatency := v.toNat }
  | .downLatency => { st with downLatency := v.toNat }
  | .vmin => { st with vmin := v.toNat }
  | .bank b f => { st with banks := st.banks.set b ((st.banks[b]).put f v) }
  | .pressureThreshold => { st with pressureThreshold := v.toNat }
  | .pressurePolicy => { st with pressurePolicy := pressurePolicyOf v }

/-! ### GET (R165) -/

/-- GET (R165). -/
def execGet (tag : Byte) (payload : List Byte) (s : State) : Host.Outcome State Fault Refusal :=
  serve 0x03 tag payload [2] (fun s =>
    match nameSetting (byteAt payload 0) (byteAt payload 1) with
    | .unknown => (refusal .noSuch, s)
    | .badQualifier => (refusal .range, s)
    | .setting n => (okWith (bytes4Int (s.settings.get n)), s)) s

/-! ### SET (R165, R166) -/

/-- A bank's settings may change while it is DARK, FENCED, or IDLE with an empty queue (R97). -/
def Bank.settable (b : Bank) : Bool :=
  match b.state with
  | .dark | .fenced => true
  | .idle => b.queue.isEmpty
  | .conditioning _ _ | .opened | .settling _ | .switching _ _ | .purging _ _ _ => false

/-- The bank or channel of a setting is busy (R165). -/
def State.settingBusy (s : State) : SettingName → Bool
  | .bank b _ => !(s.bank b).settable
  | .latchEdge l => (s.latch (channelOfLine l)).watch
  | .latchFilter l => (s.latch (channelOfLine l)).watch
  | .latchMode c => (s.latch c).watch
  | _ => false

/-- What SET makes of a value by the setting's domain (R165): none for an enumerated value outside its
set, otherwise the value to store and whether it was clamped. -/
def Domain.take : Domain → Int → Option (Int × Bool)
  | .codes n, v => if 0 ≤ v ∧ v < n then some (v, false) else none
  | .numeric lo hi, v => some (clampInt lo hi v, decide (clampInt lo hi v ≠ v))

/-- The purge state after a change of the maximum purge debt (R128). -/
def Bank.capDebt (b : Bank) (maxDebt : Nat) : Bank :=
  { b with debt := min b.debt maxDebt, due := decide (maxDebt ≤ b.debt) }

/-- What a new value does at once (R12, R16, R128, R142, R144); every other value acts from its next
use. `before` is the state before the change. -/
def State.settingTaken (s before : State) (n : SettingName) (coils : Coils) : State :=
  match n with
  | .overspeedLimit =>
    if s.settings.overspeedLimit = 0 then { s with belt := { s.belt with overspeed := false } } else s
  | .reverseLimit =>
    if s.settings.reverseLimit = 0 then { s with belt := { s.belt with reverse := false } } else s
  | .loopLength =>
    if s.settings.loopLength = 0 then { s with belt := { s.belt with slip := false } } else s
  | .bank b .maxDebt => (s.modBank b fun k => k.capDebt (s.bankSettings b).maxDebt).purgeTest coils b
  | .pressurePolicy => s.afterShed before.shed coils
  | _ => s

/-- A setting changed, with what that does at once (R165). -/
def State.putSetting (s : State) (n : SettingName) (v : Int) (coils : Coils) : State :=
  ({ s with settings := s.settings.put n v } : State).settingTaken s n coils

/-- The value a SET carries (R172). -/
def setValue (payload : List Byte) : Int :=
  (read4 (byteAt payload 2) (byteAt payload 3) (byteAt payload 4) (byteAt payload 5)).toInt

/-- SET (R165). -/
def execSet (tag : Byte) (payload : List Byte) (coils : Coils) (s : State) :
    Host.Outcome State Fault Refusal :=
  serve 0x04 tag payload [6] (fun s =>
    match nameSetting (byteAt payload 0) (byteAt payload 1) with
    | .unknown => (refusal .noSuch, s)
    | .badQualifier => (refusal .range, s)
    | .setting n =>
      if n.setupOnly = true ∧ s.run ≠ .setup then (refusal .refusedState, s)
      else if s.settingBusy n then (refusal .refusedBusy, s)
      else
        match n.domain.take (setValue payload) with
        | none => (refusal .range, s)
        | some (v, clamped) =>
          ({ status := if clamped then .okClamped else .ok, data := bytes4Int v },
            s.putSetting n v coils)) s

/-! ### SAVE (R164) -/

/-- SAVE: the write of the working settings begins; no reply is handed on until it is complete
(R164, R169). -/
def execSave (tag : Byte) (payload : List Byte) (s : State) : Host.Outcome State Fault Refusal :=
  .next (match s.takeRequest { kind := 0x05, tag := tag, payload := payload } with
    | none => s
    | some s0 =>
      if payload.length = 0 then
        closeEvent s0 { s0 with link := { s0.link with
          service := .writing tag s0.settings (timePlus s0.timeBase Config.saveTime) } }
      else closeEvent s0 (s0.handReply ((refusal .length).reply 0x05 tag) false))

/-- SAVE_COMPLETE: the write is over, the copy is whole, and the reply OK is handed on (R164). -/
def execSaveComplete (s : State) : Host.Outcome State Fault Refusal :=
  event s fun s =>
    match s.link.service with
    | .writing tag copy ends =>
      ({ s.atTime ends with stored := some copy } : State).handReply ((okWith []).reply 0x05 tag) false
    | _ => s

/-! ### The stored copy and power (R162 to R164) -/

/-- A route entry within its ranges, with Dmin no greater than Dmax (R65, R163). -/
def Route.valid (r : Route) : Bool :=
  decide (1 ≤ r.dmin ∧ r.dmin ≤ r.dmax ∧ r.dmax ≤ 200 ∧ r.leadPad ≤ 4095 ∧ r.spanPad ≤ 3 ∧
    r.precedence ≤ 7 ∧ r.minConfidence ≤ 15)

/-- A value lies in its range or set. -/
def Domain.holds : Domain → Int → Bool
  | .codes n, v => decide (0 ≤ v ∧ v < n)
  | .numeric lo hi, v => decide (lo ≤ v ∧ v ≤ hi)

/-- The settings of a bank. -/
def bankFields : List BankField := [.tRC, .tSW, .tPG, .tPI, .maxDebt, .mso, .openOrder, .waveGap]

/-- The settings of no bank. -/
def partSettings : List SettingName :=
  [.decodeMode, .direction, .smoothing, .stallWindow, .overspeedLimit, .reverseLimit, .limitAction,
    .loopLength, .slipTolerance, .slipMargin, .latchEdge .sa, .latchEdge .sb, .latchEdge .bm,
    .latchFilter .sa, .latchFilter .sb, .latchFilter .bm, .latchMode .sa, .latchMode .sb,
    .latchMode .bm, .latchMode .mx, .reportDeadline, .silenceTimeout, .dA, .dB, .horizon,
    .joinTolerance, .upTrim, .downTrim, .upLatency, .downLatency, .vmin, .pressureThreshold,
    .pressurePolicy]

/-- Every value lies in its range or set (R163). -/
def Settings.valid (st : Settings) : Bool :=
  (partSettings.all fun n => n.domain.holds (st.get n)) &&
    (allBanks.all fun b => bankFields.all fun f => f.domain.holds ((st.banks[b]).get f)) &&
    st.routes.toList.all Route.valid

/-- The stored copy as a loss of the supply leaves it: a SAVE under way leaves one that fails its check
(R164). -/
def State.keptCopy (s : State) : Option Settings :=
  match s.link.service with
  | .writing _ _ _ => none
  | .free | .replying _ _ | .sending _ | .resetting => s.stored

/-- The stored copy, if it passes its check at power-on: its CRC matches, which it does for a copy that a
SAVE completed, and its values are valid (R163). -/
def State.goodCopy (s : State) : Option Settings :=
  match s.keptCopy with
  | some copy => if copy.valid then some copy else none
  | none => none

/-- POWER_ON: the supply is applied. The part starts as R162 lays down, with the reference levels and
the FIRE-ENABLE line as they stand, and queues the FLAG notice of R149. The stored copy is left as it
was (R163), unless a SAVE was under way. The queue of commands is kept. A part that was powered has lost
its supply for a moment (DESIGN CHOICE, assumption 10). -/
def execPowerOn (encA encB fireEn : Bool) (s : State) : Host.Outcome State Fault Refusal :=
  let start : State :=
    { fireEnable := fireEn
      settings := s.goodCopy.getD {}
      stored := s.keptCopy
      belt := { refA := encA, refB := encB }
      pending := s.pending }
  .next (closeEvent start
    ((start.setFlag .powerUp).setFlagIf s.goodCopy.isNone .settingsDefaulted))

/-- POWER_FAILURE: the supply is gone. A SAVE under way leaves a copy that fails its check (R164);
nothing but POWER_ON brings the part back. -/
def execPowerFailure (s : State) : Host.Outcome State Fault Refusal :=
  .next { s with powered := false, stored := s.keptCopy }

end Sys2Proof.Machine
end

