-- ==== Sys2Proof/Machine/Readout.lean ====
section
/-!
DEFINITION. The layouts of what the host reads: the STATUS record (10.9.5), the track record readout
(10.9.7) and the other readouts (10.9.8).
-/

namespace Sys2Proof.Machine

/-! ### Track records and routes (10.9.7) -/

/-- The 10 bytes of a route copy. -/
def Route.bytes (r : Route) : List Byte :=
  bytes1 r.destination.code ++ bytes1 r.level.code ++ bytes1 r.dmin ++ bytes1 r.dmax ++
    bytes2 r.leadPad ++ bytes1 r.spanPad ++ bytes1 r.precedence ++ bytes1 r.minConfidence ++
    bytes1 r.policy.code

/-- The 10 bytes of an A part or a B part. -/
def HeadPart.bytes (p : HeadPart) : List Byte :=
  bytes4 p.position ++ bytes1 p.first ++ bytes1 p.last ++ bytes2 p.length ++ bytes1 p.cls.val ++
    bytes1 p.confidence

/-- The 5 bytes of a part. -/
def Part.bytes (p : Part) : List Byte :=
  bytes1 p.bank.val ++ [p.mask] ++ bytes1 p.level.code ++ bytes1 p.result.code ++
    bytes1 p.result.causeCode

/-- The planned values and the parts list. -/
def Plan.bytes (p : Plan) : List Byte :=
  bytes2 p.lead ++ bytes1 p.dp ++ bytes4 p.trigger ++ bytes1 p.parts.length ++
    p.parts.flatMap Part.bytes

/-- The presence byte: bit 0 the A part, bit 1 the B part, bit 2 class and route copy, bit 3 planned
values, bit 4 the miss cause. -/
def Record.presence (r : Record) : Nat :=
  bitOf r.aPart.isSome + 2 * bitOf r.bPart.isSome + 4 * bitOf r.resolution.isSome +
    8 * bitOf r.plan.isSome + 16 * bitOf r.missCause.isSome

/-- The bytes of a field that may be absent. -/
def presentBytes {α : Type} (x : Option α) (f : α → List Byte) : List Byte :=
  match x with
  | some v => f v
  | none => []

/-- The track record readout; absent fields are left out. -/
def Record.bytes (r : Record) : List Byte :=
  bytes2 r.id.toNat ++ bytes1 r.state.code ++ bytes1 r.presence ++ bytes1 (bitOf r.reached) ++
    bytes4 r.pArr ++ bytes1 r.first ++ bytes1 r.last ++ bytes2 r.length ++
    presentBytes r.aPart HeadPart.bytes ++ presentBytes r.bPart HeadPart.bytes ++
    presentBytes r.resolution (fun x => bytes1 x.cls.val ++ x.route.bytes) ++
    presentBytes r.plan Plan.bytes ++ presentBytes r.missCause (fun c => bytes1 c.code)

/-! ### The other readouts (10.9.8) -/

/-- The target byte of a bank: its target level while SWITCHING; in every other state its level, as in
the standing level of R99 (DEDUCED, assumption 15). -/
def Bank.targetCode (b : Bank) : Nat := b.standingLevel.code

/-- The 14 bytes of a bank record. -/
def bankBytes (b : Bank) (st : BankSettings) : List Byte :=
  bytes1 b.state.code ++ bytes1 b.level.code ++ bytes1 b.targetCode ++ bytes1 b.queue.length ++
    [b.openMask] ++ bytes1 st.tRC ++ bytes1 st.tSW ++ bytes1 st.tPG ++ bytes2 st.tPI ++
    bytes1 st.maxDebt ++ bytes1 st.mso ++ bytes1 st.openOrder.code ++ bytes1 st.waveGap

/-- A time in four bytes, 0 while absent. -/
def timeBytes (t : Option Time) : List Byte := bytes4 (t.getD 0)

/-- The 31 bytes of a pulse entry. -/
def Entry.bytes (e : Entry) : List Byte :=
  bytes2 e.track.toNat ++ bytes4 e.trigger ++ bytes1 e.dp ++ bytes1 e.level.code ++ [e.mask] ++
    bytes1 e.dmin ++ bytes1 e.policy.code ++ bytes1 e.waves ++ bytes4 e.busyEnd ++
    bytes1 (bitOf e.degraded) ++ bytes1 e.state.code ++ bytes1 (bitOf e.hit) ++
    timeBytes e.triggerTime ++ timeBytes (e.pulse.map fun p => p.firstWave) ++
    timeBytes (e.pulse.map fun p => p.expiry)

/-- The 4 bytes of a nozzle's entry in the health map. -/
def nozzleBytes (index : Nat) (n : Nozzle) : List Byte :=
  bytes1 index ++ bytes1 n.grade.code ++ bytes1 n.badRun ++ bytes1 (bitOf n.marked)

/-- The 13 bytes of a latch entry. -/
def LatchEntry.bytes (e : LatchEntry) : List Byte :=
  [e.seq] ++ bytes4 e.position ++ bytes4 e.time ++ timeBytes e.deadline

/-- The 28 bytes of a class's tallies. -/
def ClassTally.bytes (t : ClassTally) : List Byte :=
  [t.fired, t.degraded, t.partHit, t.missed, t.passed, t.flushed, t.dropped].flatMap bytes4Nat

/-- The 40 bytes of the global tallies. -/
def GlobalTally.bytes (g : GlobalTally) : List Byte :=
  [g.created, g.unreported, g.late, g.slow, g.conflict, g.unavailable, g.inhibited, g.suspended,
    g.lateStart, g.pressure].flatMap bytes4Nat

/-! ### The STATUS record (10.9.5) -/

/-- Run state and halt cause. -/
def State.statusRun (s : State) : List Byte := bytes1 s.run.code ++ bytes1 s.run.causeCode

/-- TC, HW, RX, V, motion state, conditions, last loop. While no loop has been measured its four bytes
are a free value. -/
def State.statusBelt (s : State) : List Byte :=
  bytes4 s.belt.tc ++ bytes4 s.belt.hw ++ bytes4Int s.belt.rx ++ bytes4Int s.belt.v ++
    bytes1 s.belt.motion.code ++
    bytes1 (bitOf s.belt.overspeed + 2 * bitOf s.belt.reverse + 4 * bitOf s.suspension +
      8 * bitOf s.belt.slip + 16 * bitOf s.belt.lastLoop.isSome) ++
    match s.belt.lastLoop with
    | some loop => bytes4Int loop
    | none => bytes4 Config.absentLoop

/-- The three bytes of a channel. -/
def State.statusLatch (s : State) (c : Channel) : List Byte :=
  let l := s.latch c
  bytes1 (bitOf l.watch + 2 * bitOf l.captured + 4 * bitOf l.toggle + 8 * (s.settings.mode c).code) ++
    [l.seq] ++ bytes1 l.fifo.length

/-- The three bytes of a head. -/
def HeadStatus.bytes (h : HeadStatus) : List Byte := bytes1 (bitOf h.present) ++ bytes2 h.frameErrors

/-- How many records of the store satisfy a test. -/
def Store.count (st : Store) (f : Record → Bool) : Nat := st.records.countP f

/-- The store's counts: records, JOINING, READY, held, PLANNED, FIRING, terminal, and the next id
(R64). -/
def Store.statusBytes (st : Store) : List Byte :=
  [st.records.length, st.count fun r => decide (r.state = .joining),
    st.count fun r => decide (r.state = .ready), st.count Record.held,
    st.count fun r => decide (r.state = .planned), st.count fun r => decide (r.state = .firing),
    st.count fun r => r.state.terminal, st.nextId.toNat].flatMap bytes2

/-- A time left in units of so many microseconds; no rule says which way a remainder is rounded. -/
def wholeUnits (us unit : Nat) : Nat :=
  if Config.statusRoundsUp us then ceilDiv us unit else us / unit

/-- The purge timer's time left in seconds, 0xFFFF while stopped. -/
def State.purgeTimerLeft (s : State) (b : Bank) : Nat :=
  match b.purgeTimer with
  | some t => wholeUnits (timeLeft t s.timeBase) 1000000
  | none => 0xFFFF

/-- The purge kind, and the conditioning step with its hold causes (R136, R138). A sequence held at
step 1 with the level HIGH waits for FIRE-ENABLE alone. -/
def State.purgeByte (s : State) (b : Bank) : Nat :=
  match b.state with
  | .purging kind _ _ => kind.code
  | .conditioning step none =>
    4 * step + 32 * bitOf (!s.fireEnable) +
      64 * bitOf (s.shed && (decide (step ≠ 1) || decide (b.level = .low)))
  | .conditioning step (some _) => 4 * step
  | .dark | .idle | .opened | .settling _ | .switching _ _ | .fenced => 0

/-- The milliseconds left to the purge expiry, 0 while no purge is under way. -/
def State.purgeLeft (s : State) (b : Bank) : Nat :=
  match b.state with
  | .purging _ ends _ => wholeUnits (timeLeft ends s.timeBase) 1000
  | _ => 0

/-- The ten bytes of a bank. -/
def State.statusBank (s : State) (id : BankId) : List Byte :=
  let b := s.bank id
  bytes1 b.state.code ++
    bytes1 (b.level.code + 2 * b.standingLevel.code + 4 * bitOf b.due + 16 * b.debt) ++
    bytes1 b.queue.length ++ bytes1 (b.queue.countP fun e => decide (e.state = .pending)) ++
    bytes1 (b.queue.countP fun e => decide (e.state = .opened)) ++ [b.openMask] ++
    bytes2 (s.purgeTimerLeft b) ++ bytes1 (s.purgeByte b) ++ bytes1 (s.purgeLeft b)

/-- How many nozzles of a bar stand at a grade. -/
def State.gradeCount (s : State) (bar : Bar) (g : Grade) : Nat :=
  (List.range 64).countP fun c => decide ((s.nozzle (Fin.ofNat 128 (match bar with
    | .up => c
    | .down => 64 + c))).grade = g)

/-- The seven bytes of the supply: SUSPECT and FAULTY for UP, then for DOWN. -/
def State.statusSupply (s : State) : List Byte :=
  bytes2 s.supply.reading ++
    bytes1 (bitOf s.supply.testing + 2 * s.supply.lowRun + 8 * bitOf s.shed) ++
    bytes1 (s.gradeCount .up .suspect) ++ bytes1 (s.gradeCount .up .faulty) ++
    bytes1 (s.gradeCount .down .suspect) ++ bytes1 (s.gradeCount .down .faulty)

/-- The STATUS record. -/
def State.statusRecord (s : State) : List Byte :=
  s.statusRun ++ bytes4 s.flags ++ bytes4 s.timeBase ++ s.statusBelt ++
    [Channel.sa, Channel.sb, Channel.bm, Channel.mx].flatMap s.statusLatch ++ s.heads.a.bytes ++
    s.heads.b.bytes ++ s.store.statusBytes ++ allBanks.flatMap s.statusBank ++ s.statusSupply

/-- STATUS: taken in every run state, and it changes nothing (R172). -/
def execStatus (tag : Byte) (payload : List Byte) (s : State) : Host.Outcome State Fault Refusal :=
  serve 0x01 tag payload [0] (fun s => (okWith s.statusRecord, s)) s

end Sys2Proof.Machine
end

