-- ==== Sys2Proof/Machine/Tables.lean ====
section
/-!
DEFINITION. READ, the short read and WRITE (10.5): a locator's start, the records returned, the cursors
and the current table (R173 to R177), the ROUTE entry (R68, R69) and the NOZZLE grade (R150).
-/

namespace Sys2Proof.Machine

/-! ### Starts and records (R173, R175) -/

/-- The members of an ordered collection, each as its key and its record. -/
def State.members (s : State) : Table → List (Nat × List Byte)
  | .track => s.store.records.map fun r => (r.id.toNat, r.bytes)
  | .pulses b => (s.bank b).queue.map fun e => (e.track.toNat, e.bytes)
  | .latch c => (s.latch c).fifo.map fun e => (e.seq.toNat, e.bytes)
  | .route | .bank | .nozzle | .tally => []

/-- Entry n of a fixed table. -/
def State.entryBytes (s : State) (t : Table) (n : Nat) : List Byte :=
  match t with
  | .route => (s.settings.routes[n]?.map Route.bytes).getD []
  | .bank => bankBytes (s.bank (Fin.ofNat 16 n)) (s.bankSettings (Fin.ofNat 16 n))
  | .nozzle => nozzleBytes n (s.nozzle (Fin.ofNat 128 n))
  | .tally =>
    match s.store.classTallies[n]? with
    | some t => t.bytes
    | none => s.store.globals.bytes
  | .track | .pulses _ | .latch _ => []

/-- The cursor of a fixed table (R174). -/
def Cursors.fixedIndex (c : Cursors) : Table → Nat
  | .route => c.route
  | .bank => c.bank
  | .nozzle => c.nozzle
  | .tally => c.tally
  | .track | .pulses _ | .latch _ => 0

/-- The cursor of an ordered collection (R174). -/
def Cursors.collection (c : Cursors) : Table → Cursor
  | .track => c.track
  | .pulses b => c.pulses[b]
  | .latch ch => c.latch.get ch
  | .route | .bank | .nozzle | .tally => .atEnd

/-- The cursor of a fixed table replaced. -/
def Cursors.putIndex (c : Cursors) (t : Table) (n : Nat) : Cursors :=
  match t with
  | .route => { c with route := n }
  | .bank => { c with bank := n }
  | .nozzle => { c with nozzle := n }
  | .tally => { c with tally := n }
  | .track | .pulses _ | .latch _ => c

/-- The cursor of an ordered collection replaced. -/
def Cursors.putCollection (c : Cursors) (t : Table) (v : Cursor) : Cursors :=
  match t with
  | .track => { c with track := v }
  | .pulses b => { c with pulses := c.pulses.set b v }
  | .latch ch => { c with latch := c.latch.put ch v }
  | .route | .bank | .nozzle | .tally => c

/-- The entry of a fixed table that a valid locator names (R173). -/
def State.fixedStart (s : State) (l : Locator) : Nat :=
  match l.mode with
  | .direct | .offset => l.operand
  | .cursor => s.cursors.fixedIndex l.table
  | .first | .id => 0

/-- The members from the one of a key on; none if it is not present. -/
def fromKey (k : Nat) : List (Nat × List Byte) → List (Nat × List Byte)
  | [] => []
  | m :: rest => if m.1 = k then m :: rest else fromKey k rest

/-- The members of a collection from a valid locator's start on; none for a start of "none" (R173). -/
def State.collectionStart (s : State) (l : Locator) : List (Nat × List Byte) :=
  match l.mode with
  | .first => s.members l.table
  | .offset => (s.members l.table).drop l.operand
  | .id => fromKey l.operand (s.members l.table)
  | .cursor =>
    match s.cursors.collection l.table with
    | .front => s.members l.table
    | .key k => fromKey k (s.members l.table)
    | .atEnd => []
  | .direct => []

/-- The members a reply returns: up to so many, stopping before the first record that does not fit
whole in the bytes that are left (R175). -/
def fitting : Nat → Nat → List (Nat × List Byte) → List (Nat × List Byte)
  | 0, _, _ => []
  | _, _, [] => []
  | count + 1, room, m :: rest =>
    if m.2.length ≤ room then m :: fitting count (room - m.2.length) rest else []

/-- The cursor after the last of n members returned: the key of the one that follows, or END (R174). -/
def cursorAfter (ms : List (Nat × List Byte)) (n : Nat) : Cursor :=
  match ms.drop n with
  | [] => .atEnd
  | m :: _ => .key m.1

/-- The bytes left for records in a payload of 240 after its three leading bytes (R175). -/
def recordRoom : Nat := Config.maxPayload - 3

/-! ### READ (R173 to R177) -/

/-- A READ of a fixed table of a size: so many entries from its start, wrapping; the cursor stands
after the last (R174, R175). -/
def State.readFixed (s : State) (l : Locator) (size count : Nat) : Answer × State :=
  let start := s.fixedStart l
  let records := (List.range count).flatMap fun i => s.entryBytes l.table ((start + i) % size)
  (okWith (bytes1 count ++ bytes1 start ++ records),
    { s with cursors :=
        { s.cursors.putIndex l.table ((start + count) % size) with current := l.table } })

/-- A READ of an ordered collection: NOSUCH when no record is returned (R174, R175). -/
def State.readCollection (s : State) (l : Locator) (count : Nat) : Answer × State :=
  let ms := s.collectionStart l
  let returned := fitting count recordRoom ms
  if returned = [] then (refusal .noSuch, s)
  else
    (okWith (bytes1 returned.length ++ bytes1 0 ++ returned.flatMap fun m => m.2),
      { s with cursors :=
          { s.cursors.putCollection l.table (cursorAfter ms returned.length) with
            current := l.table } })

/-- A READ through a locator that has been checked (R175); a count of 0 or above 8 is refused (R173). -/
def State.readFrom (s : State) (l : Locator) (count : Nat) : Answer × State :=
  if count = 0 ∨ 8 < count then (refusal .range, s)
  else
    match l.table.fixedSize with
    | some size => s.readFixed l size count
    | none => s.readCollection l count

/-- The locator of a READ: the five bytes, or for a short read CURSOR mode on the current table (R173,
R177). -/
def State.readLocator (s : State) (payload : List Byte) : Option Locator :=
  if payload.length = 1 then some { table := s.cursors.current, mode := .cursor, operand := 0 }
  else
    Machine.readLocator (byteAt payload 0) (byteAt payload 1) (byteAt payload 2) (byteAt payload 3)
      (byteAt payload 4)

/-- The service of a READ of either length (R172, R175, R177): the count is its last byte. -/
def State.readRequest (s : State) (payload : List Byte) : Answer × State :=
  match s.readLocator payload with
  | none => (refusal .range, s)
  | some l => s.readFrom l (byteAt payload (payload.length - 1)).toNat

/-- READ (R175). -/
def execRead (tag : Byte) (payload : List Byte) (s : State) : Host.Outcome State Fault Refusal :=
  serve 0x0B tag payload [1, 6] (fun s => s.readRequest payload) s

/-- SHORT_READ (R177). -/
def execShortRead (tag : Byte) (payload : List Byte) (s : State) : Host.Outcome State Fault Refusal :=
  serve 0x0B tag payload [1, 6] (fun s => s.readRequest payload) s

/-! ### WRITE (R68, R150, R172) -/

/-- The numeric fields of a route entry clamped to their ranges (R65, R68). -/
def Route.clamped (r : Route) : Route :=
  { r with
    dmin := clampNat 1 200 r.dmin
    dmax := clampNat 1 200 r.dmax
    leadPad := clampNat 0 4095 r.leadPad
    spanPad := clampNat 0 3 r.spanPad
    precedence := clampNat 0 7 r.precedence
    minConfidence := clampNat 0 15 r.minConfidence }

/-- The entry in the 10 bytes of a route, unless an enumerated field is outside its set (R68). -/
def readRoute (bs : List Byte) : Option Route :=
  match destinationOfCode (byteAt bs 0).toNat, levelOfCode (byteAt bs 1).toNat,
      policyOfCode (byteAt bs 9).toNat with
  | some d, some l, some p =>
    some
      { destination := d, level := l, dmin := (byteAt bs 2).toNat, dmax := (byteAt bs 3).toNat
        leadPad := read2 (byteAt bs 4) (byteAt bs 5), spanPad := (byteAt bs 6).toNat
        precedence := (byteAt bs 7).toNat, minConfidence := (byteAt bs 8).toNat, policy := p }
  | _, _, _ => none

/-- Entry n of the Route Table replaced; the ROUTE cursor stands after it (R68, R76). -/
def State.putRoute (s : State) (n : Nat) (r : Route) : State :=
  { s with
    settings := { s.settings with routes := s.settings.routes.setIfInBounds n r }
    cursors := { s.cursors with route := (n + 1) % 32, current := .route } }

/-- The WRITE of a route entry through a locator that has been checked: enumerated fields, clamping,
the pair Dmin and Dmax, the write (R68, R69). -/
def State.writeRoute (s : State) (l : Locator) (bs : List Byte) : Answer × State :=
  match readRoute bs with
  | none => (refusal .range, s)
  | some r =>
    if r.clamped.dmax < r.clamped.dmin then (refusal .range, s)
    else
      ({ status := if r.clamped = r then .ok else .okClamped, data := r.clamped.bytes },
        s.putRoute (s.fixedStart l) r.clamped)

/-- The entry of the health map after a write of FAULTY (R150). -/
def Nozzle.markFaulty (n : Nozzle) : Nozzle :=
  match n.grade with
  | .faulty => n
  | .ok | .suspect => { grade := .faulty, badRun := 0, marked := true }

/-- The entry of the health map after a write of OK (R150). -/
def Nozzle.markOk (n : Nozzle) : Nozzle :=
  match n.grade with
  | .ok => n
  | .suspect | .faulty => { grade := .ok, badRun := 0, marked := true }

/-- The bank of a nozzle (R96). -/
def bankOfNozzle (n : NozzleId) : BankId := Fin.ofNat 16 (n.val / 8)

/-- The NOZZLE cursor after a WRITE of entry n (R150). -/
def State.nozzleWritten (s : State) (n : NozzleId) : State :=
  { s with cursors := { s.cursors with nozzle := (n.val + 1) % 128, current := .nozzle } }

/-- The WRITE of a grade through a locator that has been checked; a nozzle that becomes FAULTY is
handed to the automatic fence (R150, R151). The reply's entry is the four bytes of 10.9.8. -/
def State.writeNozzle (s : State) (l : Locator) (grade : Byte) : Answer × State :=
  let n : NozzleId := Fin.ofNat 128 (s.fixedStart l)
  match grade.toNat with
  | 0 =>
    let s1 := (s.setNozzle n (s.nozzle n).markOk).nozzleWritten n
    (okWith (nozzleBytes n.val (s1.nozzle n)), s1)
  | 2 =>
    let s1 := (s.setNozzle n (s.nozzle n).markFaulty).nozzleWritten n
    (okWith (nozzleBytes n.val (s1.nozzle n)), if s.faulty n then s1 else s1.autoFence (bankOfNozzle n))
  | _ => (refusal .range, s)

/-- The service of a WRITE (R172), in its order: the table, the LEN of the table, the locator, the
entry. -/
def State.writeRequest (s : State) (payload : List Byte) : Answer × State :=
  let code := (byteAt payload 0).toNat
  if code ≠ 1 ∧ code ≠ 4 then (refusal .range, s)
  else if (code = 1 ∧ payload.length ≠ 15) ∨ (code = 4 ∧ payload.length ≠ 6) then (refusal .length, s)
  else
    match Machine.readLocator (byteAt payload 0) (byteAt payload 1) (byteAt payload 2)
        (byteAt payload 3) (byteAt payload 4) with
    | none => (refusal .range, s)
    | some l =>
      if code = 1 then s.writeRoute l (payload.drop 5) else s.writeNozzle l (byteAt payload 5)

/-- WRITE_ROUTE: a WRITE whose locator does not name the NOZZLE table (R68, R172). -/
def execWriteRoute (tag : Byte) (payload : List Byte) (s : State) : Host.Outcome State Fault Refusal :=
  serve 0x0C tag payload [15, 6] (fun s => s.writeRequest payload) s

/-- WRITE_NOZZLE: a WRITE whose locator names the NOZZLE table (R150, R172). -/
def execWriteNozzle (tag : Byte) (payload : List Byte) (s : State) : Host.Outcome State Fault Refusal :=
  serve 0x0C tag payload [15, 6] (fun s => s.writeRequest payload) s

end Sys2Proof.Machine
end

