-- ==== Sys2Proof/Machine/Timers.lean ====
section
/-!
DEFINITION. The timed events of a bank (chapters 6 and 7): later waves, nozzle closings, pulse,
recharge, switch, purge and conditioning expiries, the purge timer, and the two changes of FIRE-ENABLE.
A timer that is not running does not expire, and its command then changes nothing.
-/

namespace Sys2Proof.Machine

/-- An OPEN entry has a wave still to open (R112). -/
def wavesLeft (e : Entry) (p : PulseRun) : Bool :=
  decide (e.state = .opened) && decide (p.wavesOpened < e.waves)

/-- WAVE: the next later wave of an OPEN entry opens, so many wave gaps after wave 1 (R112). -/
def execWave (b : BankId) (id : TrackId) (coils : Coils) (s : State) :
    Host.Outcome State Fault Refusal :=
  event s fun s =>
    match s.entry? b id with
    | none => s
    | some e =>
      match e.pulse with
      | none => s
      | some p =>
        if wavesLeft e p then
          (s.atTime (waveTime p (s.bankSettings b).waveGap p.wavesOpened)).openWave b id coils
        else s

/-- NOZZLE_CLOSING: a nozzle closes at its own closing time (R112). -/
def execNozzleClosing (b : BankId) (m : Member) (s : State) : Host.Outcome State Fault Refusal :=
  event s fun s =>
    match (s.bank b).nozzles[m] with
    | none => s
    | some t => (s.atTime t).modBank b fun k => { k with nozzles := k.nozzles.set m none }

/-- PULSE_EXPIRY: the end of an OPEN entry whose waves have all opened (R113). -/
def execPulseExpiry (b : BankId) (id : TrackId) (s : State) : Host.Outcome State Fault Refusal :=
  event s fun s =>
    match s.entry? b id with
    | none => s
    | some e =>
      match e.pulse with
      | none => s
      | some p =>
        if e.state = .opened ∧ wavesLeft e p = false then (s.atTime p.expiry).pulseEnds b e else s

/-- RECHARGE_EXPIRY: the end of SETTLING (R114). -/
def execRechargeExpiry (b : BankId) (coils : Coils) (s : State) : Host.Outcome State Fault Refusal :=
  event s fun s =>
    match (s.bank b).state with
    | .settling ends => (s.atTime ends).rechargeDone b coils
    | _ => s

/-- SWITCH_EXPIRY: the end of SWITCHING (R115). -/
def execSwitchExpiry (b : BankId) (coils : Coils) (s : State) : Host.Outcome State Fault Refusal :=
  event s fun s =>
    match (s.bank b).state with
    | .switching target ends => (s.atTime ends).switchDone b target coils
    | _ => s

/-- FIRE_ENABLE_FALL: INHIBITED is set and every bank acts at once (R118, R134, R136). A line that is
inactive does not fall. -/
def execFireEnableFall (s : State) : Host.Outcome State Fault Refusal :=
  event s fun s =>
    if s.fireEnable then
      allBanks.foldl State.cutBank (({ s with fireEnable := false } : State).setFlag .inhibited)
    else s

/-- FIRE_ENABLE_RISE: held conditioning sequences begin and the purge tests are made (R118, R129,
R136). A line that is active does not rise. -/
def execFireEnableRise (coils : Coils) (s : State) : Host.Outcome State Fault Refusal :=
  event s fun s =>
    if s.fireEnable then s
    else (allBanks.foldl (State.retryStep coils) { s with fireEnable := true }).purgeTests coils

/-- The debt after an expiry of the purge timer, with the PURGE_DUE mark (R127). -/
def Bank.addDebt (b : Bank) (maxDebt : Nat) : Bank :=
  { b with debt := min (b.debt + 1) maxDebt, due := decide (maxDebt ≤ b.debt + 1) }

/-- PURGE_TIMER_EXPIRY: the debt grows, the timer is restarted, and an IDLE bank makes the purge tests
(R127). -/
def execPurgeTimerExpiry (b : BankId) (coils : Coils) (s : State) :
    Host.Outcome State Fault Refusal :=
  event s fun s =>
    match (s.bank b).purgeTimer with
    | none => s
    | some t =>
      (((s.atTime t).modBank b fun k => k.addDebt (s.bankSettings b).maxDebt).startPurgeTimer b).purgeTest
        coils b

/-- PURGE_EXPIRY: the end of PURGING (R133). -/
def execPurgeExpiry (b : BankId) (s : State) : Host.Outcome State Fault Refusal :=
  event s fun s =>
    match (s.bank b).state with
    | .purging _ ends hit => (s.atTime ends).endPurge b hit
    | _ => s

/-- CONDITIONING_STEP_EXPIRY: the end of a timed step of CONDITIONING; a held step has none (R135,
R136). -/
def execConditioningStepExpiry (b : BankId) (coils : Coils) (s : State) :
    Host.Outcome State Fault Refusal :=
  event s fun s =>
    match (s.bank b).state with
    | .conditioning step (some ends) => (s.atTime ends).stepDone b step coils
    | _ => s

end Sys2Proof.Machine
end

