-- ==== Sys2Proof/Machine/Dispatch.lean ====
section
/-!
DEFINITION. The dispatch: one arm for each row of spec/opcode_table.json, in the table's order, each one
call of the row's meaning.
-/

namespace Sys2Proof.Machine

/-- The effect of a command on everything but the queue of waiting commands. -/
def exec (i : Instr) (s : State) : Host.Outcome State Fault Refusal :=
  match i with
  | .powerOn encA encB fireEn => Sys2Proof.Machine.execPowerOn encA encB fireEn s
  | .encoderEdge encA encB coils => Sys2Proof.Machine.execEncoderEdge encA encB coils s
  | .speedSample coils => Sys2Proof.Machine.execSpeedSample coils s
  | .stallTimerExpiry coils => Sys2Proof.Machine.execStallTimerExpiry coils s
  | .activeEdge line high => Sys2Proof.Machine.execActiveEdge line high s
  | .strobeReturn line high => Sys2Proof.Machine.execStrobeReturn line high s
  | .filterExpiry line => Sys2Proof.Machine.execFilterExpiry line s
  | .deadlineExpiry head seq => Sys2Proof.Machine.execDeadlineExpiry head seq s
  | .frameAccepted kind tag payload => Sys2Proof.Machine.execFrameAccepted kind tag payload s
  | .frameFault port => Sys2Proof.Machine.execFrameFault port s
  | .frameTimerExpiry port => Sys2Proof.Machine.execFrameTimerExpiry port s
  | .report head payload coils => Sys2Proof.Machine.execReport head payload coils s
  | .headState head payload coils => Sys2Proof.Machine.execHeadState head payload coils s
  | .silenceTimerExpiry head coils => Sys2Proof.Machine.execSilenceTimerExpiry head coils s
  | .wave bank track coils => Sys2Proof.Machine.execWave bank track coils s
  | .nozzleClosing bank member => Sys2Proof.Machine.execNozzleClosing bank member s
  | .pulseExpiry bank track => Sys2Proof.Machine.execPulseExpiry bank track s
  | .rechargeExpiry bank coils => Sys2Proof.Machine.execRechargeExpiry bank coils s
  | .switchExpiry bank coils => Sys2Proof.Machine.execSwitchExpiry bank coils s
  | .fireEnableFall => Sys2Proof.Machine.execFireEnableFall s
  | .fireEnableRise coils => Sys2Proof.Machine.execFireEnableRise coils s
  | .purgeTimerExpiry bank coils => Sys2Proof.Machine.execPurgeTimerExpiry bank coils s
  | .purgeExpiry bank => Sys2Proof.Machine.execPurgeExpiry bank s
  | .conditioningStepExpiry bank coils => Sys2Proof.Machine.execConditioningStepExpiry bank coils s
  | .pressureSample microamps => Sys2Proof.Machine.execPressureSample microamps s
  | .status tag payload => Sys2Proof.Machine.execStatus tag payload s
  | .clearFlags tag payload coils => Sys2Proof.Machine.execClearFlags tag payload coils s
  | .get tag payload => Sys2Proof.Machine.execGet tag payload s
  | .set tag payload coils => Sys2Proof.Machine.execSet tag payload coils s
  | .save tag payload => Sys2Proof.Machine.execSave tag payload s
  | .saveComplete => Sys2Proof.Machine.execSaveComplete s
  | .start tag payload coils => Sys2Proof.Machine.execStart tag payload coils s
  | .stop tag payload => Sys2Proof.Machine.execStop tag payload s
  | .abortRun tag payload => Sys2Proof.Machine.execAbortRun tag payload s
  | .resume tag payload => Sys2Proof.Machine.execResume tag payload s
  | .reset tag payload => Sys2Proof.Machine.execReset tag payload s
  | .warmReset => Sys2Proof.Machine.execWarmReset s
  | .read tag payload => Sys2Proof.Machine.execRead tag payload s
  | .shortRead tag payload => Sys2Proof.Machine.execShortRead tag payload s
  | .writeRoute tag payload => Sys2Proof.Machine.execWriteRoute tag payload s
  | .writeNozzle tag payload => Sys2Proof.Machine.execWriteNozzle tag payload s
  | .fence tag payload => Sys2Proof.Machine.execFence tag payload s
  | .unfence tag payload coils => Sys2Proof.Machine.execUnfence tag payload coils s
  | .setLevel tag payload => Sys2Proof.Machine.execSetLevel tag payload s
  | .latchWatch tag payload => Sys2Proof.Machine.execLatchWatch tag payload s
  | .latchNow tag payload => Sys2Proof.Machine.execLatchNow tag payload s
  | .inject tag payload coils => Sys2Proof.Machine.execInject tag payload coils s
  | .clearTallies tag payload => Sys2Proof.Machine.execClearTallies tag payload s
  | .unknownKind kind tag payload => Sys2Proof.Machine.execUnknownKind kind tag payload s
  | .frameSent => Sys2Proof.Machine.execFrameSent s
  | .byteReceived port byte stopBit coils => Sys2Proof.Machine.execByteReceived port byte stopBit coils s
  | .powerFailure => Sys2Proof.Machine.execPowerFailure s

end Sys2Proof.Machine
end

