-- ==== Sys2Proof/Machine/Step.lean ====
section
/-!
DEFINITION. One step of the block: the command at the front of the queue is carried out; with an empty
queue a microsecond passes.
-/

namespace Sys2Proof.Machine

/-- With no command waiting, the time base of a powered part advances by one microsecond (R24). DESIGN
CHOICE, assumption 2. -/
def State.idle (s : State) : State :=
  if s.powered then { s with timeBase := s.timeBase + 1 } else s

/-- The command at the front of the queue leaves it and is carried out; an empty queue idles. -/
def step (s : State) : Host.Outcome State Fault Refusal :=
  match s.pending with
  | [] => .next s.idle
  | c :: rest => exec c { s with pending := rest }

/-- The state with the command that a table word spells put at the front of its queue. -/
def State.withFetchWord (s : State) (nbits w : Nat) : State :=
  match decodeTableWord nbits w with
  | some c => { s with pending := c :: s.pending }
  | none => s

end Sys2Proof.Machine
end

