-- ==== Sys2Proof/Safety.lean ====
section
/-!
DEFINITION. What counts as a safe state, in the terms the claims use: the laws of the manual that hold at
every moment, each as a predicate of the state, and the reading helpers of the claims.
-/

namespace Sys2Proof.Machine

/-! ### Reading helpers -/

/-- A nozzle of a bank is open. -/
def State.nozzleOpen (s : State) (b : BankId) (m : Member) : Bool := (s.bank b).nozzles[m].isSome

/-- The part is powered and a request sent to it now is taken at once: none is in service and none
waits (R169). -/
def State.ready (s : State) : Prop :=
  s.powered = true ∧ s.link.service = .free ∧ s.link.requests = []

/-- The state with a request's reply handed to the transmitter, where it waits or is being sent after
the close of the event (R169, R170). -/
def State.replied (s : State) (kind tag : Byte) (payload : List Byte) : State :=
  s.handReply { kind := kind, tag := tag, payload := payload } false

/-- A request command with its KIND, its TAG, its payload and the LEN values it accepts (R172). -/
structure RequestForm where
  kind : Byte
  tag : Byte
  payload : List Byte
  lens : List Nat
  deriving DecidableEq, Repr

/-- The request that a command serves (R172); an event serves none. -/
def requestForm : Instr → Option RequestForm
  | .status t p => some ⟨0x01, t, p, [0]⟩
  | .clearFlags t p _ => some ⟨0x02, t, p, [4]⟩
  | .get t p => some ⟨0x03, t, p, [2]⟩
  | .set t p _ => some ⟨0x04, t, p, [6]⟩
  | .save t p => some ⟨0x05, t, p, [0]⟩
  | .start t p _ => some ⟨0x06, t, p, [0]⟩
  | .stop t p => some ⟨0x07, t, p, [0]⟩
  | .abortRun t p => some ⟨0x08, t, p, [0]⟩
  | .resume t p => some ⟨0x09, t, p, [0]⟩
  | .reset t p => some ⟨0x0A, t, p, [0]⟩
  | .read t p => some ⟨0x0B, t, p, [1, 6]⟩
  | .shortRead t p => some ⟨0x0B, t, p, [1, 6]⟩
  | .writeRoute t p => some ⟨0x0C, t, p, [15, 6]⟩
  | .writeNozzle t p => some ⟨0x0C, t, p, [15, 6]⟩
  | .fence t p => some ⟨0x0D, t, p, [1]⟩
  | .unfence t p _ => some ⟨0x0E, t, p, [1]⟩
  | .setLevel t p => some ⟨0x0F, t, p, [2]⟩
  | .latchWatch t p => some ⟨0x10, t, p, [2]⟩
  | .latchNow t p => some ⟨0x11, t, p, [0]⟩
  | .inject t p _ => some ⟨0x12, t, p, [10]⟩
  | .clearTallies t p => some ⟨0x13, t, p, [0]⟩
  | _ => none

/-- Bytes received one after another on a port, each with its stop bit. -/
def receive (p : Port) (coils : Coils) : List Byte → State → Host.Outcome State Fault Refusal
  | [], s => .next s
  | b :: rest, s =>
    match exec (.byteReceived p b true coils) s with
    | .next t => receive p coils rest t
    | .fault r => .fault r
    | .refused r => .refused r

/-- A locator's mode code, with its operand and the table's cursor, names entry n of a fixed table:
DIRECT and OFFSET by the operand, FIRST entry 0, CURSOR by the cursor (R173). -/
def namesEntry (mode : Byte) (operand cursor n : Nat) : Prop :=
  (mode = 0 ∧ operand = n) ∨ (mode = 1 ∧ cursor = n) ∨ (mode = 2 ∧ n = 0) ∨ (mode = 3 ∧ operand = n)

/-- A locator's mode code, with its operand and the table's cursor, names the members from `start` on of
an ordered collection `ms`: CURSOR by the cursor, FIRST all of them, OFFSET those so many places after
the first, ID those from the one with that key on; none where the start is none (R173). -/
def namesMembers (mode : Byte) (operand : Nat) (cursor : Cursor) (ms start : List (Nat × List Byte)) :
    Prop :=
  let fromMember := fun key =>
    (∃ before m rest, ms = before ++ m :: rest ∧ m.1 = key ∧ (∀ x ∈ before, x.1 ≠ key) ∧
      start = m :: rest) ∨
    ((∀ x ∈ ms, x.1 ≠ key) ∧ start = [])
  (mode = 1 ∧ ((cursor = .front ∧ start = ms) ∨ (cursor = .atEnd ∧ start = []) ∨
    ∃ key, cursor = .key key ∧ fromMember key)) ∨
  (mode = 2 ∧ start = ms) ∨ (mode = 3 ∧ start = ms.drop operand) ∨ (mode = 4 ∧ fromMember operand)

/-- `n` is the number of members a READ of so many returns: no more than asked for or present, as many
as fit whole in 237 bytes (R175). -/
def returnsOf (start : List (Nat × List Byte)) (count n : Nat) : Prop :=
  let size := fun k => ((start.take k).map fun m => m.2.length).sum
  n ≤ count ∧ n ≤ start.length ∧ size n ≤ 237 ∧
    (n = count ∨ n = start.length ∨ 237 < size (n + 1))

/-- A record stands in its place between the records before it and after it: by P_arr in serial order,
and among equal P_arr by creation (R40). -/
def Record.placed (r : Record) (before after : List Record) : Prop :=
  let first := fun x : Record =>
    serialDiff r.pArr x.pArr < 0 ∨ (serialDiff r.pArr x.pArr = 0 ∧ r.born < x.born)
  (∀ x ∈ before, ¬first x) ∧ ∀ x rest, after = x :: rest → first x

/-- The store of `t` is that of `s` with a new record in its place, under the next id, counted in CREATED
(R40, R41, R43, R47, R60). -/
def State.Created (s : State) (r : Record) (t : State) : Prop :=
  t.store.globals = { s.store.globals with created := satInc s.store.globals.created } ∧
    t.store.classTallies = s.store.classTallies ∧ t.store.nextId = s.store.idToUse + 1 ∧
    r.id = s.store.idToUse ∧
    ∃ before after : List Record, s.store.records = before ++ after ∧
      t.store.records = before ++ r :: after ∧ r.placed before after

/-- A record of this plan after a bank's report of a result, and of a level where one is reported, for its
part: the part takes them, the first OPEN makes the record FIRING, and the last final part gives it its
outcome (R52 to R54, R102). -/
def Record.reported (r : Record) (plan : Plan) (b : BankId) (result : PartResult)
    (level : Option Level) : Record :=
  let parts := plan.parts.map fun q =>
    if q.bank = b then { q with result := result, level := level.getD q.level } else q
  let ended := parts.all fun q => q.result.final
  { r with
    plan := some { plan with parts := parts }
    state :=
      if ended then (outcomeOf parts).1
      else if r.state = .planned ∧ result = .opened then .firing else r.state
    missCause := if ended then (outcomeOf parts).2 else r.missCause }

/-- A record has a part on the bank, and every such part has this result. -/
def Plan.awaits (p : Plan) (b : BankId) (result : PartResult) : Prop :=
  (∃ q ∈ p.parts, q.bank = b) ∧ ∀ q ∈ p.parts, q.bank = b → q.result = result

/-- `t` is what a planning pass that plans makes of the only record `r` of `u`: the plan is written, each
part is offered to its bank, and WAITING with the level it was admitted at and with its new entry in the
bank's queue, or LOST with the cause of its refusal and counted; the record is PLANNED, or MISSED with
the cause of its first part when every part was refused (R51, R54, R92, R100, R102, R103, R108). -/
def State.PlansTo (u : State) (r : Record) (route : Route) (bar : Bar) (t : State) : Prop :=
  let plan := u.planOf r route bar
  let verdict := fun p : Part => u.admission p.bank
    { track := r.id, mask := p.mask, trigger := plan.trigger, dp := plan.dp, level := route.level
      dmin := route.dmin, policy := route.policy, speed := u.belt.v }
  let answered := plan.parts.map fun p => match verdict p with
    | .ok level => { p with level := level }
    | .error cause => { p with result := .lost cause }
  let refused := ∀ p ∈ answered, p.result.isLost = true
  t.store = { u.store with
    records := [{ r with
      plan := some { plan with parts := answered }
      state := if refused then .missed else .planned
      missCause := if refused then (outcomeOf answered).2 else r.missCause }]
    globals := answered.foldl (fun g p => match p.result with
      | .lost cause => g.count cause
      | _ => g) u.store.globals } ∧
  (∀ b : BankId, (∀ p ∈ plan.parts, p.bank ≠ b) → t.bank b = u.bank b) ∧
  ∀ p ∈ plan.parts,
    let k := u.bank p.bank
    let st := u.bankSettings p.bank
    (∀ cause, verdict p = .error cause → t.bank p.bank = k) ∧
    (∀ level, verdict p = .ok level →
      let waves := wavesOf p.mask st.mso
      let e : Entry :=
        { track := r.id, trigger := plan.trigger, dp := plan.dp, level := level, mask := p.mask
          dmin := route.dmin, policy := route.policy, waves := waves
          busyEnd := posPlus plan.trigger (countEquivalent u.belt.v
            (plan.dp * 500 + (waves - 1) * st.waveGap * 500 + st.tRC * 500))
          degraded := decide (level ≠ route.level), state := .waiting, triggerTime := none
          hit := false, pulse := none }
      t.bank p.bank = { k with
        queue := queueEntry e k.queue, state := (t.bank p.bank).state } ∧
      (k.state ≠ .idle → (t.bank p.bank).state = k.state) ∧
      (k.state = .idle → k.queue = [] → (t.bank p.bank).state =
        if level = k.level then .idle else .switching level (timePlus u.timeBase (st.tSW * 1000))))

/-- No bank owes a purge, so no purge test starts one (R129). -/
def State.noDebts (s : State) : Prop := ∀ b : BankId, (s.bank b).debt = 0

/-- `t` agrees with `s` in everything but the plant's working state: the store, the banks, the health
map, the run state, the flags, the link and the cursors. -/
def State.SameOffPlant (s t : State) : Prop :=
  t = { s with
    store := t.store, banks := t.banks, health := t.health, run := t.run, flags := t.flags
    link := t.link, cursors := t.cursors }

/-- The reply of the request in service, while it waits at the transmitter or is being sent (R169). -/
def State.replyFrame? (s : State) : Option Frame :=
  match s.link.service with
  | .replying reply _ => some reply
  | .sending _ => s.link.transmitter.map fun t => t.frame
  | .free | .writing _ _ _ | .resetting => none

/-- `t` is what the entry to HALTED makes of `s` in the store, the banks and the latches (R58, R124,
R126, R158, R174): every record leaves and is counted FLUSHED once under its class, every bank is torn
down, every watch stops. -/
def State.TornDown (s t : State) : Prop :=
  t.store.records = [] ∧ t.store.nextId = s.store.nextId ∧ t.store.globals = s.store.globals ∧
    (∀ c : ClassCode, t.store.classTallies[c] =
      { s.store.classTallies[c] with
        flushed := satInc^[s.store.records.countP fun r => decide (r.tallyClass = c)]
          s.store.classTallies[c].flushed }) ∧
    (∀ b : BankId, t.bank b =
      { state := if (s.bank b).state = .fenced then .fenced else .dark
        level := (s.bank b).level, queue := [], nozzles := noNozzleOpen, debt := 0, due := false
        purgeTimer := none }) ∧
    (∀ c : Channel, t.latch c =
      { watch := false, captured := false, toggle := false, seq := 0, fifo := [], edge := none }) ∧
    t.cursors.track = .atEnd ∧ (∀ b : BankId, t.cursors.pulses[b] = .atEnd) ∧
    (∀ c : Channel, t.cursors.latch.get c = .atEnd)

/-! ### The laws that hold at every moment -/

/-- No nozzle is open while the FIRE-ENABLE line is inactive (R118). -/
def State.FireSafe (s : State) : Prop :=
  s.fireEnable = false → ∀ b m, s.nozzleOpen b m = false

/-- A bank in DARK or FENCED has an empty pulse queue and no open nozzle, and a CONDITIONING bank's
queue is empty too (R98). -/
def Bank.OutOfService (b : Bank) : Prop :=
  match b.state with
  | .dark | .fenced => b.queue = [] ∧ b.nozzles = noNozzleOpen
  | .conditioning _ _ => b.queue = []
  | .idle | .opened | .settling _ | .switching _ _ | .purging _ _ _ => True

/-- Every bank keeps the law of R98. -/
def State.BanksClosed (s : State) : Prop := ∀ b : BankId, (s.bank b).OutOfService

/-- Every pulse entry of every queue belongs to a record that the store holds (R101). -/
def State.EntriesTracked (s : State) : Prop :=
  ∀ b : BankId, ∀ e ∈ (s.bank b).queue, ∃ r ∈ s.store.records, r.id = e.track

/-- Every pulse entry of every queue belongs to a record that the store holds PLANNED or FIRING, and the
record's part on that bank is not final: an entry leaves its queue when its part becomes final (R52, R101,
R102). -/
def State.EntriesOpen (s : State) : Prop :=
  ∀ b : BankId, ∀ e ∈ (s.bank b).queue, ∃ r ∈ s.store.records, r.id = e.track ∧
    (r.state = .planned ∨ r.state = .firing) ∧ r.openPart b = true

/-- Every bank's maximum purge debt is at least 1, its debt stays between 0 and the maximum, and
PURGE_DUE is set while the debt equals the maximum and clear otherwise (R97, R127). -/
def State.DebtsKept (s : State) : Prop :=
  ∀ b : BankId, 1 ≤ (s.bankSettings b).maxDebt ∧ (s.bank b).debt ≤ (s.bankSettings b).maxDebt ∧
    ((s.bank b).due = true ↔ (s.bank b).debt = (s.bankSettings b).maxDebt)

/-- Every queue of the part keeps within its depth (2.1, R40, R101, R169, R180). -/
def State.WithinCapacity (s : State) : Prop :=
  s.store.records.length ≤ 512 ∧ (∀ b : BankId, (s.bank b).queue.length ≤ 16) ∧
    s.latches.sa.fifo.length ≤ 16 ∧ s.latches.sb.fifo.length ≤ 16 ∧
    s.latches.bm.fifo.length ≤ 1 ∧ s.latches.mx.fifo.length ≤ 1 ∧
    s.link.requests.length ≤ 2 ∧ s.link.notices.length ≤ 8

/-- The store holds at most 512 records and no two of them share a track id (R41). -/
def Store.IdsDistinct (st : Store) : Prop :=
  st.records.length ≤ 512 ∧ (st.records.map fun r => r.id).Nodup

/-- The sum of the six outcome tallies of a class (R62). -/
def ClassTally.outcomes (t : ClassTally) : Nat :=
  t.fired + t.degraded + t.partHit + t.missed + t.passed + t.flushed

/-- A tally of the balance that stands at its maximum, where it saturates (R61). -/
def Store.saturated (st : Store) : Bool :=
  decide (Config.tallyMax ≤ st.globals.created) ||
    st.classTallies.toList.any fun t =>
      decide (Config.tallyMax ≤ t.fired ∨ Config.tallyMax ≤ t.degraded ∨
        Config.tallyMax ≤ t.partHit ∨ Config.tallyMax ≤ t.missed ∨ Config.tallyMax ≤ t.passed ∨
        Config.tallyMax ≤ t.flushed)

/-- While no tally has saturated, CREATED is the sum of the outcome tallies and the number of records
(R62). -/
def Store.Balanced (st : Store) : Prop :=
  st.saturated = false →
    st.globals.created = ((st.classTallies.toList.map ClassTally.outcomes).sum + st.records.length)

/-- PRESSURE_LOW is set exactly while the low test is stopped, and the low run lies from 0 to 2 (R140,
R141). -/
def State.LowTestKept (s : State) : Prop :=
  s.supply.testing = !(s.flag .pressureLow) ∧ s.supply.lowRun ≤ 2

/-- The positions of the flag set that carry no flag read as clear (R178). -/
def State.FlagsCarried (s : State) : Prop := s.flags &&& ~~~carriedFlags = 0

/-- RX is never negative (R6). -/
def State.RxKept (s : State) : Prop := 0 ≤ s.belt.rx

/-- Every entry of the health map has the bad run its grade allows: OK 0, SUSPECT 1 or 2, FAULTY 3
from coil sense and 0 from the host, which then stands marked (R145, R147, R150). -/
def Nozzle.Graded (n : Nozzle) : Prop :=
  match n.grade with
  | .ok => n.badRun = 0
  | .suspect => (n.badRun = 1 ∨ n.badRun = 2) ∧ n.marked = false
  | .faulty => (n.badRun = 3 ∧ n.marked = false) ∨ (n.badRun = 0 ∧ n.marked = true)

/-- The whole health map keeps the law of R145. -/
def State.HealthKept (s : State) : Prop := ∀ n : NozzleId, (s.nozzle n).Graded

end Sys2Proof.Machine
end

