-- ==== Sys2Proof/Certificates/Slice0/Obligations.lean ====
section
/-!
DEFINITION. The statements for the provers, chapter by chapter. A statement that names a next state
`closeEvent s u` says that the event leaves `u`, its notices raised and the transmitter given work
(R171, R180); `u` differs from `s` only in the fields that are written out.
-/

section

open Sys2Proof Sys2Proof.Machine

/-! ### The block and its queue -/

/-- The step takes the command at the front of the queue, and that command alone; with no command
waiting, a powered part's time base advances by a microsecond (R24). The queue of commands is the
model's (the block's commands), and the idle tick is the model's choice, assumption 2. -/
def Obligations.StepTakesTheFront : Prop :=
  (∀ (c : Instr) (rest : List Instr) (s : State),
    step { s with pending := c :: rest } = exec c { s with pending := rest }) ∧
  ∀ s : State,
    (s.powered = true →
      step { s with pending := [] } = .next { s with pending := [], timeBase := s.timeBase + 1 }) ∧
    (s.powered = false → step { s with pending := [] } = .next { s with pending := [] })

/-- Every command ends in a next state and leaves the queue of waiting commands alone. -/
def Obligations.EveryCommandCompletes : Prop :=
  ∀ (c : Instr) (s : State), ∃ t : State, exec c s = .next t ∧ t.pending = s.pending

/-! ### Power (9.5, 9.6) -/

/-- POWER_ON starts the part as R162 lists: whatever the part held before, and with the stored copy if
it passes its check, or else the defaults. What the stored copy is after a POWER_ON of a part that had
its supply is the model's choice, assumption 10. -/
def Obligations.PowerOnStart : Prop :=
  ∀ (encA encB fireEn : Bool) (s : State), ∃ t : State,
    exec (.powerOn encA encB fireEn) s = .next t ∧
    t.powered = true ∧ t.timeBase = 0 ∧ t.run = .setup ∧ t.fireEnable = fireEn ∧
    (∀ copy, s.keptCopy = some copy → copy.valid = true → t.settings = copy ∧ t.flags = 1) ∧
    ((∀ copy, s.keptCopy = some copy → copy.valid = false) → t.settings = {} ∧ t.flags = 3) ∧
    t.stored = s.keptCopy ∧
    t.belt.tc = 0 ∧ t.belt.hw = 0 ∧ t.belt.rx = 0 ∧ t.belt.v = 0 ∧ t.belt.motion = .stopped ∧
    t.belt.refA = encA ∧ t.belt.refB = encB ∧
    t.store.records = [] ∧ t.store.nextId = 0 ∧
    (∀ c : ClassCode, t.store.classTallies[c] = ⟨0, 0, 0, 0, 0, 0, 0⟩) ∧
    t.store.globals = ⟨0, 0, 0, 0, 0, 0, 0, 0, 0, 0⟩ ∧
    (∀ b : BankId, (t.bank b).state = .dark ∧ (t.bank b).level = .low ∧ (t.bank b).debt = 0) ∧
    (∀ c : Channel, (t.latch c).watch = false) ∧
    (∀ h : Head, (t.heads.get h).present = false) ∧
    (∀ n : NozzleId, (t.nozzle n).grade = .ok) ∧
    t.link.notices = [] ∧ t.link.noticeNumber = 1 ∧
    t.link.transmitter = some
      { frame := { kind := 0x60, tag := 0, payload := [0, 0, 0, t.flags.extractLsb' 0 8] }
        isReply := false
        ends := 100 }

/-- SAVE writes the settings as they stand when it is served; the reply OK comes when the 200 ms write
is over; a supply lost in between leaves no copy that passes its check, and a part without supply does
nothing until it is applied again. That a part without supply does nothing on any other command is the
model's choice, assumption 11; that SAVE_COMPLETE comes at the write's end, assumption 1. -/
def Obligations.SaveAndSupplyLoss : Prop :=
  (∀ (tag : Byte) (s : State), s.ready →
    exec (.save tag []) s = .next (closeEvent s { s with link := { s.link with
      service := .writing tag s.settings (timePlus s.timeBase 200000) } })) ∧
  (∀ (tag : Byte) (copy : Settings) (ends : Time) (s : State), s.powered = true →
    s.link.service = .writing tag copy ends →
    exec .saveComplete s = .next (closeEvent s
      (({ s with timeBase := laterOf s.timeBase ends, stored := some copy } : State).replied
        0x85 tag [0x00]))) ∧
  (∀ s : State,
    exec .powerFailure s = .next { s with
      powered := false
      stored := match s.link.service with
        | .writing _ _ _ => none
        | _ => s.stored }) ∧
  (∀ (c : Instr) (s : State), s.powered = false → c ≠ .powerFailure →
    (∀ a b f, c ≠ .powerOn a b f) → exec c s = .next s)

/-! ### The belt (chapter 1) -/

/-- Which changes on the encoder lines count, and in which sense, in every decode mode and direction; a
change of both levels at once is a phase error; and every change, whether it counts or not, leaves the new
levels as the reference levels. That a change to the levels the lines have is no change is the model's
choice, assumption 16. -/
def Obligations.EncoderDecoding : Prop :=
  (∀ (mode : DecodeMode) (d : Direction) (refA refB : Bool),
    decodeEdge mode d refA refB (!refA) refB =
      (if mode = .x1 ∧ refB = true then .silent
        else .counts (if d = .normal then decide ((!refA) ≠ refB) else decide ((!refA) = refB))) ∧
    decodeEdge mode d refA refB refA (!refB) =
      (if mode = .x4 then
        .counts (if d = .normal then decide ((!refB) = refA) else decide ((!refB) ≠ refA))
        else .silent) ∧
    decodeEdge mode d refA refB refA refB = .unchanged ∧
    decodeEdge mode d refA refB (!refA) (!refB) = .phaseError) ∧
  ∀ (a b : Bool) (coils : Coils) (s : State), s.powered = true →
    ∃ t : State, exec (.encoderEdge a b coils) s = .next t ∧ t.belt.refA = a ∧ t.belt.refB = b

/-- Changes that make no count: a phase error takes the levels and sets PHASE_ERR, a silent edge takes
the levels, and nothing else changes; and the expiry of the stall timer stops the belt. That a stopped
timer's expiry changes nothing is the model's choice, assumption 1. -/
def Obligations.NoCountEvents : Prop :=
  (∀ (a b : Bool) (coils : Coils) (s : State), s.powered = true → a ≠ s.belt.refA → b ≠ s.belt.refB →
    exec (.encoderEdge a b coils) s = .next (closeEvent s { s with
      belt := { s.belt with refA := a, refB := b }
      flags := s.flags ||| 0x00000008 })) ∧
  (∀ (a b : Bool) (coils : Coils) (s : State), s.powered = true →
    decodeEdge s.settings.decodeMode s.settings.direction s.belt.refA s.belt.refB a b = .silent →
    exec (.encoderEdge a b coils) s = .next (closeEvent s { s with
      belt := { s.belt with refA := a, refB := b } })) ∧
  (∀ (coils : Coils) (due : Time) (s : State), s.powered = true → s.belt.stallTimer = some due →
    ∃ t : State, exec (.stallTimerExpiry coils) s = .next t ∧
      ({ s with
        timeBase := laterOf s.timeBase due
        belt := { s.belt with motion := .stopped, stallTimer := none } } : State).SameOffPlant t ∧
      t.flag .beltStopSeen = true) ∧
  (∀ (coils : Coils) (s : State), s.powered = true → s.belt.stallTimer = none →
    exec (.stallTimerExpiry coils) s = .next (closeEvent s s))

/-- A count moves TC by one modulo 2^32, HW as R6 states, sets the motion state, restarts the stall
timer and tests the reverse limit; nothing else of the belt changes. -/
def Obligations.CountMovesTheBelt : Prop :=
  ∀ (a b forward : Bool) (coils : Coils) (s : State), s.powered = true →
    decodeEdge s.settings.decodeMode s.settings.direction s.belt.refA s.belt.refB a b =
      .counts forward →
    let tc := if forward then s.belt.tc + 1 else s.belt.tc - 1
    let hw :=
      if forward then (if 1 ≤ serialDiff tc s.belt.hw then tc else s.belt.hw)
      else if 2147483647 < (s.belt.hw - tc).toNat then s.belt.hw - 1 else s.belt.hw
    let rx := serialDiff hw tc
    let crossing := s.belt.reverse = false ∧ forward = false ∧ s.settings.reverseLimit ≠ 0 ∧
      (s.settings.reverseLimit : Int) < rx
    ∃ t : State, exec (.encoderEdge a b coils) s = .next t ∧
      t.belt = { s.belt with
        refA := a, refB := b, tc := tc, hw := hw
        motion := if forward = false ∧ 8 < rx then .reversing else .moving
        stallTimer := some (timePlus s.timeBase (s.settings.stallWindow * 1000))
        reverse := decide (crossing ∨ (s.belt.reverse = true ∧ rx ≠ 0)) } ∧
      (crossing → t.flag .limitReverse = true) ∧
      t.timeBase = s.timeBase ∧ t.settings = s.settings ∧ t.heads = s.heads ∧ t.supply = s.supply ∧
      (s.settings.limitAction ≠ .halt → t.latches = s.latches)

/-- The reverse excursion is never negative, whatever command comes, by the way HW follows TC at a
forward and at a reverse count. -/
def Obligations.ReverseExcursionLaw : Prop :=
  (∀ s t : State, s.RxKept → step s = .next t → t.RxKept) ∧
  (∀ b : Belt, b.rx = serialDiff b.hw b.tc ∧ b.rx ≤ 2147483647) ∧
  (∀ b : Belt, 1 ≤ serialDiff (b.tc + 1) b.hw →
    (b.counted true).tc = b.tc + 1 ∧ (b.counted true).hw = b.tc + 1) ∧
  (∀ b : Belt, ¬ 1 ≤ serialDiff (b.tc + 1) b.hw →
    (b.counted true).tc = b.tc + 1 ∧ (b.counted true).hw = b.hw) ∧
  (∀ b : Belt, 0 ≤ b.rx → b.rx ≠ 2147483647 →
    (b.counted false).tc = b.tc - 1 ∧ (b.counted false).hw = b.hw) ∧
  (∀ b : Belt, b.rx = 2147483647 →
    (b.counted false).tc = b.tc - 1 ∧ (b.counted false).hw = b.hw - 1 ∧
      (b.counted false).rx = 2147483647)

/-- Only encoder counts move TC, and only together with HW; the settings that place a piece on the belt
change in SETUP only. POWER_ON, which starts all of them anew, is apart. -/
def Obligations.OnlyCountsMoveTc : Prop :=
  ∀ (c : Instr) (s t : State), exec c s = .next t → (∀ a b f, c ≠ .powerOn a b f) →
    ((∀ a b k, c ≠ .encoderEdge a b k) → t.belt.tc = s.belt.tc ∧ t.belt.hw = s.belt.hw) ∧
    (s.run ≠ .setup → ∀ n : SettingName, n.setupOnly = true → t.settings.get n = s.settings.get n)

/-- A speed sample: the clamped difference of TC, the smoothed V and its bound, the free-running timer,
and the two tests of the overspeed limit. That the expiry moves the time base to its time is the model's
choice, assumption 1. -/
def Obligations.SpeedSample : Prop :=
  ∀ (coils : Coils) (s : State), s.powered = true →
    let delta := max (-255) (min 255 (serialDiff s.belt.tc s.belt.sampleRef))
    let v := max (-65535) (min 65535
      (s.belt.v + (delta * 256 - s.belt.v) / 2 ^ s.settings.smoothing))
    let limit := s.settings.overspeedLimit
    let crossing := limit ≠ 0 ∧ s.belt.overspeed = false ∧ (limit : Int) < v
    ∃ t : State, exec (.speedSample coils) s = .next t ∧
      t.timeBase = laterOf s.timeBase s.belt.sampleTimer ∧
      t.belt = { s.belt with
        v := v
        sampleRef := s.belt.tc
        sampleTimer := timePlus s.belt.sampleTimer 1000
        overspeed := decide (crossing ∨
          (s.belt.overspeed = true ∧ ¬ (limit ≠ 0 ∧ v * 16 ≤ (limit : Int) * 15))) } ∧
      (crossing → t.flag .limitSpeed = true) ∧
      (s.settings.limitAction ≠ .halt →
        ({ s with timeBase := t.timeBase, belt := t.belt } : State).SameOffPlant t)

/-! ### HALTED and the run state (9.1, 9.4, 9.5) -/

/-- The entry to HALTED: by a limit crossed under HALT in CONDITIONING, RUN or DRAIN, by low pressure
under HALT, and by ABORT-RUN, each with its cause, tears down the store, the banks and the latches. That a
speed sample makes its overspeed test, with the flush of the HALT, before the held records are planned
again, so that they leave FLUSHED, is the model's choice, assumption 28. -/
def Obligations.EntryToHalted : Prop :=
  (∀ (coils : Coils) (s : State), s.powered = true → s.settings.limitAction = .halt →
    s.run = .conditioning ∨ s.run = .run ∨ s.run = .drain →
    s.settings.overspeedLimit ≠ 0 → s.belt.overspeed = false →
    (s.settings.overspeedLimit : Int) < s.takeSample.belt.v →
    ∃ t : State, exec (.speedSample coils) s = .next t ∧ t.run = .halted .speedLimit ∧ s.TornDown t) ∧
  (∀ (a b : Bool) (coils : Coils) (s : State), s.powered = true → s.settings.limitAction = .halt →
    s.run = .conditioning ∨ s.run = .run ∨ s.run = .drain →
    decodeEdge s.settings.decodeMode s.settings.direction s.belt.refA s.belt.refB a b = .counts false →
    s.belt.reverse = false → s.settings.reverseLimit ≠ 0 →
    (s.settings.reverseLimit : Int) < (s.belt.counted false).rx →
    ∃ t : State, exec (.encoderEdge a b coils) s = .next t ∧ t.run = .halted .reverseLimit ∧
      s.TornDown t) ∧
  (∀ (microamps : Nat) (s : State), s.powered = true → s.settings.pressurePolicy = .halt →
    s.run = .conditioning ∨ s.run = .run ∨ s.run = .drain →
    s.supply.testing = true → s.supply.lowRun = 2 →
    readingOf microamps < s.settings.pressureThreshold →
    ∃ t : State, exec (.pressureSample microamps) s = .next t ∧ t.run = .halted .pressure ∧
      t.flag .pressureLow = true ∧ s.TornDown t) ∧
  (∀ (tag : Byte) (s : State), s.ready → (∀ cause, s.run ≠ .halted cause) →
    ∃ u t : State, exec (.abortRun tag []) s = .next t ∧
      t = closeEvent s (u.replied 0x88 tag [0x00]) ∧ s.TornDown u ∧
      u = { s with
        run := .halted .host, store := u.store, banks := u.banks, latches := u.latches
        cursors := u.cursors }) ∧
  (∀ (tag : Byte) (cause : HaltCause) (s : State), s.ready → s.run = .halted cause →
    exec (.abortRun tag []) s = .next (closeEvent s (s.replied 0x88 tag [0x10])))

/-- RESUME is taken in HALTED and leads to SETUP without a halt cause, with one STATE notice; elsewhere
it is refused. -/
def Obligations.Resume : Prop :=
  (∀ (tag : Byte) (cause : HaltCause) (s : State), s.ready → s.run = .halted cause →
    exec (.resume tag []) s =
      .next (closeEvent s (({ s with run := .setup } : State).replied 0x89 tag [0x00]))) ∧
  (∀ (tag : Byte) (s : State), s.ready → (∀ cause, s.run ≠ .halted cause) →
    exec (.resume tag []) s = .next (closeEvent s (s.replied 0x89 tag [0x10]))) ∧
  (∀ (tag : Byte) (cause : HaltCause) (s : State), s.ready → s.run = .halted cause →
    s.link.notices.length < 8 → ∃ t : State, exec (.resume tag []) s = .next t ∧
      t.link.notices = s.link.notices ++ [{ number := s.link.noticeNumber, kind := .state .setup }] ∧
      t.replyFrame? = some { kind := 0x89, tag := tag, payload := [0x00] })

/-- A warm reset comes from RESET alone: the reply OK goes out first, nothing is sent after it, and the
reset then leaves every block as R161 lists. That nothing is sent in between is DEDUCED, and that a
WARM_RESET which no RESET led to changes nothing is the model's choice, assumption 18; that FRAME_SENT
moves the time base to the frame's end is the model's choice, assumption 1. -/
def Obligations.ResetSequence : Prop :=
  (∀ (tag : Byte) (s : State), s.ready →
    exec (.reset tag []) s = .next (closeEvent s
      (s.handReply { kind := 0x8A, tag := tag, payload := [0x00] } true))) ∧
  (∀ (x : Transmission) (s : State), s.powered = true → s.link.service = .sending true →
    s.link.transmitter = some x → x.isReply = true →
    exec .frameSent s = .next { s with
      timeBase := laterOf s.timeBase x.ends
      link := { s.link with transmitter := none, service := .resetting } }) ∧
  (∀ s : State, s.powered = true → s.link.service = .resetting → ∃ t : State,
    exec .warmReset s = .next t ∧
    t = { s with
      run := .setup, store := t.store, banks := t.banks, latches := t.latches
      flags := s.flags &&& 0x00000001
      supply := { s.supply with testing := true, lowRun := 0 }
      belt := { s.belt with
        overspeed := false, reverse := false, slip := false, prevMark := none, lastLoop := none }
      heads :=
        { a := { s.heads.a with frameErrors := 0 }, b := { s.heads.b with frameErrors := 0 } }
      cursors := t.cursors
      link := { s.link with requests := [], service := .free, notices := [], noticeNumber := 0 } } ∧
    t.store.records = [] ∧ t.store.nextId = 0 ∧
    (∀ c : ClassCode, t.store.classTallies[c] = ⟨0, 0, 0, 0, 0, 0, 0⟩) ∧
    t.store.globals = ⟨0, 0, 0, 0, 0, 0, 0, 0, 0, 0⟩ ∧
    (∀ b : BankId, t.bank b =
      { state := if (s.bank b).state = .fenced then .fenced else .dark
        level := (s.bank b).level, queue := [], nozzles := noNozzleOpen, debt := 0, due := false
        purgeTimer := none }) ∧
    (∀ c : Channel, t.latch c =
      { watch := false, captured := false, toggle := false, seq := 0, fifo := [], edge := none }) ∧
    t.cursors.track = .front ∧ (∀ b : BankId, t.cursors.pulses[b] = .front) ∧
    (∀ c : Channel, t.cursors.latch.get c = .front) ∧
    t.cursors.route = 0 ∧ t.cursors.bank = 0 ∧ t.cursors.nozzle = 0 ∧ t.cursors.tally = 0 ∧
    t.cursors.current = .track) ∧
  (∀ s : State, s.link.service ≠ .resetting → exec .warmReset s = .next s)

/-- Whole-machine rules of the run state: HALTED and its cause stand until RESUME, a warm reset or
POWER_ON; SETUP is left by START and ABORT-RUN alone; and no record comes into the store in any run
state but RUN. -/
def Obligations.RunStateRules : Prop :=
  (∀ (c : Instr) (cause : HaltCause) (s t : State), exec c s = .next t → s.run = .halted cause →
    c ≠ .warmReset → (∀ tag p, c ≠ .resume tag p) → (∀ a b f, c ≠ .powerOn a b f) →
    t.run = .halted cause) ∧
  (∀ (c : Instr) (s t : State), exec c s = .next t → s.run = .setup → t.run ≠ .setup →
    (∃ tag p k, c = .start tag p k ∧ (t.run = .conditioning ∨ t.run = .run)) ∨
      ∃ tag p, c = .abortRun tag p ∧ t.run = .halted .host) ∧
  (∀ (c : Instr) (s t : State), exec c s = .next t → s.run ≠ .run →
    ∀ r ∈ t.store.records, ∃ q ∈ s.store.records, q.id = r.id)

/-! ### Strobe latches and heads (chapter 2) -/

/-- The two changes of a strobe line: an active edge on a watching channel keeps TC and the time and
starts the filter timer, a change back before the timer's expiry discards them, and every other change
does nothing. That each event carries the level it leaves is the model's choice, assumption 16. -/
def Obligations.StrobeEdges : Prop :=
  ∀ (line : Line) (high : Bool) (s : State), s.powered = true →
    let c := channelOfLine line
    let active := (s.settings.line line).edge.activeHigh
    ((s.latch c).watch = true → high = active →
      exec (.activeEdge line high) s = .next (closeEvent s (s.setLatch c { s.latch c with
        edge := some
          { position := s.belt.tc
            time := s.timeBase
            filterEnds := timePlus s.timeBase (s.settings.line line).filter.width } }))) ∧
    (¬((s.latch c).watch = true ∧ high = active) →
      exec (.activeEdge line high) s = .next (closeEvent s s)) ∧
    (high ≠ active →
      exec (.strobeReturn line high) s =
        .next (closeEvent s (s.setLatch c { s.latch c with edge := none }))) ∧
    (high = active → exec (.strobeReturn line high) s = .next (closeEvent s s))

/-- The filter's expiry captures the pending edge with its own position and time: the entry's number and
deadline, the overrun of a full SA or SB FIFO, the channel's status; and on BM, in EVERY mode, the
measured loop and the slip check. That the expiry moves the time base to its time is the model's choice,
assumption 1. -/
def Obligations.StrobeCapture : Prop :=
  (∀ (h : Head) (p : PendingEdge) (s : State), s.powered = true →
    let line := lineOfHead h
    let c := channelOfLine line
    let l := s.latch c
    l.edge = some p →
    ∃ t : State, exec (.filterExpiry line) s = .next t ∧
      t.latch c =
        { watch := l.watch && decide (s.settings.mode c = .every)
          captured := l.captured || l.watch
          toggle := xor l.toggle l.watch
          seq := l.seq + 1
          fifo := (if 16 ≤ l.fifo.length then l.fifo.tail else l.fifo) ++
            [{ seq := l.seq, position := p.position, time := p.time
               deadline := some (timePlus p.time (s.settings.reportDeadline * 1000)) }]
          edge := none } ∧
      (∀ d : Channel, d ≠ c → t.latch d = s.latch d) ∧
      t.timeBase = laterOf s.timeBase p.filterEnds ∧ t.belt = s.belt ∧ t.banks = s.banks ∧
      t.run = s.run ∧ t.settings = s.settings ∧ t.store.records = s.store.records ∧
      (l.fifo.length < 16 → t.store = s.store ∧
        ∀ f : Flag, f ≠ .noticeDropped → t.flag f = s.flag f) ∧
      (16 ≤ l.fifo.length → t.store.globals.unreported = satInc s.store.globals.unreported ∧
        t.flag (match h with | .a => .strobeOverrunA | .b => .strobeOverrunB) = true ∧
        t.flag (match h with | .a => .unreportedA | .b => .unreportedB) = true)) ∧
  (∀ (p : PendingEdge) (s : State), s.powered = true →
    let l := s.latches.bm
    let st := s.settings
    l.edge = some p → l.fifo.length ≤ 1 →
    ∃ t : State, exec (.filterExpiry .bm) s = .next t ∧
      t.latches.bm =
        { watch := l.watch && decide (st.bm.mode = .every)
          captured := l.captured || l.watch
          toggle := xor l.toggle l.watch
          seq := l.seq + 1
          fifo := [{ seq := l.seq, position := p.position, time := p.time, deadline := none }]
          edge := none } ∧
      (st.bm.mode = .first → t.belt = s.belt) ∧
      (st.bm.mode = .every → s.belt.prevMark = none →
        t.belt = { s.belt with prevMark := some p.position }) ∧
      (∀ previous, st.bm.mode = .every → s.belt.prevMark = some previous →
        let loop := serialDiff p.position previous
        let off := st.loopLength ≠ 0 ∧ (st.slipTolerance : Int) < |loop - (st.loopLength : Int)|
        t.belt = { s.belt with
          prevMark := some p.position
          lastLoop := some loop
          slip := if st.loopLength = 0 then s.belt.slip else decide off } ∧
        (off → t.flag .slip = true)) ∧
      t.store = s.store ∧ t.banks = s.banks ∧ t.run = s.run ∧ t.settings = s.settings)

/-- The deadline of an entry still held removes it and every older one as UNREPORTED, each counted once;
newer entries stay. An entry that is no longer held has no deadline. That the expiry of an entry no
longer held changes nothing is the model's choice, assumption 1. -/
def Obligations.DeadlineExpiry : Prop :=
  ∀ (h : Head) (s : State), s.powered = true →
    let c := channelOfLine (lineOfHead h)
    (∀ (older newer : List LatchEntry) (e : LatchEntry) (due : Time),
      (s.latch c).fifo = older ++ e :: newer → (∀ x ∈ older, x.seq ≠ e.seq) →
      e.deadline = some due →
      ∃ t : State, exec (.deadlineExpiry h e.seq) s = .next t ∧
        t.latch c = { s.latch c with fifo := newer } ∧
        t.store.globals =
          { s.store.globals with
            unreported := satInc^[older.length + 1] s.store.globals.unreported } ∧
        t.flag (match h with | .a => .unreportedA | .b => .unreportedB) = true ∧
        t.timeBase = laterOf s.timeBase due ∧ t.store.records = s.store.records ∧
        t.belt = s.belt ∧ t.banks = s.banks ∧ t.run = s.run) ∧
    (∀ seq : Byte, (∀ x ∈ (s.latch c).fifo, x.seq ≠ seq) →
      exec (.deadlineExpiry h seq) s = .next (closeEvent s s))

/-- LATCH-WATCH on and off, its refusals, and LATCH-NOW, watching or not. -/
def Obligations.LatchRequests : Prop :=
  (∀ (tag n : Byte) (c : Channel) (s : State), s.ready → channelOfCode n.toNat = some c →
    let started := (s.setLatch c
      { watch := true, captured := false, toggle := false, seq := 0, fifo := []
        edge := none }).setLatchCursor c .atEnd
    let stopped := (s.setLatch c
      { watch := false, captured := false, toggle := false, seq := (s.latch c).seq, fifo := []
        edge := none }).setLatchCursor c .atEnd
    (c ≠ .bm → exec (.latchWatch tag [n, 1]) s =
      .next (closeEvent s (started.replied 0x90 tag [0x00]))) ∧
    (c = .bm → exec (.latchWatch tag [n, 1]) s =
      .next (closeEvent s
        (({ started with belt := { s.belt with prevMark := none } } : State).replied
          0x90 tag [0x00]))) ∧
    exec (.latchWatch tag [n, 0]) s = .next (closeEvent s (stopped.replied 0x90 tag [0x00]))) ∧
  (∀ (tag n x : Byte) (s : State), s.ready → 3 < n.toNat ∨ 1 < x.toNat →
    exec (.latchWatch tag [n, x]) s = .next (closeEvent s (s.replied 0x90 tag [0x20]))) ∧
  (∀ (tag : Byte) (s : State), s.ready → s.latches.mx.fifo.length ≤ 1 →
    let l := s.latches.mx
    ∃ u : State,
      exec (.latchNow tag []) s = .next (closeEvent s (u.replied 0x91 tag
        (0x00 :: l.seq :: (bytes4 s.belt.tc ++ bytes4 s.timeBase)))) ∧
      u = { s with latches := { s.latches with mx := u.latches.mx }, cursors := u.cursors } ∧
      u.latches.mx =
        { watch := l.watch && decide (s.settings.mxMode = .every)
          captured := l.captured || l.watch
          toggle := xor l.toggle l.watch
          seq := l.seq + 1
          fifo := [{ seq := l.seq, position := s.belt.tc, time := s.timeBase, deadline := none }]
          edge := l.edge })

/-- The heads' conditions: READY makes a head PRESENT, any other state byte and the end of its silence
make it LOST with its flag, and the loss of head B leaves no record JOINING; a head frame of a wrong LEN
is a frame error and nothing else. That the silence timer's expiry moves the time base to its time is the
model's choice, assumption 1; that a head frame leaves its port's receiver in HUNT without a timer is
DEDUCED, assumption 19. -/
def Obligations.HeadConditions : Prop :=
  (∀ (h : Head) (coils : Coils) (s : State), s.powered = true →
    let k := s.heads.get h
    let due := timePlus s.timeBase (s.settings.silenceTimeout * 1000)
    exec (.headState h [0x01] coils) s = .next (closeEvent s
      { (s.setReceiver (.head h) {}) with
        heads := s.heads.put h
          { present := true, silence := some due, frameErrors := k.frameErrors } }) ∧
    ∀ b : Byte, b ≠ 0x01 → ∃ t : State, exec (.headState h [b] coils) s = .next t ∧
      t.heads = s.heads.put h
        { present := false, silence := some due, frameErrors := k.frameErrors } ∧
      (k.present = true → t.flag (headLostFlag h) = true) ∧
      (h = .b → k.present = true → ∀ r ∈ t.store.records, r.state ≠ .joining)) ∧
  (∀ (h : Head) (coils : Coils) (due : Time) (s : State), s.powered = true →
    (s.heads.get h).silence = some due →
    ∃ t : State, exec (.silenceTimerExpiry h coils) s = .next t ∧
      t.heads = s.heads.put h
        { present := false, silence := none, frameErrors := (s.heads.get h).frameErrors } ∧
      t.timeBase = laterOf s.timeBase due ∧
      ((s.heads.get h).present = true → t.flag (headLostFlag h) = true) ∧
      (h = .b → (s.heads.get h).present = true → ∀ r ∈ t.store.records, r.state ≠ .joining)) ∧
  (∀ (h : Head) (payload : List Byte) (coils : Coils) (s : State), s.powered = true →
    let k := s.heads.get h
    let wrong := { (s.setReceiver (.head h) {}) with
      heads := s.heads.put h
        { k with frameErrors := if k.frameErrors < 65535 then k.frameErrors + 1 else k.frameErrors } }
    (payload.length ≠ 1 → exec (.headState h payload coils) s = .next (closeEvent s wrong)) ∧
    (payload.length ≠ 7 → exec (.report h payload coils) s = .next (closeEvent s wrong)))

/-- A REPORT's fields are brought into range before anything is done with them: the ranges of R32, the
swap of the columns, and REPORT_CLAMPED whenever a field changed, whatever becomes of the report. Outside
RUN a bound report sets no other flag, and an orphan only its own: REPORT_CLAMPED stands as it was when no
field changed. -/
def Obligations.ReportClamping : Prop :=
  (∀ r : ReportFields,
    r.clamped.seq = r.seq ∧ r.clamped.first ≤ r.clamped.last ∧ r.clamped.last ≤ 63 ∧
    (r.first ≤ 63 → r.last ≤ 63 → r.first ≤ r.last →
      r.clamped.first = r.first ∧ r.clamped.last = r.last) ∧
    (r.first ≤ 63 → r.last ≤ 63 → r.last < r.first →
      r.clamped.first = r.last ∧ r.clamped.last = r.first) ∧
    (63 < r.first → r.last ≤ 63 → r.clamped.first = r.last ∧ r.clamped.last = 63) ∧
    (63 < r.last → r.clamped.last = 63 ∧ r.clamped.first = min r.first 63) ∧
    r.clamped.length = (if r.length = 0 then 1 else r.length) ∧
    r.clamped.cls = (if 31 < r.cls then 0 else r.cls) ∧
    r.clamped.confidence = (if 15 < r.confidence then 15 else r.confidence)) ∧
  (∀ (h : Head) (payload : List Byte) (coils : Coils) (s : State), s.powered = true →
    payload.length = 7 →
    ∃ t : State, exec (.report h payload coils) s = .next t ∧
      (readReport payload ≠ (readReport payload).clamped → t.flag .reportClamped = true) ∧
      (readReport payload = (readReport payload).clamped → s.run ≠ .run →
        t.flag .reportClamped = s.flag .reportClamped))

/-- Binding: a report that matches an entry takes it and the older ones out of the FIFO, the older ones
as UNREPORTED; one that matches none is an orphan and leaves the FIFO. A bound report outside RUN is
discarded: the records, the banks and CREATED stand as they were, and with no older entry and no field
out of range no flag is set. -/
def Obligations.ReportBinding : Prop :=
  ∀ (h : Head) (payload : List Byte) (coils : Coils) (s : State), s.powered = true →
    payload.length = 7 →
    let c := channelOfLine (lineOfHead h)
    (∀ (older newer : List LatchEntry) (e : LatchEntry),
      (s.latch c).fifo = older ++ e :: newer → e.seq = byteAt payload 0 →
      (∀ x ∈ older, x.seq ≠ e.seq) →
      ∃ t : State, exec (.report h payload coils) s = .next t ∧
        t.latch c = { s.latch c with fifo := newer } ∧
        t.store.globals.unreported = satInc^[older.length] s.store.globals.unreported ∧
        (older ≠ [] → t.flag (match h with | .a => .unreportedA | .b => .unreportedB) = true) ∧
        (t.heads.get h).silence = some (timePlus s.timeBase (s.settings.silenceTimeout * 1000)) ∧
        (t.heads.get h).present = (s.heads.get h).present ∧
        (s.run ≠ .run →
          t.store = { s.store with globals := { s.store.globals with
            unreported := satInc^[older.length] s.store.globals.unreported } } ∧
          t.banks = s.banks ∧ t.health = s.health ∧ t.run = s.run ∧
          (older = [] → readReport payload = (readReport payload).clamped → t.flags = s.flags))) ∧
    ((∀ x ∈ (s.latch c).fifo, x.seq ≠ byteAt payload 0) →
      ∃ t : State, exec (.report h payload coils) s = .next t ∧
        t.latches = s.latches ∧ t.flag (orphanFlag h) = true ∧
        t.store = s.store ∧ t.banks = s.banks ∧ t.health = s.health)

/-! ### The Track Store (chapter 3) -/

/-- A bound head A report in RUN creates one record, at its arrival position and in its place, JOINING
while head B is PRESENT and resolved and READY while it is LOST. Beyond the horizon it waits there; at its
creation within the horizon it is resolved from its A part, and is PASSED at once by a PASS route, or held
while V is below Vmin and the piece has not reached the bar. With a full store the report is DROPPED
under its unresolved class instead. Stated where no purge is owed, and within the horizon for those two
results and a piece that has not crossed the eject line. -/
def Obligations.HeadACreates : Prop :=
  ∀ (seq cls conf : Byte) (first last hi lo : Byte) (e : LatchEntry) (coils : Coils) (s : State),
    s.powered = true → s.run = .run → s.noDebts →
    s.latches.sa.fifo = [e] → e.seq = seq →
    first.toNat ≤ last.toNat → last.toNat ≤ 63 → 0 < read2 hi lo → conf.toNat ≤ 15 →
    ∀ hc : cls.toNat < 32,
    let k : ClassCode := ⟨cls.toNat, hc⟩
    let part : HeadPart :=
      { position := e.position, first := first.toNat, last := last.toNat, length := read2 hi lo
        cls := k, confidence := conf.toNat }
    let unresolved : ClassCode :=
      if conf.toNat < s.settings.routes[k].minConfidence then 0 else k
    let route := s.settings.routes[unresolved]
    let pArr := e.position + BitVec.ofNat 32 s.settings.dA
    let made := fun (state : RecState) (reached : Bool) (resolution : Option Resolution) =>
      ({ id := s.store.idToUse, born := s.store.births, state := state, aPart := some part
         bPart := none, pArr := pArr, first := first.toNat, last := last.toNat
         length := read2 hi lo, reached := reached, resolution := resolution, plan := none
         missCause := none } : Record)
    let resolved : Option Resolution := some { cls := unresolved, route := route }
    ∃ t : State, exec (.report .a [seq, first, last, hi, lo, cls, conf] coils) s = .next t ∧
      t.latches.sa.fifo = [] ∧
      (s.store.records.length < 512 →
        ((s.settings.horizon : Int) < serialDiff pArr s.belt.tc →
          (s.heads.b.present = true → s.Created (made .joining false none) t) ∧
          (s.heads.b.present = false → s.Created (made .ready false resolved) t)) ∧
        (serialDiff pArr s.belt.tc ≤ (s.settings.horizon : Int) →
          (route.destination = .pass → atOrPast s.belt.tc (posPlus pArr (read2 hi lo)) = false →
            s.Created (made .passed true resolved) t) ∧
          (∀ bar, route.destination.bar? = some bar → s.belt.v < s.settings.vmin →
            atOrPast s.belt.tc (posPlus pArr (s.settings.trim bar)) = false →
            s.Created (made .ready true resolved) t))) ∧
      (512 ≤ s.store.records.length →
        t.flag .storeFull = true ∧ t.store.records = s.store.records ∧
        t.store.globals = s.store.globals ∧ t.store.nextId = s.store.nextId ∧
        ∀ c : ClassCode, t.store.classTallies[c] =
          if c = unresolved then
            { s.store.classTallies[c] with dropped := satInc s.store.classTallies[c].dropped }
          else s.store.classTallies[c])

/-- A head B report joins the candidate with the smallest difference, the first created among equals;
and the joined record has both parts, head B's arrival position, the union of the boxes and the class
that R49 picks from both parts. A bound head B report in RUN with a candidate joins it: the record takes
its new place and nothing is counted; with none it creates a READY record, PASSED or held at once within
the horizon as for head A, and with a full store is DROPPED. The reports are stated where no purge is
owed, the join for a record beyond the horizon. -/
def Obligations.HeadBJoins : Prop :=
  (∀ (p : HeadPart) (pArrB : Pos) (s : State),
    (∀ r : Record, s.candidate p pArrB r = true ↔
      r.state = .joining ∧
        ((serialDiff r.pArr pArrB).natAbs : Int) ≤
          s.settings.joinTolerance + (if s.belt.slip then s.settings.slipMargin else 0) ∧
        ∃ a, r.aPart = some a ∧ p.first ≤ a.last + 2 ∧ a.first ≤ p.last + 2) ∧
    (s.joinChoice p pArrB = none ↔ ∀ r ∈ s.store.records, s.candidate p pArrB r = false) ∧
    (∀ r : Record, s.joinChoice p pArrB = some r →
      r ∈ s.store.records ∧ s.candidate p pArrB r = true ∧
      ∀ q ∈ s.store.records, s.candidate p pArrB q = true →
        r.distance pArrB < q.distance pArrB ∨
          (r.distance pArrB = q.distance pArrB ∧ r.born ≤ q.born))) ∧
  (∀ (a b : HeadPart) (s : State),
    let ca : ClassCode := if a.confidence < s.settings.routes[a.cls].minConfidence then 0 else a.cls
    let cb : ClassCode := if b.confidence < s.settings.routes[b.cls].minConfidence then 0 else b.cls
    let pa := s.settings.routes[ca].precedence
    let pb := s.settings.routes[cb].precedence
    (pb < pa → s.betterClass a b = ca) ∧ (pa < pb → s.betterClass a b = cb) ∧
    (pa = pb → b.confidence ≤ a.confidence → s.betterClass a b = ca) ∧
    (pa = pb → a.confidence < b.confidence → s.betterClass a b = cb)) ∧
  (∀ (a b : HeadPart) (pArrB : Pos) (r : Record) (s : State), r.aPart = some a →
    s.joined r b pArrB = { r with
      bPart := some b, pArr := pArrB
      first := min r.first b.first, last := max r.last b.last, length := max r.length b.length
      resolution := some
        { cls := s.betterClass a b, route := s.settings.routes[s.betterClass a b] }
      state := .ready }) ∧
  (∀ (seq cls conf : Byte) (first last hi lo : Byte) (e : LatchEntry) (coils : Coils) (s : State),
    s.powered = true → s.run = .run → s.noDebts →
    s.latches.sb.fifo = [e] → e.seq = seq →
    first.toNat ≤ last.toNat → last.toNat ≤ 63 → 0 < read2 hi lo → conf.toNat ≤ 15 →
    ∀ hc : cls.toNat < 32,
    let k : ClassCode := ⟨cls.toNat, hc⟩
    let part : HeadPart :=
      { position := e.position, first := first.toNat, last := last.toNat, length := read2 hi lo
        cls := k, confidence := conf.toNat }
    let unresolved : ClassCode :=
      if conf.toNat < s.settings.routes[k].minConfidence then 0 else k
    let route := s.settings.routes[unresolved]
    let pArr := e.position + BitVec.ofNat 32 s.settings.dB
    let made := fun (state : RecState) (reached : Bool) =>
      ({ id := s.store.idToUse, born := s.store.births, state := state, aPart := none
         bPart := some part, pArr := pArr, first := first.toNat, last := last.toNat
         length := read2 hi lo, reached := reached
         resolution := some { cls := unresolved, route := route }, plan := none
         missCause := none } : Record)
    ∃ t : State, exec (.report .b [seq, first, last, hi, lo, cls, conf] coils) s = .next t ∧
      t.latches.sb.fifo = [] ∧
      (∀ r : Record, s.joinChoice part pArr = some r →
        (s.settings.horizon : Int) < serialDiff pArr s.belt.tc →
        ∃ before after : List Record,
          (s.store.records.filter fun q => decide (q.id ≠ r.id)) = before ++ after ∧
          t.store = { s.store with records := before ++ s.joined r part pArr :: after } ∧
          (s.joined r part pArr).placed before after ∧ t.cursors.track = s.cursors.track) ∧
      (s.joinChoice part pArr = none → s.store.records.length < 512 →
        ((s.settings.horizon : Int) < serialDiff pArr s.belt.tc →
          s.Created (made .ready false) t) ∧
        (serialDiff pArr s.belt.tc ≤ (s.settings.horizon : Int) →
          (route.destination = .pass → atOrPast s.belt.tc (posPlus pArr (read2 hi lo)) = false →
            s.Created (made .passed true) t) ∧
          (∀ bar, route.destination.bar? = some bar → s.belt.v < s.settings.vmin →
            atOrPast s.belt.tc (posPlus pArr (s.settings.trim bar)) = false →
            s.Created (made .ready true) t))) ∧
      (s.joinChoice part pArr = none → 512 ≤ s.store.records.length →
        t.flag .storeFull = true ∧ t.store.records = s.store.records ∧
        t.store.globals = s.store.globals ∧ t.store.nextId = s.store.nextId ∧
        ∀ c : ClassCode, t.store.classTallies[c] =
          if c = unresolved then
            { s.store.classTallies[c] with dropped := satInc s.store.classTallies[c].dropped }
          else s.store.classTallies[c]))

/-- The store never holds more than 512 records and no two share an id; a new record takes the first id
at or after the next id that no record holds. -/
def Obligations.TrackIdsDistinct : Prop :=
  (∀ s t : State, s.store.IdsDistinct → step s = .next t → t.store.IdsDistinct) ∧
  (∀ st : Store, st.IdsDistinct → st.records.length < 512 →
    ∃ k : Nat, k ≤ 511 ∧ st.idToUse = st.nextId + BitVec.ofNat 16 k ∧
      (∀ r ∈ st.records, r.id ≠ st.idToUse) ∧
      ∀ j < k, ∃ r ∈ st.records, r.id = st.nextId + BitVec.ofNat 16 j)

/-- CREATED less the outcome tallies of all classes is the number of records, after every command, while
no tally has saturated. -/
def Obligations.TalliesBalance : Prop :=
  ∀ s t : State, s.store.IdsDistinct → s.store.Balanced → step s = .next t → t.store.Balanced

/-- INJECT, in the order of its tests, and the READY record it creates in its place; within the horizon
that record is PASSED at once by a PASS route, or held while V is below Vmin and the piece has not reached
the bar. The creation is stated where no purge is owed, and within the horizon for those two results. -/
def Obligations.Inject : Prop :=
  ∀ (tag f l hi lo cls mode p3 p2 p1 p0 : Byte) (coils : Coils) (s : State), s.ready →
    let c := Instr.inject tag [f, l, hi, lo, cls, mode, p3, p2, p1, p0] coils
    let position := read4 p3 p2 p1 p0
    let pArr := if mode = 1 then s.belt.tc + position else position
    let inRange := f.toNat ≤ l.toNat ∧ l.toNat ≤ 63 ∧ 1 ≤ read2 hi lo ∧ cls.toNat ≤ 31 ∧
      mode.toNat ≤ 1 ∧ 0 ≤ serialDiff pArr s.belt.tc ∧ serialDiff pArr s.belt.tc ≤ 16777215
    (s.run ≠ .run → exec c s = .next (closeEvent s (s.replied 0x92 tag [0x10]))) ∧
    (s.run = .run → ¬inRange → exec c s = .next (closeEvent s (s.replied 0x92 tag [0x20]))) ∧
    (s.run = .run → inRange → 512 ≤ s.store.records.length →
      exec c s = .next (closeEvent s (s.replied 0x92 tag [0x11]))) ∧
    (s.run = .run → inRange → s.store.records.length < 512 → s.noDebts → ∀ hc : cls.toNat < 32,
      let k : ClassCode := ⟨cls.toNat, hc⟩
      let route := s.settings.routes[k]
      let made := fun (state : RecState) (reached : Bool) =>
        ({ id := s.store.idToUse, born := s.store.births, state := state, aPart := none, bPart := none
           pArr := pArr, first := f.toNat, last := l.toNat, length := read2 hi lo, reached := reached
           resolution := some { cls := k, route := route }, plan := none, missCause := none } : Record)
      let creates := fun r : Record => ∃ u : State,
        exec c s = .next (closeEvent s
          (u.replied 0x92 tag (0x00 :: bytes2 s.store.idToUse.toNat))) ∧
        u = { s with store := u.store } ∧ s.Created r u
      ((s.settings.horizon : Int) < serialDiff pArr s.belt.tc → creates (made .ready false)) ∧
      (serialDiff pArr s.belt.tc ≤ (s.settings.horizon : Int) →
        (route.destination = .pass → creates (made .passed true)) ∧
        (∀ bar, route.destination.bar? = some bar → s.belt.v < s.settings.vmin →
          atOrPast s.belt.tc (posPlus pArr (s.settings.trim bar)) = false →
          creates (made .ready true))))

/-- CLEAR-TALLIES zeroes every tally and sets CREATED to the number of records, which its reply carries,
in every run state. -/
def Obligations.ClearTallies : Prop :=
  ∀ (tag : Byte) (s : State), s.ready → ∃ u : State,
    exec (.clearTallies tag []) s = .next (closeEvent s
      (u.replied 0x93 tag (0x00 :: bytes2 s.store.records.length))) ∧
    u = { s with store := { s.store with
      classTallies := u.store.classTallies, globals := u.store.globals } } ∧
    (∀ c : ClassCode, u.store.classTallies[c] = ⟨0, 0, 0, 0, 0, 0, 0⟩) ∧
    u.store.globals = ⟨s.store.records.length, 0, 0, 0, 0, 0, 0, 0, 0, 0⟩

/-- The outcome of a record whose parts are all final, and its writing: the record whose last part
becomes final takes it, and a LOST part counts once in the tally of its cause. -/
def Obligations.OutcomeRule : Prop :=
  (∀ parts : List Part, parts ≠ [] → (∀ p ∈ parts, p.result.final = true) →
    ((∀ p ∈ parts, p.result.isLost = true) →
      ∃ c, (parts.head?.map fun p => p.result) = some (.lost c) ∧
        outcomeOf parts = (.missed, some c)) ∧
    ((∃ p ∈ parts, p.result.isLost = true) → (∃ p ∈ parts, p.result.isLost = false) →
      outcomeOf parts = (.partHit, none)) ∧
    ((∀ p ∈ parts, p.result.isLost = false) → (∃ p ∈ parts, p.result = .doneDegraded) →
      outcomeOf parts = (.degraded, none)) ∧
    ((∀ p ∈ parts, p.result = .done) → outcomeOf parts = (.fired, none))) ∧
  (∀ (r : Record) (plan : Plan) (b : BankId) (mask : Mask) (level : Level) (result : PartResult)
      (s : State), s.store.records = [r] → r.plan = some plan →
    r.state = .planned ∨ r.state = .firing → result.final = true →
    plan.parts = [{ bank := b, mask := mask, level := level, result := .opened }] →
    s.edgePassed r = false →
    s.reportPart r.id b result none = { s with store := { s.store with
      records := [{ r with
        plan := some { plan with
          parts := [{ bank := b, mask := mask, level := level, result := result }] }
        state := (outcomeOf [{ bank := b, mask := mask, level := level, result := result }]).1
        missCause :=
          (outcomeOf [{ bank := b, mask := mask, level := level, result := result }]).2 }]
      globals := match result with
        | .lost c => s.store.globals.count c
        | _ => s.store.globals } })

/-! ### The Planner (chapter 5) -/

/-- The Planner's arithmetic. Lead is V × Lv plus 128,000, integer-divided by 256,000, and its clamp is
never reached in the ranges of the settings and of V. Units are the least integer not below (Lo + 2 ×
Pd) × 512 / V, and Dp is units clamped to the route copy's Dmin to Dmax. The count equivalent of a time
is, for a positive V, the least integer not below V × t / 256,000, and 0 for a V of 0 or less. -/
def Obligations.WindowArithmetic : Prop :=
  (∀ (v latency : Nat), 16 ≤ v → v ≤ 65535 → 500 ≤ latency → latency ≤ 8000 →
    leadOf v latency = (v * latency + 128000) / 256000 ∧ leadOf v latency ≤ 2048) ∧
  (∀ (v length pad : Nat) (r : Route), 0 < v → 1 ≤ length → r.dmin ≤ r.dmax →
    (∀ n : Nat, unitsOf v length pad ≤ n ↔ (length + 2 * pad) * 512 ≤ n * v) ∧
    1 ≤ unitsOf v length pad ∧
    durationOf v length pad r = max r.dmin (min r.dmax (unitsOf v length pad)) ∧
    r.dmin ≤ durationOf v length pad r ∧ durationOf v length pad r ≤ r.dmax) ∧
  (∀ (v : Int) (us : Nat),
    (0 < v → ∀ n : Nat, countEquivalent v us ≤ n ↔ v * us ≤ n * 256000) ∧
    (v ≤ 0 → countEquivalent v us = 0) ∧
    (0 < v → 0 < us → 1 ≤ countEquivalent v us))

/-- The columns of an eject and their parts: every healthy column of the padded span, at most one
substitute on each side that had a nozzle removed, the nearest column or else the second, none on a side
that lost none, none elsewhere and none FAULTY; and one part for each bank that has a member, lowest bank
first, with exactly the columns' members. A plan's parts are those of the padded span: the record's box
widened by the span pad on both sides and clipped to 0–63 on each side alone. -/
def Obligations.EjectColumnsAndParts : Prop :=
  (∀ (bar : Bar) (f l : Nat) (s : State), f ≤ l → l ≤ 63 →
    let columns := s.ejectColumns bar f l
    let lost := fun c => f ≤ c ∧ c ≤ l ∧ s.faulty (nozzleAt bar c) = true
    (∀ c ∈ columns, c ≤ 63 ∧ s.faulty (nozzleAt bar c) = false ∧ f ≤ c + 2 ∧ c ≤ l + 2) ∧
    (∀ c, f ≤ c → c ≤ l → (c ∈ columns ↔ s.faulty (nozzleAt bar c) = false)) ∧
    ((∀ c, lost c → ¬ c - f ≤ l - c) → ∀ c ∈ columns, f ≤ c) ∧
    ((∀ c, lost c → ¬ l - c < c - f) → ∀ c ∈ columns, c ≤ l) ∧
    ((∃ c, lost c ∧ c - f ≤ l - c) →
      (1 ≤ f → s.faulty (nozzleAt bar (f - 1)) = false → f - 1 ∈ columns) ∧
      (2 ≤ f → s.faulty (nozzleAt bar (f - 1)) = true → s.faulty (nozzleAt bar (f - 2)) = false →
        f - 2 ∈ columns)) ∧
    ((∃ c, lost c ∧ l - c < c - f) →
      (l + 1 ≤ 63 → s.faulty (nozzleAt bar (l + 1)) = false → l + 1 ∈ columns) ∧
      (l + 2 ≤ 63 → s.faulty (nozzleAt bar (l + 1)) = true → s.faulty (nozzleAt bar (l + 2)) = false →
        l + 2 ∈ columns)) ∧
    (columns.filter fun c => decide (c < f)).length ≤ 1 ∧
    (columns.filter fun c => decide (l < c)).length ≤ 1) ∧
  (∀ (bar : Bar) (level : Level) (columns : List Nat), (∀ c ∈ columns, c ≤ 63) →
    let parts := partsOf bar level columns
    (∀ p ∈ parts, p.level = level ∧ p.result = .waiting ∧ p.mask ≠ 0 ∧ barOfBank p.bank = bar) ∧
    (parts.map fun p => p.bank.val).Pairwise (· < ·) ∧
    (∀ c, c ≤ 63 → (c ∈ columns ↔
      ∃ p ∈ parts, p.bank = bankOf bar c ∧ p.mask.getLsbD (c % 8) = true))) ∧
  (∀ (r : Record) (route : Route) (bar : Bar) (s : State),
    let f := if r.first < route.spanPad then 0 else r.first - route.spanPad
    let l := if 63 < r.last + route.spanPad then 63 else r.last + route.spanPad
    let parts := (s.planOf r route bar).parts
    parts = partsOf bar route.level (s.ejectColumns bar f l) ∧
    (r.first ≤ r.last → r.last ≤ 63 →
      f ≤ r.first ∧ r.last ≤ l ∧ l ≤ 63 ∧
      ∀ c, c ≤ 63 → r.first ≤ c + route.spanPad → c ≤ r.last + route.spanPad →
        ((∃ p ∈ parts, p.bank = bankOf bar c ∧ p.mask.getLsbD (c % 8) = true) ↔
          s.faulty (nozzleAt bar c) = false)))

/-- A held record at a speed sample: while V stays below Vmin it is held until the piece reaches the bar
and then MISSED with cause SLOW; once V suffices and the trigger is passed it is MISSED with cause LATE,
with no column left UNAVAILABLE and an empty parts list, and otherwise planned, its parts offered. And the
planning event of a record that a count brings within the horizon: a JOINING one is resolved from its A
part; it is PASSED, held, or planned. Stated for a store of one record whose trailing edge has not
crossed, no purge owed, no overspeed limit, and at the count with no entry queued and a limit action that
does not halt. -/
def Obligations.HeldRecordAtSample : Prop :=
  (∀ (coils : Coils) (r : Record) (res : Resolution) (bar : Bar) (s : State), s.powered = true →
    s.settings.overspeedLimit = 0 → s.noDebts → s.store.records = [r] →
    r.state = .ready → r.reached = true → r.resolution = some res →
    res.route.destination.bar? = some bar → s.edgePassed r = false →
    let u := s.takeSample
    let atBar := atOrPast s.belt.tc (posPlus r.pArr (s.settings.trim bar))
    let plan := u.planOf r res.route bar
    (u.belt.v < s.settings.vmin → atBar = false →
      exec (.speedSample coils) s = .next (closeEvent s u)) ∧
    (u.belt.v < s.settings.vmin → atBar = true →
      exec (.speedSample coils) s = .next (closeEvent s { u with store := { s.store with
        records := [{ r with state := .missed, missCause := some .slow }]
        globals := { s.store.globals with slow := satInc s.store.globals.slow } } })) ∧
    ((s.settings.vmin : Int) ≤ u.belt.v → atOrPast s.belt.tc plan.trigger = true →
      exec (.speedSample coils) s = .next (closeEvent s { u with store := { s.store with
        records := [{ r with state := .missed, missCause := some .late }]
        globals := { s.store.globals with late := satInc s.store.globals.late } } })) ∧
    ((s.settings.vmin : Int) ≤ u.belt.v → atOrPast s.belt.tc plan.trigger = false →
      plan.parts = [] →
      exec (.speedSample coils) s = .next (closeEvent s { u with store := { s.store with
        records := [{ r with
          state := .missed, plan := some plan, missCause := some .unavailable }]
        globals := { s.store.globals with
          unavailable := satInc s.store.globals.unavailable } } })) ∧
    ((s.settings.vmin : Int) ≤ u.belt.v → atOrPast s.belt.tc plan.trigger = false →
      plan.parts ≠ [] →
      ∃ t : State, exec (.speedSample coils) s = .next t ∧ u.PlansTo r res.route bar t ∧
        u.SameOffPlant t ∧ t.run = s.run) ∧
    plan.trigger = posPlus r.pArr (s.settings.trim bar - plan.lead -
      (res.route.leadPad + (if s.belt.slip then s.settings.slipMargin else 0) : Nat))) ∧
  (∀ (a b forward : Bool) (coils : Coils) (r : Record) (res : Resolution) (s : State),
    s.powered = true →
    decodeEdge s.settings.decodeMode s.settings.direction s.belt.refA s.belt.refB a b =
      .counts forward →
    s.settings.limitAction ≠ .halt → s.noDebts → (∀ k, (s.bank k).queue = []) →
    s.store.records = [r] → r.reached = false → r.missCause = none →
    (r.state = .ready ∧ r.resolution = some res) ∨
      (r.state = .joining ∧ ∃ p, r.aPart = some p ∧ res.cls = (if p.confidence <
        s.settings.routes[p.cls].minConfidence then 0 else p.cls) ∧
        res.route = s.settings.routes[res.cls]) →
    ∃ t : State, exec (.encoderEdge a b coils) s = .next t ∧
      let tc := if forward then s.belt.tc + 1 else s.belt.tc - 1
      let u := ({ s with belt := t.belt } : State)
      let due := { r with state := .ready, resolution := some res, reached := true }
      t.belt.tc = tc ∧
      ((s.settings.horizon : Int) < serialDiff r.pArr tc →
        t.store = s.store ∧ t.banks = s.banks) ∧
      (serialDiff r.pArr tc ≤ (s.settings.horizon : Int) →
        atOrPast tc (posPlus r.pArr r.length) = false →
        (res.route.destination = .pass →
          t.store = { s.store with records := [{ due with state := .passed }] } ∧
          t.banks = s.banks) ∧
        (∀ bar, res.route.destination.bar? = some bar →
          (s.belt.v < s.settings.vmin →
            atOrPast tc (posPlus r.pArr (s.settings.trim bar)) = false →
            t.store = { s.store with records := [due] } ∧ t.banks = s.banks) ∧
          ((s.settings.vmin : Int) ≤ s.belt.v →
            atOrPast tc (u.planOf due res.route bar).trigger = false →
            (u.planOf due res.route bar).parts ≠ [] →
            u.PlansTo due res.route bar t))))

/-! ### Valve banks (chapter 6) -/

/-- The level at which a bank admits an offer, or the cause it refuses it with: availability, the
conflict at the level offered, and the conflict policy; the two tests a conflict is made of, with the
standing level and the time that a bank in each state needs to finish and then switch; and the place an
admitted entry takes in the queue, which stands in trigger order with equal triggers in the order of
admission. -/
def Obligations.Admission : Prop :=
  (∀ (b : BankId) (o : Offer) (s : State),
    ((s.bank b).unavailable = true → s.admission b o = .error .unavailable) ∧
    ((s.bank b).unavailable = false → s.conflictAt b o o.level = false →
      s.admission b o = .ok o.level) ∧
    ((s.bank b).unavailable = false → s.conflictAt b o o.level = true →
      (o.policy = .yield → s.admission b o = .error .conflict) ∧
      (o.policy = .degrade → s.conflictAt b o o.level.other = false →
        s.admission b o = .ok o.level.other) ∧
      (o.policy = .degrade → s.conflictAt b o o.level.other = true →
        s.admission b o = .error .conflict))) ∧
  (∀ (b : BankId) (o : Offer) (level : Level) (s : State),
    let st := s.bankSettings b
    let q : Int := countEquivalent o.speed (st.tSW * 1000)
    let busy := countEquivalent o.speed
      (o.dp * 500 + (wavesOf o.mask st.mso - 1) * st.waveGap * 500 + st.tRC * 500)
    (s.shed = true → s.conflictAt b o .high = true) ∧
    (s.shed = false ∨ level = .low → (s.conflictAt b o level = true ↔
      (∃ e ∈ (s.bank b).queue, e.level ≠ level ∧
        serialDiff o.trigger (posPlus e.busyEnd q) < 0 ∧
        serialDiff e.trigger (posPlus (posPlus o.trigger busy) q) < 0) ∨
      ((s.bank b).standingLevel ≠ level ∧
        serialDiff o.trigger s.belt.tc < countEquivalent o.speed (s.switchTime b))))) ∧
  (∀ (b : BankId) (s : State),
    let k := s.bank b
    let st := s.bankSettings b
    let left := fun t : Time => (serialDiff t s.timeBase).toNat
    ((∀ target ends, k.state = .switching target ends → k.standingLevel = target) ∧
      ((∀ target ends, k.state ≠ .switching target ends) → k.standingLevel = k.level)) ∧
    (k.state = .idle → s.switchTime b = st.tSW * 1000) ∧
    (∀ last, k.state = .opened →
      (∃ e ∈ k.queue, e.state = .opened ∧ ∃ p, e.pulse = some p ∧ left p.expiry = last) →
      (∀ e ∈ k.queue, e.state = .opened → ∀ p, e.pulse = some p → left p.expiry ≤ last) →
      s.switchTime b = last + st.tRC * 500 + st.tSW * 1000) ∧
    (∀ ends, k.state = .settling ends → s.switchTime b = left ends + st.tSW * 1000) ∧
    (∀ kind ends hit, k.state = .purging kind ends hit →
      s.switchTime b = left ends + st.tRC * 500 + st.tSW * 1000) ∧
    (∀ target ends, k.state = .switching target ends →
      s.switchTime b = left ends + st.tSW * 1000)) ∧
  (∀ (b : BankId) (s : State),
    (s.bank b).unavailable = true ↔
      ((s.bank b).state.awaited = true ∨ (s.bank b).state = .fenced ∨ (s.bank b).due = true ∨
        16 ≤ (s.bank b).queue.length)) ∧
  (∀ (e : Entry) (queue : List Entry), ∃ before after : List Entry,
    queue = before ++ after ∧ queueEntry e queue = before ++ e :: after ∧
    (∀ x ∈ before, 0 ≤ serialDiff e.trigger x.trigger) ∧
    ∀ x rest, after = x :: rest → serialDiff e.trigger x.trigger < 0)

/-- A WAITING entry's trigger, reached at a forward count, row by row: lost for FIRE-ENABLE, suspension
and SHED, opened at its own level, opened degraded or lost at the other, and PENDING at a busy bank; what
the bank reports of its part, the cause that is counted, and the record's state after it. Stated for the
only entry of its bank and the only record of the store, whose trailing edge has not crossed, while no
trigger of another bank is reached and no purge is owed; the openings for healthy, closed nozzles with
good coils. -/
def Obligations.TriggerRows : Prop :=
  ∀ (a b : Bool) (coils : Coils) (bank : BankId) (e : Entry) (r : Record) (plan : Plan) (s : State),
    s.powered = true →
    decodeEdge s.settings.decodeMode s.settings.direction s.belt.refA s.belt.refB a b =
      .counts true →
    s.store.records = [r] → r.id = e.track → r.plan = some plan → plan.awaits bank .waiting →
    r.state = .planned ∨ r.state = .firing → r.reached = true →
    atOrPast (s.belt.tc + 1) (posPlus r.pArr r.length) = false → s.noDebts →
    (s.bank bank).queue = [e] → e.state = .waiting → atOrPast (s.belt.tc + 1) e.trigger = true →
    (∀ k, k ≠ bank → ∀ x ∈ (s.bank k).queue,
      x.state = .waiting → atOrPast (s.belt.tc + 1) x.trigger = false) →
    ∃ t : State, exec (.encoderEdge a b coils) s = .next t ∧
      (∀ k, k ≠ bank → t.bank k = s.bank k) ∧
      let k := s.bank bank
      let free := k.state = .idle ∨ k.state = .opened
      let suspended := s.settings.limitAction = .suspend ∧
        (s.belt.overspeed = true ∨ (s.belt.reverse = true ∧ (s.belt.counted true).rx ≠ 0))
      let loses := fun cause : Cause =>
        t.bank bank = { k with queue := [] } ∧
        t.store = { s.store with
          records := [r.reported plan bank (.lost cause) none]
          globals := s.store.globals.count cause }
      (s.fireEnable = false → loses .inhibited ∧ t.flag .inhibited = true) ∧
      (s.fireEnable = true → suspended → loses .suspended) ∧
      (s.fireEnable = true → ¬suspended →
        (s.shed = true → e.level = .high → loses .pressure) ∧
        (¬(s.shed = true ∧ e.level = .high) →
          (¬free →
            t.bank bank = { k with
              queue := [{ e with state := .pending, triggerTime := some s.timeBase }] } ∧
            t.store = s.store) ∧
          (free → e.level ≠ k.level → e.policy = .yield → loses .conflict) ∧
          (free → e.level ≠ k.level → e.policy = .degrade →
            s.shed = true → k.level = .high → loses .pressure) ∧
          (free → e.level = k.level ∨
              (e.policy = .degrade ∧ ¬(s.shed = true ∧ k.level = .high)) →
            (∀ m : Member, s.faulty (nozzleOf bank m) = false ∧ s.nozzleOpen bank m = false ∧
              coilGood coils bank m = true) →
            let st := s.bankSettings bank
            let wave := waveMembers st.openOrder st.mso e.mask 0
            (t.bank bank).state = .opened ∧
            (∀ m : Member, (t.bank bank).nozzles[m] =
              if m ∈ wave then some (timePlus s.timeBase (e.dp * 500)) else none) ∧
            (t.bank bank).queue = [{ e with
              level := k.level
              degraded := e.degraded || decide (e.level ≠ k.level)
              state := .opened
              triggerTime := some s.timeBase
              hit := e.hit || decide (wave ≠ [])
              pulse := some
                { duration := e.dp, firstWave := s.timeBase, wavesOpened := 1
                  expiry := timePlus s.timeBase
                    (((e.waves - 1) * st.waveGap + e.dp) * 500) } }] ∧
            t.store = { s.store with
              records := [r.reported plan bank .opened (some k.level)] })))

/-- The life of an OPEN pulse: a later wave opens its members for the entry's duration, a nozzle closes
at its own time, and at the pulse expiry the entry leaves with its result reported, DONE, DONE_DEGRADED, or
LOST with UNAVAILABLE when no member opened, and the bank recharges after its last OPEN entry; a timer
that is not running changes nothing. The expiry is stated for a record of the store whose trailing edge
has not crossed. That an event whose timer is not running changes nothing is the model's choice,
assumption 1. -/
def Obligations.PulseLife : Prop :=
  (∀ (bank : BankId) (e : Entry) (p : PulseRun) (coils : Coils) (s : State), s.powered = true →
    s.fireEnable = true → (s.bank bank).queue = [e] → e.pulse = some p → e.state = .opened →
    p.wavesOpened < e.waves →
    (∀ m : Member, s.faulty (nozzleOf bank m) = false ∧ coilGood coils bank m = true) →
    let st := s.bankSettings bank
    let wave := waveMembers st.openOrder st.mso e.mask p.wavesOpened
    let now := laterOf s.timeBase (timePlus p.firstWave (p.wavesOpened * st.waveGap * 500))
    let closing := timePlus now (p.duration * 500)
    ∃ t : State, exec (.wave bank e.track coils) s = .next t ∧ t.timeBase = now ∧
      (t.bank bank).state = (s.bank bank).state ∧
      (t.bank bank).queue = [{ e with
        hit := e.hit || decide (wave ≠ [])
        pulse := some { p with wavesOpened := p.wavesOpened + 1 } }] ∧
      (∀ m : Member, (t.bank bank).nozzles[m] =
        if m ∈ wave then
          match (s.bank bank).nozzles[m] with
          | some present => some (laterOf present closing)
          | none => some closing
        else (s.bank bank).nozzles[m]) ∧
      t.store = s.store ∧ (∀ k, k ≠ bank → t.bank k = s.bank k) ∧ t.run = s.run) ∧
  (∀ (bank : BankId) (m : Member) (s : State), s.powered = true →
    (∀ due, (s.bank bank).nozzles[m] = some due →
      exec (.nozzleClosing bank m) s = .next (closeEvent s
        (({ s with timeBase := laterOf s.timeBase due } : State).setBank bank { s.bank bank with
          nozzles := (s.bank bank).nozzles.set m none }))) ∧
    ((s.bank bank).nozzles[m] = none →
      exec (.nozzleClosing bank m) s = .next (closeEvent s s))) ∧
  (∀ (bank : BankId) (e : Entry) (p : PulseRun) (earlier later : List Entry) (r : Record) (plan : Plan)
      (before after : List Record) (s : State), s.powered = true →
    (s.bank bank).queue = earlier ++ e :: later → (∀ x ∈ earlier ++ later, x.track ≠ e.track) →
    e.pulse = some p → e.state = .opened → e.waves ≤ p.wavesOpened → (s.bank bank).state = .opened →
    s.store.records = before ++ r :: after → r.id = e.track → (∀ x ∈ before ++ after, x.id ≠ r.id) →
    r.state = .planned ∨ r.state = .firing → r.plan = some plan → plan.awaits bank .opened →
    s.edgePassed r = false →
    let now := laterOf s.timeBase p.expiry
    let result : PartResult :=
      if e.hit then (if e.degraded then .doneDegraded else .done) else .lost .unavailable
    ∃ t : State, exec (.pulseExpiry bank e.track) s = .next t ∧ t.timeBase = now ∧
      t.bank bank = { s.bank bank with
        queue := earlier ++ later
        state :=
          if ∃ x ∈ earlier ++ later, x.state = .opened then .opened
          else .settling (timePlus now ((s.bankSettings bank).tRC * 500))
        nozzles := Vector.ofFn fun m : Member => match (s.bank bank).nozzles[m] with
          | some due => if atOrPast now due then none else some due
          | none => none } ∧
      t.store = { s.store with
        records := before ++ r.reported plan bank result none :: after
        globals := if e.hit then s.store.globals else s.store.globals.count .unavailable } ∧
      t.run = s.run ∧ (∀ k, k ≠ bank → t.bank k = s.bank k)) ∧
  (∀ (bank : BankId) (id : TrackId) (coils : Coils) (s : State), s.powered = true →
    (∀ e ∈ (s.bank bank).queue, e.track = id → e.pulse = none) →
    exec (.wave bank id coils) s = .next (closeEvent s s) ∧
    exec (.pulseExpiry bank id) s = .next (closeEvent s s)) ∧
  (∀ e : Entry, e.hit = true →
    e.endResult .unavailable = (if e.degraded then .doneDegraded else .done)) ∧
  (∀ e : Entry, e.hit = false → e.endResult .unavailable = .lost .unavailable)

/-- The end of a recharge and of a switch, which takes its level: with no head, a head at the bank's level
or one that SHED bars from HIGH, and nothing PENDING, the bank goes to IDLE; with a head at the other level
it switches for it; and a PENDING entry at the bank's level has its late start: it opens for what remains
of its duration if that is at least its Dmin, and is otherwise LOST with LATE_START, as it is lost for
FIRE-ENABLE, suspension and SHED. Stated for a bank that owes no purge, the late start for its only entry,
whose record's trailing edge has not crossed, and its opening for healthy, closed nozzles with good coils;
the run state stays in every case that is written out, and whatever the coils do unless it is CONDITIONING,
where the automatic fence of the bank may end it.
That an expiry which is not due in the bank's state changes nothing, and that one moves the time base to
its time, is the model's choice, assumption 1. -/
def Obligations.BankFrees : Prop :=
  ∀ (bank : BankId) (coils : Coils) (s : State), s.powered = true → (s.bank bank).debt = 0 →
    let at_ := fun (due : Time) => ({ s with timeBase := laterOf s.timeBase due } : State)
    (∀ due, (s.bank bank).state = .settling due → (s.bank bank).queue = [] →
      exec (.rechargeExpiry bank coils) s = .next (closeEvent s
        ((at_ due).setBank bank { s.bank bank with state := .idle }))) ∧
    (∀ due e, (s.bank bank).state = .settling due → (s.bank bank).head? = some e →
      e.level ≠ (s.bank bank).level → ¬(s.shed = true ∧ e.level = .high) →
      exec (.rechargeExpiry bank coils) s = .next (closeEvent s
        ((at_ due).setBank bank { s.bank bank with
          state := .switching e.level (timePlus (laterOf s.timeBase due)
            ((s.bankSettings bank).tSW * 1000)) }))) ∧
    (∀ due target, (s.bank bank).state = .switching target due → (s.bank bank).queue = [] →
      exec (.switchExpiry bank coils) s = .next (closeEvent s
        ((at_ due).setBank bank { s.bank bank with state := .idle, level := target }))) ∧
    (∀ (c : Instr) (level : Level) (due : Time),
      (c = .rechargeExpiry bank coils ∧ (s.bank bank).state = .settling due ∧
          level = (s.bank bank).level) ∨
        (c = .switchExpiry bank coils ∧ (s.bank bank).state = .switching level due) →
      let k := s.bank bank
      let st := s.bankSettings bank
      let now := laterOf s.timeBase due
      (∀ e, k.head? = some e → e.level ≠ level → ¬(s.shed = true ∧ e.level = .high) →
        exec c s = .next (closeEvent s ((at_ due).setBank bank { k with
          level := level, state := .switching e.level (timePlus now (st.tSW * 1000)) }))) ∧
      (∀ e, k.head? = some e → (∀ x ∈ k.queue, x.state ≠ .pending) →
        e.level = level ∨ (s.shed = true ∧ e.level = .high) →
        exec c s = .next (closeEvent s ((at_ due).setBank bank { k with
          level := level, state := .idle }))) ∧
      (∀ (e : Entry) (r : Record) (plan : Plan) (before after : List Record) (since : Time),
        k.queue = [e] → e.state = .pending → e.triggerTime = some since →
        e.level = level ∨ (s.shed = true ∧ e.level = .high) →
        s.store.records = before ++ r :: after → r.id = e.track → (∀ x ∈ before ++ after, x.id ≠ r.id) →
        r.state = .planned ∨ r.state = .firing → r.plan = some plan → plan.awaits bank .waiting →
        s.edgePassed r = false →
        ∃ t : State, exec c s = .next t ∧ t.timeBase = now ∧
          (∀ b, b ≠ bank → t.bank b = s.bank b) ∧ (s.run ≠ .conditioning → t.run = s.run) ∧
          let waited := ((now - since).toNat + 499) / 500
          let loses := fun cause : Cause =>
            t.bank bank = { k with queue := [], level := level, state := .idle } ∧
            t.store = { s.store with
              records := before ++ r.reported plan bank (.lost cause) none :: after
              globals := s.store.globals.count cause } ∧ t.run = s.run
          (s.fireEnable = false → loses .inhibited ∧ t.flag .inhibited = true) ∧
          (s.fireEnable = true → s.suspension = true → loses .suspended) ∧
          (s.fireEnable = true → s.suspension = false →
            (s.shed = true → e.level = .high → loses .pressure) ∧
            (¬(s.shed = true ∧ e.level = .high) →
              (e.dp < e.dmin + waited → loses .lateStart) ∧
              (e.dmin + waited ≤ e.dp →
                (∀ m : Member, s.faulty (nozzleOf bank m) = false ∧ s.nozzleOpen bank m = false ∧
                  coilGood coils bank m = true) →
                let wave := waveMembers st.openOrder st.mso e.mask 0
                let left := e.dp - waited
                t.bank bank = { k with
                  level := level
                  state := .opened
                  nozzles := Vector.ofFn fun m : Member =>
                    if m ∈ wave then some (timePlus now (left * 500)) else none
                  queue := [{ e with
                    state := .opened
                    hit := e.hit || decide (wave ≠ [])
                    pulse := some
                      { duration := left, firstWave := now, wavesOpened := 1
                        expiry := timePlus now (((e.waves - 1) * st.waveGap + left) * 500) } }] } ∧
                t.store = { s.store with
                  records := before ++ r.reported plan bank .opened (some e.level) :: after } ∧
                t.run = s.run))))) ∧
    ((∀ due, (s.bank bank).state ≠ .settling due) →
      exec (.rechargeExpiry bank coils) s = .next (closeEvent s s)) ∧
    ((∀ target due, (s.bank bank).state ≠ .switching target due) →
      exec (.switchExpiry bank coils) s = .next (closeEvent s s))

/-- FENCE takes a bank out of service whatever it was doing, with its level kept; UNFENCE refuses a bank
that is not FENCED or has no nozzle left, and gives back a DARK one, which begins conditioning in RUN
and CONDITIONING. That a fence leaves the bank's PULSES cursor at END with an empty queue too is DEDUCED,
assumption 23. -/
def Obligations.FenceAndUnfence : Prop :=
  (∀ (tag n : Byte) (bank : BankId) (s : State), s.ready → bankOfCode n = some bank →
    (∃ u : State, exec (.fence tag [n]) s = .next (closeEvent s (u.replied 0x8D tag [0x00])) ∧
      u.bank bank =
        { s.bank bank with
          state := .fenced
          queue := if (s.bank bank).state = .fenced then (s.bank bank).queue else []
          nozzles := if (s.bank bank).state = .fenced then (s.bank bank).nozzles else noNozzleOpen
          debt := if (s.bank bank).state = .fenced then (s.bank bank).debt else 0
          due := if (s.bank bank).state = .fenced then (s.bank bank).due else false
          purgeTimer := if (s.bank bank).state = .fenced then (s.bank bank).purgeTimer else none } ∧
      s.SameOffPlant u ∧ u.flags = s.flags ∧ u.health = s.health ∧ u.link = s.link ∧
      ((s.bank bank).state ≠ .fenced → u.cursors.pulses[bank] = .atEnd) ∧
      ((s.bank bank).state = .fenced → u = s)) ∧
    ∀ coils : Coils,
      ((s.bank bank).state ≠ .fenced ∨ s.allFaulty bank = true →
        exec (.unfence tag [n] coils) s = .next (closeEvent s (s.replied 0x8E tag [0x10]))) ∧
      ((s.bank bank).state = .fenced → s.allFaulty bank = false →
        let dark : Bank :=
          { state := .dark, level := (s.bank bank).level, queue := [], nozzles := noNozzleOpen
            debt := 0, due := false, purgeTimer := none }
        let timer := some (timePlus s.timeBase ((s.bankSettings bank).tPI * 1000000))
        (s.run ≠ .run → s.run ≠ .conditioning →
          exec (.unfence tag [n] coils) s =
            .next (closeEvent s ((s.setBank bank dark).replied 0x8E tag [0x00]))) ∧
        (s.run = .run ∨ s.run = .conditioning →
          (s.fireEnable = false → exec (.unfence tag [n] coils) s =
            .next (closeEvent s ((s.setBank bank { dark with
              state := .conditioning 1 none, purgeTimer := timer }).replied 0x8E tag [0x00]))) ∧
          (s.fireEnable = true → (s.bank bank).level = .low → s.shed = false →
            exec (.unfence tag [n] coils) s =
              .next (closeEvent s ((s.setBank bank { dark with
                state := .conditioning 1
                  (some (timePlus s.timeBase ((s.bankSettings bank).tSW * 1000)))
                purgeTimer := timer }).replied 0x8E tag [0x00])))))) ∧
  (∀ (tag n : Byte) (coils : Coils) (s : State), s.ready → 15 < n.toNat →
    exec (.fence tag [n]) s = .next (closeEvent s (s.replied 0x8D tag [0x20])) ∧
    exec (.unfence tag [n] coils) s = .next (closeEvent s (s.replied 0x8E tag [0x20])))

/-- SET-LEVEL, case by case in the order of R121. -/
def Obligations.SetLevel : Prop :=
  ∀ (tag n x : Byte) (s : State), s.ready →
    (15 < n.toNat ∨ 1 < x.toNat →
      exec (.setLevel tag [n, x]) s = .next (closeEvent s (s.replied 0x8F tag [0x20]))) ∧
    ∀ (bank : BankId) (level : Level), bankOfCode n = some bank → levelOfCode x.toNat = some level →
      (s.shed = true → level = .high →
        exec (.setLevel tag [n, x]) s = .next (closeEvent s (s.replied 0x8F tag [0x10]))) ∧
      (¬(s.shed = true ∧ level = .high) → (s.bank bank).state ≠ .idle →
        exec (.setLevel tag [n, x]) s = .next (closeEvent s (s.replied 0x8F tag [0x11]))) ∧
      (¬(s.shed = true ∧ level = .high) → (s.bank bank).state = .idle → level ≠ (s.bank bank).level →
        exec (.setLevel tag [n, x]) s = .next (closeEvent s
          ((s.setBank bank { s.bank bank with
            state := .switching level
              (timePlus s.timeBase ((s.bankSettings bank).tSW * 1000)) }).replied 0x8F tag [0x00]))) ∧
      (¬(s.shed = true ∧ level = .high) → (s.bank bank).state = .idle → level = (s.bank bank).level →
        exec (.setLevel tag [n, x]) s = .next (closeEvent s (s.replied 0x8F tag [0x00])))

/-- A fall of FIRE-ENABLE closes every nozzle and ends every OPEN and PENDING entry at once; a rise
reopens nothing, and begins the conditioning sequences that were held at step 1. The rise is stated for
a part that owes no purge, with SHED not in force and the held banks at LOW. That a change to the level
the line has changes nothing is the model's choice, assumption 1. -/
def Obligations.FireEnable : Prop :=
  (∀ s : State, s.powered = true → s.fireEnable = true →
    ∃ t : State, exec .fireEnableFall s = .next t ∧ t.fireEnable = false ∧
      t.flag .inhibited = true ∧
      (∀ (b : BankId) (m : Member), t.nozzleOpen b m = false) ∧
      (∀ (b : BankId), ∀ e ∈ (t.bank b).queue, e.state = .waiting) ∧
      (∀ b : BankId, (s.bank b).state = .opened ∨ (∃ k ends hit, (s.bank b).state = .purging k ends hit) →
        (t.bank b).state = .settling (timePlus s.timeBase ((s.bankSettings b).tRC * 500))) ∧
      (∀ (b : BankId) (step : Nat) (ends : Option Time), (s.bank b).state = .conditioning step ends →
        (t.bank b).state = .conditioning 1 none) ∧
      (∀ b : BankId, (t.bank b).debt = (s.bank b).debt ∧ (t.bank b).level = (s.bank b).level) ∧
      ({ s with fireEnable := false } : State).SameOffPlant t) ∧
  (∀ s : State, s.powered = true → s.fireEnable = false →
    exec .fireEnableFall s = .next (closeEvent s s)) ∧
  (∀ (coils : Coils) (s : State), s.powered = true → s.fireEnable = false → s.noDebts →
    s.shed = false →
    (∀ b step, (s.bank b).state = .conditioning step none → step = 1 ∧ (s.bank b).level = .low) →
    exec (.fireEnableRise coils) s = .next (closeEvent s { s with
      fireEnable := true
      banks := Vector.ofFn fun b : BankId => match (s.bank b).state with
        | .conditioning 1 none => { s.bank b with
            state := .conditioning 1
              (some (timePlus s.timeBase ((s.bankSettings b).tSW * 1000))) }
        | _ => s.bank b })) ∧
  (∀ (coils : Coils) (s : State), s.powered = true → s.fireEnable = true →
    exec (.fireEnableRise coils) s = .next (closeEvent s s))

/-- No nozzle is open while FIRE-ENABLE is inactive, whatever command comes. -/
def Obligations.NoFireWhileInhibited : Prop :=
  ∀ s t : State, s.FireSafe → step s = .next t → t.FireSafe

/-- A DARK or FENCED bank keeps an empty queue and closed nozzles, and a CONDITIONING one an empty
queue, whatever command comes; and so does the law that every pulse entry of every queue belongs to a
record that the store holds, and that this record is PLANNED or FIRING with its part on the bank not final. -/
def Obligations.OutOfServiceBanksClosed : Prop :=
  (∀ s t : State, s.BanksClosed → step s = .next t → t.BanksClosed) ∧
  (∀ s t : State, s.store.IdsDistinct → s.EntriesTracked → step s = .next t → t.EntriesTracked) ∧
  (∀ s t : State, s.store.IdsDistinct → s.EntriesOpen → step s = .next t → t.EntriesOpen)

/-! ### Purging and conditioning (chapter 7) -/

/-- The purge timer and the purge: the debt grows up to its maximum and marks PURGE_DUE there, a
PURGE_DUE bank that is IDLE purges by force, one without the mark when its clear window holds, and a purge
that opened takes one from the debt and leaves the bank recharging. The purge tests of a bank and its
clear window are stated whole, the opening for healthy nozzles with good coils; and as events that bring
them, the purge timer's own, and the stall timer's to all sixteen banks. That an expiry which is not
running changes nothing, and that one moves the time base to its time, is the model's choice, assumption
1; the tests' order among the banks is the model's choice, assumption 8. -/
def Obligations.PurgeCycle : Prop :=
  (∀ (bank : BankId) (coils : Coils) (due : Time) (s : State), s.powered = true →
    (s.bank bank).purgeTimer = some due →
    let k := s.bank bank
    let st := s.bankSettings bank
    let now := laterOf s.timeBase due
    let grown : Bank :=
      { k with
        debt := min (k.debt + 1) st.maxDebt
        due := decide (st.maxDebt ≤ k.debt + 1)
        purgeTimer := some (timePlus now (st.tPI * 1000000)) }
    (k.state ≠ .idle → exec (.purgeTimerExpiry bank coils) s = .next (closeEvent s
      (({ s with timeBase := now } : State).setBank bank grown))) ∧
    (k.state = .idle → 1 ≤ st.maxDebt → st.maxDebt ≤ k.debt + 1 → s.fireEnable = true →
      s.purgeBarred bank = false →
      (∀ m : Member, s.faulty (nozzleOf bank m) = false ∧ coilGood coils bank m = true) →
      ∃ t : State, exec (.purgeTimerExpiry bank coils) s = .next t ∧
        t.bank bank = { grown with
          state := .purging .forced (timePlus now (st.tPG * 1000)) true
          nozzles := Vector.replicate 8 (some (timePlus now (st.tPG * 1000))) } ∧
        t.flag .purgeForced = true ∧ t.store = s.store ∧ t.timeBase = now) ∧
    (k.state = .idle → exec (.purgeTimerExpiry bank coils) s = .next (closeEvent s
      (State.purgeTest coils (({ s with timeBase := now } : State).setBank bank grown) bank)))) ∧
  (∀ (bank : BankId) (coils : Coils) (s : State),
    let k := s.bank bank
    let st := s.bankSettings bank
    let ends := posPlus s.belt.tc (match s.belt.motion with
      | .stopped => 0
      | .moving | .reversing => countEquivalent s.belt.v (st.tPG * 1000 + st.tRC * 500))
    let meets := fun r : Record =>
      (r.state = .joining ∨ (r.state = .ready ∧ ∃ res, r.resolution = some res ∧
        res.route.destination.bar? = some (barOfBank bank))) ∧
      r.first ≤ bank.val % 8 * 8 + 7 ∧ bank.val % 8 * 8 ≤ r.last ∧
      serialDiff r.pArr ends ≤ 0 ∧ 0 ≤ serialDiff (posPlus r.pArr r.length) s.belt.tc
    let clear :=
      (∀ e ∈ k.queue, e.state ≠ .pending ∧
        ¬(e.state = .waiting ∧ 0 ≤ serialDiff e.trigger s.belt.tc ∧
          serialDiff e.trigger ends ≤ 0)) ∧
      ∀ r ∈ s.store.records, ¬meets r
    let may := k.state = .idle ∧ 1 ≤ k.debt ∧ s.fireEnable = true ∧
      ¬(s.shed = true ∧ k.level = .high)
    let closing := timePlus s.timeBase (st.tPG * 1000)
    (¬may → State.purgeTest coils s bank = s) ∧
    (may → k.due = false → ¬clear → State.purgeTest coils s bank = s) ∧
    (may → k.due = true ∨ clear →
      (∀ m : Member, s.faulty (nozzleOf bank m) = false ∧ coilGood coils bank m = true) →
      (State.purgeTest coils s bank).bank bank = { k with
        state := .purging (if k.due then .forced else .opportunistic) closing true
        nozzles := Vector.replicate 8 (some closing) } ∧
      (State.purgeTest coils s bank).flags =
        (if k.due then s.flags ||| 0x00100000 else s.flags) ∧
      (State.purgeTest coils s bank).store = s.store ∧
      ∀ b, b ≠ bank → (State.purgeTest coils s bank).bank b = s.bank b)) ∧
  (∀ (coils : Coils) (due : Time) (s : State), s.powered = true → s.belt.stallTimer = some due →
    exec (.stallTimerExpiry coils) s = .next (closeEvent s
      ((List.finRange 16).foldl (State.purgeTest coils) { s with
        timeBase := laterOf s.timeBase due
        belt := { s.belt with motion := .stopped, stallTimer := none }
        flags := s.flags ||| 0x00000004 }))) ∧
  (∀ (bank : BankId) (coils : Coils) (s : State), s.powered = true →
    (s.bank bank).purgeTimer = none →
    exec (.purgeTimerExpiry bank coils) s = .next (closeEvent s s)) ∧
  (∀ (bank : BankId) (kind : PurgeKind) (ends : Time) (hit : Bool) (s : State), s.powered = true →
    (s.bank bank).state = .purging kind ends hit →
    let k := s.bank bank
    let st := s.bankSettings bank
    let now := laterOf s.timeBase ends
    exec (.purgeExpiry bank) s = .next (closeEvent s
      (({ s with timeBase := now } : State).setBank bank { k with
        state := .settling (timePlus now (st.tRC * 500))
        nozzles := noNozzleOpen
        debt := if hit then k.debt - 1 else k.debt
        due := if hit then k.due && decide (st.maxDebt ≤ k.debt - 1) else k.due }))) ∧
  (∀ (bank : BankId) (s : State), s.powered = true →
    (∀ kind ends hit, (s.bank bank).state ≠ .purging kind ends hit) →
    exec (.purgeExpiry bank) s = .next (closeEvent s s))

/-- The steps of conditioning, each at the end of the one before: the switches take their level at their
end, the purge steps drive the healthy nozzles and close them, a purge step waits for FIRE-ENABLE and
SHED, and step 7 leaves the bank IDLE at LOW with no debt and lets a waiting run state go on to RUN.
That an expiry of no running step changes nothing is the model's choice, assumption 1. -/
def Obligations.ConditioningSteps : Prop :=
  ∀ (bank : BankId) (coils : Coils) (due : Time) (s : State), s.powered = true →
    let k := s.bank bank
    let st := s.bankSettings bank
    let now := laterOf s.timeBase due
    let at_ := ({ s with timeBase := now } : State)
    let driven := Vector.replicate 8 (some (timePlus now (st.tPG * 1000)))
    (k.state = .conditioning 1 (some due) →
      (s.shed = true ∨ s.fireEnable = false →
        exec (.conditioningStepExpiry bank coils) s = .next (closeEvent s
          (at_.setBank bank { k with state := .conditioning 2 none, level := .high }))) ∧
      (s.shed = false → s.fireEnable = true →
        (∀ m : Member, s.faulty (nozzleOf bank m) = false ∧ coilGood coils bank m = true) →
        ∃ t : State, exec (.conditioningStepExpiry bank coils) s = .next t ∧
          t.bank bank = { k with
            state := .conditioning 2 (some (timePlus now (st.tPG * 1000)))
            level := .high
            nozzles := driven } ∧ t.store = s.store)) ∧
    (k.state = .conditioning 2 (some due) → 0 < st.tRC →
      exec (.conditioningStepExpiry bank coils) s = .next (closeEvent s
        (at_.setBank bank { k with
          state := .conditioning 3 (some (timePlus now (st.tRC * 500)))
          nozzles := noNozzleOpen }))) ∧
    (k.state = .conditioning 3 (some due) → s.shed = false → s.fireEnable = true →
      (∀ m : Member, s.faulty (nozzleOf bank m) = false ∧ coilGood coils bank m = true) →
      ∃ t : State, exec (.conditioningStepExpiry bank coils) s = .next t ∧
        t.bank bank = { k with
          state := .conditioning 4 (some (timePlus now (st.tPG * 1000)))
          nozzles := driven } ∧ t.store = s.store) ∧
    (k.state = .conditioning 4 (some due) → 0 < st.tRC →
      exec (.conditioningStepExpiry bank coils) s = .next (closeEvent s
        (at_.setBank bank { k with
          state := .conditioning 5 (some (timePlus now (st.tRC * 500)))
          nozzles := noNozzleOpen }))) ∧
    (k.state = .conditioning 5 (some due) →
      exec (.conditioningStepExpiry bank coils) s = .next (closeEvent s
        (at_.setBank bank { k with
          state := .conditioning 6 (some (timePlus now (st.tSW * 1000))) }))) ∧
    (k.state = .conditioning 6 (some due) → k.queue = [] →
      exec (.conditioningStepExpiry bank coils) s = .next (closeEvent s
        { at_.setBank bank { k with
            state := .idle, level := .low, debt := 0, due := false
            purgeTimer := some (timePlus now (st.tPI * 1000000)) } with
          run :=
            if s.run = .conditioning ∧
                (∀ b : BankId, b ≠ bank → (s.bank b).state.awaited = false) then .run
            else s.run })) ∧
    ((∀ step ends, k.state ≠ .conditioning step (some ends)) →
      exec (.conditioningStepExpiry bank coils) s = .next (closeEvent s s))

/-- Every bank's purge debt stays between 0 and its maximum, and PURGE_DUE stands exactly at the
maximum, whatever command comes. -/
def Obligations.PurgeDebtBounded : Prop :=
  ∀ s t : State, s.DebtsKept → step s = .next t → t.DebtsKept

/-! ### Supply and nozzle health (chapter 8) -/

/-- The reading of a pressure sample, and the low test of it: the low run, and at the third low sample
in a row PRESSURE_LOW, after which samples are not compared. That the current is given in microamperes is the
model's choice, assumption 17; that the sample moves the time base to the timer's time, assumption 1. -/
def Obligations.PressureSample : Prop :=
  ∀ (ua : Nat) (s : State), s.powered = true →
    let reading := if ua < 4000 then 0 else if 20000 < ua then 1000 else (ua - 4000) / 16
    let at_ := { s with timeBase := laterOf s.timeBase s.supply.timer }
    let timer := timePlus s.supply.timer 100000
    reading ≤ 1000 ∧
    (s.supply.testing = false → exec (.pressureSample ua) s = .next (closeEvent s
      { at_ with supply := { s.supply with timer := timer, reading := reading } })) ∧
    (s.supply.testing = true → s.settings.pressureThreshold ≤ reading →
      exec (.pressureSample ua) s = .next (closeEvent s
        { at_ with supply := { s.supply with timer := timer, reading := reading, lowRun := 0 } })) ∧
    (s.supply.testing = true → reading < s.settings.pressureThreshold → s.supply.lowRun < 2 →
      exec (.pressureSample ua) s = .next (closeEvent s
        { at_ with supply := { s.supply with
            timer := timer, reading := reading, lowRun := s.supply.lowRun + 1 } })) ∧
    (s.supply.testing = true → reading < s.settings.pressureThreshold → s.supply.lowRun = 2 →
      s.settings.pressurePolicy ≠ .halt ∨ s.run = .setup →
      exec (.pressureSample ua) s = .next (closeEvent s
        { at_ with
          supply := { timer := timer, reading := reading, testing := false, lowRun := 0 }
          flags := s.flags ||| 0x00020000 }))

/-- Three laws that every command keeps, each by itself: PRESSURE_LOW stands exactly while the low test
is stopped, every nozzle's bad run fits its grade, and the positions without a flag read as clear. -/
def Obligations.SupplyAndHealthLaws : Prop :=
  (∀ s t : State, s.LowTestKept → step s = .next t → t.LowTestKept) ∧
  (∀ s t : State, s.HealthKept → step s = .next t → t.HealthKept) ∧
  (∀ s t : State, s.FlagsCarried → step s = .next t → t.FlagsCarried)

/-- A coil check moves its nozzle's entry, and that entry alone, as R147 tells; the third bad check in a
row makes it FAULTY and sets NOZZLE_FAULT, and when it is the bank's eighth the bank is fenced and
BANK_AUTO_FENCED is set. -/
def Obligations.CoilChecks : Prop :=
  (∀ n : Nozzle,
    (n.grade = .ok → n.badRun = 0 → n.good = n ∧ n.bad = ⟨.suspect, 1, false⟩) ∧
    (n.grade = .suspect → n.badRun = 1 →
      n.good = ⟨.ok, 0, false⟩ ∧ n.bad = { n with badRun := 2 }) ∧
    (n.grade = .suspect → n.badRun = 2 →
      n.good = ⟨.ok, 0, false⟩ ∧ n.bad = ⟨.faulty, 3, false⟩)) ∧
  (∀ (b : BankId) (m : Member) (s : State),
    let n := s.nozzle (nozzleOf b m)
    s.goodCheck b m = s.setNozzle (nozzleOf b m) n.good ∧
    (n.bad.grade ≠ .faulty → s.badCheck b m = s.setNozzle (nozzleOf b m) n.bad) ∧
    (n.bad.grade = .faulty →
      (s.badCheck b m).health = s.health.set (nozzleOf b m) n.bad ∧
      (s.badCheck b m).flag .nozzleFault = true ∧
      ((∀ i : Member, i ≠ m → s.faulty (nozzleOf b i) = true) → (s.bank b).state ≠ .fenced →
        ((s.badCheck b m).bank b).state = .fenced ∧ ((s.badCheck b m).bank b).queue = [] ∧
        (∀ i : Member, (s.badCheck b m).nozzleOpen b i = false) ∧
        (s.badCheck b m).flag .bankAutoFenced = true) ∧
      ((∃ i : Member, i ≠ m ∧ s.faulty (nozzleOf b i) = false) →
        (s.badCheck b m).banks = s.banks)))

/-! ### Starting, stopping and the settings (chapter 9) -/

/-- START, in the order of its tests; the run state it enters, by whether a bank is waited for. The
taking of DARK banks into conditioning is stated with FIRE-ENABLE inactive, where each sequence holds at
its first step. -/
def Obligations.Start : Prop :=
  ∀ (tag : Byte) (coils : Coils) (s : State), s.ready →
    let st := s.settings
    let geometry := st.dB + st.joinTolerance < st.dA ∧ st.horizon + st.joinTolerance < st.dB
    (s.run ≠ .setup →
      exec (.start tag [] coils) s = .next (closeEvent s (s.replied 0x86 tag [0x10]))) ∧
    (s.run = .setup → ¬geometry →
      exec (.start tag [] coils) s = .next (closeEvent s (s.replied 0x86 tag [0x24]))) ∧
    (s.run = .setup → geometry → (∀ b : BankId, (s.bank b).state = .fenced) →
      exec (.start tag [] coils) s = .next (closeEvent s (s.replied 0x86 tag [0x10]))) ∧
    (s.run = .setup → geometry → (∃ b : BankId, (s.bank b).state ≠ .fenced) →
      ((∀ b : BankId, (s.bank b).state.awaited = false) →
        exec (.start tag [] coils) s = .next (closeEvent s
          (({ s with run := .run } : State).replied 0x86 tag [0x00, 0x02]))) ∧
      ((∃ b : BankId, (s.bank b).state.awaited = true) → s.fireEnable = false →
        exec (.start tag [] coils) s = .next (closeEvent s
          (({ s with
            run := .conditioning
            banks := Vector.ofFn fun b : BankId =>
              if (s.bank b).state = .dark then
                { s.bank b with
                  state := .conditioning 1 none, debt := 0, due := false
                  purgeTimer :=
                    some (timePlus s.timeBase ((s.bankSettings b).tPI * 1000000)) }
              else s.bank b } : State).replied 0x86 tag [0x00, 0x01]))))

/-- STOP, by run state: RUN drains, at once to SETUP through DRAIN when the store is empty, with both
STATE notices; CONDITIONING goes to SETUP; elsewhere it is refused. And a drain ends in SETUP when the
last record retires. The order of an event's notices is the model's choice, assumption 6. -/
def Obligations.Stop : Prop :=
  (∀ (tag : Byte) (s : State), s.ready →
    (s.run = .run → s.store.records ≠ [] →
      exec (.stop tag []) s =
        .next (closeEvent s (({ s with run := .drain } : State).replied 0x87 tag [0x00, 0x03]))) ∧
    (s.run = .run → s.store.records = [] → s.link.notices.length < 7 →
      ∃ t : State, exec (.stop tag []) s = .next t ∧ t.run = .setup ∧ t.flags = s.flags ∧
        t.replyFrame? = some { kind := 0x87, tag := tag, payload := [0x00, 0x00] } ∧
        t.link.notices = s.link.notices ++
          [{ number := s.link.noticeNumber, kind := .state .drain },
            { number := s.link.noticeNumber + 1, kind := .state .setup }] ∧
        s.SameOffPlant t ∧ t.store = s.store ∧ t.banks = s.banks) ∧
    (s.run = .conditioning →
      exec (.stop tag []) s =
        .next (closeEvent s (({ s with run := .setup } : State).replied 0x87 tag [0x00, 0x00]))) ∧
    (s.run ≠ .run → s.run ≠ .conditioning →
      exec (.stop tag []) s = .next (closeEvent s (s.replied 0x87 tag [0x10])))) ∧
  (∀ (r : Record) (s : State), s.run = .drain → s.store.records = [r] → r.state.terminal = true →
    s.edgePassed r = true →
    (s.retireTest r.id).run = .setup ∧ (s.retireTest r.id).store.records = [])

/-- GET and SET, in the order of R165: the setting and its qualifier, the run state, the busy test, the
value. What a value that is taken does at once: an overspeed, a reverse limit or a loop length of 0 ends
its condition, a maximum purge debt caps the debt, marks PURGE_DUE by it and brings the bank's purge
tests, a change of policy away from SHED ends SHED, where each IDLE bank makes its head test and the held
conditioning steps begin; every other value does nothing more. What the end of SHED leaves of a bank is
stated under the laws that ids are distinct (TrackIdsDistinct) and that every entry belongs to a record
whose part is not final (OutOfServiceBanksClosed). -/
def Obligations.GetAndSet : Prop :=
  (∀ (tag code q : Byte) (s : State), s.ready →
    (∀ n, nameSetting code q = .setting n →
      exec (.get tag [code, q]) s =
        .next (closeEvent s (s.replied 0x83 tag (0x00 :: bytes4Int (s.settings.get n))))) ∧
    (nameSetting code q = .unknown →
      exec (.get tag [code, q]) s = .next (closeEvent s (s.replied 0x83 tag [0x21]))) ∧
    (nameSetting code q = .badQualifier →
      exec (.get tag [code, q]) s = .next (closeEvent s (s.replied 0x83 tag [0x20])))) ∧
  (∀ (tag code q b3 b2 b1 b0 : Byte) (coils : Coils) (s : State), s.ready →
    let c := Instr.set tag [code, q, b3, b2, b1, b0] coils
    let sent := (read4 b3 b2 b1 b0).toInt
    (nameSetting code q = .unknown →
      exec c s = .next (closeEvent s (s.replied 0x84 tag [0x21]))) ∧
    (nameSetting code q = .badQualifier →
      exec c s = .next (closeEvent s (s.replied 0x84 tag [0x20]))) ∧
    (∀ n, nameSetting code q = .setting n →
      (n.setupOnly = true → s.run ≠ .setup →
        exec c s = .next (closeEvent s (s.replied 0x84 tag [0x10]))) ∧
      (¬(n.setupOnly = true ∧ s.run ≠ .setup) → s.settingBusy n = true →
        exec c s = .next (closeEvent s (s.replied 0x84 tag [0x11]))) ∧
      (¬(n.setupOnly = true ∧ s.run ≠ .setup) → s.settingBusy n = false →
        (∀ count, n.domain = .codes count → ¬(0 ≤ sent ∧ sent < count) →
          exec c s = .next (closeEvent s (s.replied 0x84 tag [0x20]))) ∧
        (∀ v, n.domain.holds v = true →
          (∀ lo hi, n.domain = .numeric lo hi →
            v = max lo (min hi sent)) → (∀ count, n.domain = .codes count → v = sent) →
          (n ≠ .overspeedLimit → n ≠ .reverseLimit → n ≠ .loopLength → n ≠ .pressurePolicy →
            (∀ b, n ≠ .bank b .maxDebt) →
            exec c s = .next (closeEvent s
              (({ s with settings := s.settings.put n v } : State).replied 0x84 tag
                ((if v = sent then 0x00 else 0x01) :: bytes4Int v)))) ∧
          (∃ u : State,
            exec c s = .next (closeEvent s
              (u.replied 0x84 tag ((if v = sent then 0x00 else 0x01) :: bytes4Int v))) ∧
            u.settings = s.settings.put n v ∧ u.stored = s.stored) ∧
          (let w := ({ s with settings := s.settings.put n v } : State)
          let answers := fun u : State => exec c s = .next (closeEvent s
            (u.replied 0x84 tag ((if v = sent then 0x00 else 0x01) :: bytes4Int v)))
          (n = .overspeedLimit → answers { w with belt := { s.belt with
            overspeed := s.belt.overspeed && decide (v ≠ 0) } }) ∧
          (n = .reverseLimit → answers { w with belt := { s.belt with
            reverse := s.belt.reverse && decide (v ≠ 0) } }) ∧
          (n = .loopLength → answers { w with belt := { s.belt with
            slip := s.belt.slip && decide (v ≠ 0) } }) ∧
          (∀ b, n = .bank b .maxDebt → answers (State.purgeTest coils
            (w.setBank b { s.bank b with
              debt := min (s.bank b).debt v.toNat
              due := decide (v.toNat ≤ (s.bank b).debt) }) b)) ∧
          (n = .pressurePolicy →
            (s.shed = false ∨ v = 1 → answers w) ∧
            (s.shed = true → v ≠ 1 → ∃ u : State, answers u ∧ w.SameOffPlant u ∧ u.shed = false ∧
              (s.store.IdsDistinct → s.EntriesOpen → ∀ b : BankId,
                let k := s.bank b
                let switched := timePlus s.timeBase ((s.bankSettings b).tSW * 1000)
                let driven := timePlus s.timeBase ((s.bankSettings b).tPG * 1000)
                (∀ e, k.state = .idle → k.head? = some e → e.level ≠ k.level →
                  u.bank b = { k with state := .switching e.level switched }) ∧
                (k.state = .conditioning 1 none → s.fireEnable = true → k.level = .low →
                  u.bank b = { k with state := .conditioning 1 (some switched) }) ∧
                (∀ step, step = 2 ∨ step = 4 → k.state = .conditioning step none →
                  s.fireEnable = true →
                  (∀ m : Member,
                    s.faulty (nozzleOf b m) = false ∧ coilGood coils b m = true) →
                  u.bank b = { k with
                    state := .conditioning step (some driven)
                    nozzles := Vector.replicate 8 (some driven) })))))))))

/-- Every working setting lies in its range or set, and every route has Dmin no greater than Dmax,
whatever command comes; and a value that lies in the domain of a setting is read back as it was put,
with every other setting as it was. -/
def Obligations.SettingsInRange : Prop :=
  (∀ s t : State, s.settings.valid = true → step s = .next t → t.settings.valid = true) ∧
  (∀ st : Settings, st.valid = true → ∀ c : ClassCode,
    1 ≤ st.routes[c].dmin ∧ st.routes[c].dmin ≤ st.routes[c].dmax ∧ st.routes[c].dmax ≤ 200) ∧
  (∀ (st : Settings) (n : SettingName) (v : Int), n.domain.holds v = true →
    (st.put n v).get n = v ∧ ∀ m : SettingName, m ≠ n → (st.put n v).get m = st.get m)

/-! ### The control link (chapter 10) -/

/-- A frame's bytes, received one after another by a receiver in HUNT, join the request queue as that
frame; with any other CRC they are a frame fault. The bytes are those of R167, the CRC among them. That a
frame received whole leaves its receiver without a timer is DEDUCED, assumption 19. -/
def Obligations.FrameReception : Prop :=
  (∀ (f : Frame) (coils : Coils) (s : State), s.powered = true → f.payload.length ≤ 240 →
    s.link.rxControl.state = .hunt → s.link.requests.length < 2 →
    ∃ t : State, receive .control coils f.wire s = .next t ∧
      t.link.requests = s.link.requests ++ [f] ∧ t.link.rxControl = {} ∧
      t = { s with link := t.link }) ∧
  (∀ (f : Frame) (x y : Byte) (coils : Coils) (s : State), s.powered = true →
    f.payload.length ≤ 240 → s.link.rxControl.state = .hunt → x ++ y ≠ crcOf f.body →
    ∃ t : State, receive .control coils ([0xA5] ++ f.body ++ [x, y]) s = .next t ∧
      t.link.requests = s.link.requests ∧ t.link.rxControl = {} ∧ t.flag .linkFault = true ∧
      t = { s with link := t.link, flags := t.flags })

/-- Bytes, frames and faults at the receivers and the request queue: what a byte out of a frame does, a
missing stop bit, the end of the frame timer, the third frame behind one in service; a fault counts in
LINK_FAULT on the control link and in the frame errors of a head port. That a whole frame or fault leaves
its receiver in HUNT without a timer is DEDUCED, assumption 19; that a stopped frame timer's expiry changes
nothing and a running one's moves the time base to its time is the model's choice, assumption 1. -/
def Obligations.ReceiverRules : Prop :=
  (∀ (p : Port) (b : Byte) (coils : Coils) (s : State), s.powered = true →
    (s.link.receiver p).state = .hunt →
    (b ≠ 0xA5 → exec (.byteReceived p b true coils) s = .next (closeEvent s
      (s.setReceiver p { s.link.receiver p with state := .hunt }))) ∧
    exec (.byteReceived p 0xA5 true coils) s = .next (closeEvent s
      (s.setReceiver p { state := .header [], timer := some (timePlus s.timeBase 10000) })) ∧
    exec (.byteReceived p b false coils) s = .next (closeEvent s
      (s.setReceiver p { s.link.receiver p with state := .hunt }))) ∧
  (∀ (b : Byte) (coils : Coils) (s : State), s.powered = true →
    let fault := ({ s.setReceiver .control {} with flags := s.flags ||| 0x00400000 } : State)
    (s.link.rxControl.state ≠ .hunt →
      exec (.byteReceived .control b false coils) s = .next (closeEvent s fault)) ∧
    exec (.frameFault .control) s = .next (closeEvent s fault) ∧
    (∀ due, s.link.rxControl.timer = some due →
      exec (.frameTimerExpiry .control) s =
        .next (closeEvent s { fault with timeBase := laterOf s.timeBase due })) ∧
    (s.link.rxControl.timer = none →
      exec (.frameTimerExpiry .control) s = .next (closeEvent s s))) ∧
  (∀ (h : Head) (s : State), s.powered = true →
    let k := s.heads.get h
    let faulted := { s.setReceiver (.head h) {} with
      heads := s.heads.put h
        { k with frameErrors := if k.frameErrors < 65535 then k.frameErrors + 1 else k.frameErrors } }
    exec (.frameFault (.head h)) s = .next (closeEvent s faulted) ∧
    (∀ (b : Byte) (coils : Coils), (s.link.receiver (.head h)).state ≠ .hunt →
      exec (.byteReceived (.head h) b false coils) s = .next (closeEvent s faulted)) ∧
    (∀ due, (s.link.receiver (.head h)).timer = some due →
      exec (.frameTimerExpiry (.head h)) s =
        .next (closeEvent s { faulted with timeBase := laterOf s.timeBase due })) ∧
    ((s.link.receiver (.head h)).timer = none →
      exec (.frameTimerExpiry (.head h)) s = .next (closeEvent s s))) ∧
  (∀ (kind tag : Byte) (payload : List Byte) (s : State), s.powered = true →
    let f : Frame := { kind := kind, tag := tag, payload := payload }
    let heard := s.setReceiver .control {}
    (s.link.requests.length < 2 →
      exec (.frameAccepted kind tag payload) s = .next (closeEvent s
        { heard with link := { heard.link with requests := s.link.requests ++ [f] } })) ∧
    (2 ≤ s.link.requests.length →
      exec (.frameAccepted kind tag payload) s = .next (closeEvent s
        { heard with flags := s.flags ||| 0x00400000 })))

/-- One transmitter sends replies and notices whole, one at a time: when it becomes free the reply
handed to it goes first, then the oldest notice, also when a notice has ended and no reply waits; the end
of a reply ends its request's service. A notice
takes the notice number and joins the queue; with 8 waiting it is discarded, and the number advances all
the same; NOTICE_DROPPED newly set has a notice of its own, which is discarded too. An event raises one
FLAG notice for the flags it newly set, and none if it set none. That FRAME_SENT of an idle transmitter
changes nothing, and of another moves the time base to the frame's end, is the model's choice, assumption
1; that a step is one event, assumption 6. -/
def Obligations.TransmitterAndNotices : Prop :=
  (∀ (x : Transmission) (s : State), s.powered = true → s.link.transmitter = some x →
    let now := laterOf s.timeBase x.ends
    let sent := ({ s with timeBase := now } : State)
    (∀ reply reset, x.isReply = false → s.link.service = .replying reply reset →
      exec .frameSent s = .next { sent with link := { s.link with
        service := .sending reset
        transmitter := some
          { frame := reply, isReply := true
            ends := timePlus now ((6 + reply.payload.length) * 10) } } }) ∧
    (∀ n rest, x.isReply = true → s.link.service = .sending false → s.link.notices = n :: rest →
      exec .frameSent s = .next { sent with link := { s.link with
        service := .free
        notices := rest
        transmitter := some
          { frame := n.frame, isReply := false
            ends := timePlus now ((6 + n.frame.payload.length) * 10) } } }) ∧
    (x.isReply = true → s.link.service = .sending false → s.link.notices = [] →
      exec .frameSent s = .next { sent with link := { s.link with
        service := .free, transmitter := none } }) ∧
    (x.isReply = false → s.link.service = .free ∨
        (∃ tag copy ends, s.link.service = .writing tag copy ends) →
      (∀ n rest, s.link.notices = n :: rest →
        exec .frameSent s = .next { sent with link := { s.link with
          notices := rest
          transmitter := some
            { frame := n.frame, isReply := false
              ends := timePlus now ((6 + n.frame.payload.length) * 10) } } }) ∧
      (s.link.notices = [] →
        exec .frameSent s = .next { sent with link := { s.link with transmitter := none } }))) ∧
  (∀ s : State, s.powered = true → s.link.transmitter = none →
    exec .frameSent s = .next (closeEvent s s)) ∧
  (∀ (s : State), s.link.transmitter.isSome = true → s.transmit = s) ∧
  (∀ (k : NoticeKind) (s : State),
    (s.link.notices.length < 8 →
      s.raise k = { s with link := { s.link with
        notices := s.link.notices ++ [{ number := s.link.noticeNumber, kind := k }]
        noticeNumber := s.link.noticeNumber + 1 } }) ∧
    (8 ≤ s.link.notices.length → s.flag .noticeDropped = true →
      s.raise k = { s with link := { s.link with noticeNumber := s.link.noticeNumber + 1 } }) ∧
    (8 ≤ s.link.notices.length → s.flag .noticeDropped = false →
      s.raise k = { s with
        flags := s.flags ||| 0x00800000
        link := { s.link with noticeNumber := s.link.noticeNumber + 2 } })) ∧
  (∀ before after : State, before.run = after.run → after.link.transmitter.isSome = true →
    (after.flags &&& ~~~before.flags = 0 → closeEvent before after = after) ∧
    (after.flags &&& ~~~before.flags ≠ 0 →
      closeEvent before after = after.raise (.flag (after.flags &&& ~~~before.flags)))) ∧
  (∀ n : Notice, n.frame.tag = n.number ∧
    (∀ mask, n.kind = .flag mask → n.frame.kind = 0x60 ∧ n.frame.payload = bytes4 mask) ∧
    (∀ r, n.kind = .state r →
      n.frame.kind = 0x61 ∧ n.frame.payload = [BitVec.ofNat 8 r.code, BitVec.ofNat 8 r.causeCode]))

/-- Refusals change nothing: a request whose LEN is not accepted is answered LENGTH, a KIND the part
does not know UNKNOWN_KIND, and whatever request is answered with a status of 0x10 or above leaves the
state as it was but for that reply, which is the status byte alone. A request whose own frame is the
oldest waiting is served as it is with an empty queue, and its frame leaves the queue, where the others
keep their order. That a request command which comes while another is in service, or while another frame
is the oldest waiting, is not taken is the model's choice, assumption 4; that a known KIND is none of
UNKNOWN_KIND's, assumption 20. -/
def Obligations.RefusalsChangeNothing : Prop :=
  (∀ (c : Instr) (f : RequestForm) (s : State), requestForm c = some f → s.ready →
    f.payload.length ∉ f.lens →
    exec c s = .next (closeEvent s (s.replied (f.kind + 0x80) f.tag [0x22]))) ∧
  (∀ (kind tag : Byte) (payload : List Byte) (s : State), s.ready → isRequestKind kind = false →
    exec (.unknownKind kind tag payload) s =
      .next (closeEvent s (s.replied 0xFF tag [0x23, kind]))) ∧
  (∀ (c : Instr) (f : RequestForm) (s t : State) (status : Byte) (rest : List Byte),
    requestForm c = some f → s.ready → exec c s = .next t →
    t.replyFrame? = some { kind := f.kind + 0x80, tag := f.tag, payload := status :: rest } →
    0x10 ≤ status.toNat →
    rest = [] ∧ t = closeEvent s (s.replied (f.kind + 0x80) f.tag [status])) ∧
  (∀ (c : Instr) (f : RequestForm) (s : State), requestForm c = some f →
    s.link.service ≠ .free → exec c s = .next s) ∧
  (∀ (c : Instr) (f : RequestForm) (g : Frame) (rest : List Frame) (s : State),
    requestForm c = some f → s.powered = true → s.link.service = .free →
    s.link.requests = g :: rest →
    let own : Frame := { kind := f.kind, tag := f.tag, payload := f.payload }
    (g ≠ own → exec c s = .next s) ∧
    (g = own →
      (∃ t : State, exec c s = .next t ∧ t.link.requests = rest ∧ t.link.service ≠ .free) ∧
      (rest = [] → exec c s = exec c { s with link := { s.link with requests := [] } }))) ∧
  (∀ (kind tag : Byte) (payload : List Byte) (g : Frame) (rest : List Frame) (s : State),
    s.powered = true → s.link.service = .free → s.link.requests = g :: rest →
    isRequestKind kind = false →
    (g ≠ { kind := kind, tag := tag, payload := payload } →
      exec (.unknownKind kind tag payload) s = .next s) ∧
    (g = { kind := kind, tag := tag, payload := payload } →
      let taken := { s with link := { s.link with requests := rest } }
      exec (.unknownKind kind tag payload) s =
        .next (closeEvent taken (taken.replied 0xFF tag [0x23, kind]))))

/-- Every collection of the part keeps within its depth, whatever command comes. -/
def Obligations.QueuesBounded : Prop :=
  ∀ s t : State, s.WithinCapacity → step s = .next t → t.WithinCapacity

/-- STATUS answers with its record of 233 bytes, the run state first, and changes nothing; CLEAR-FLAGS
clears the flags its mask names, answers with the flag set after it, and restarts the low test when it
clears PRESSURE_LOW. That the reply carries the flags right after the clear is DEDUCED, assumption 6. -/
def Obligations.StatusAndFlags : Prop :=
  (∀ (tag : Byte) (s : State), s.ready →
    exec (.status tag []) s = .next (closeEvent s (s.replied 0x81 tag (0x00 :: s.statusRecord))) ∧
    s.statusRecord.length = 233 ∧
    s.statusRecord.take 26 =
      [BitVec.ofNat 8 s.run.code, BitVec.ofNat 8 s.run.causeCode] ++ bytes4 s.flags ++
        bytes4 s.timeBase ++ bytes4 s.belt.tc ++ bytes4 s.belt.hw ++
        bytes4 (BitVec.ofInt 32 s.belt.rx) ++ bytes4 (BitVec.ofInt 32 s.belt.v)) ∧
  (∀ (tag b3 b2 b1 b0 : Byte) (coils : Coils) (s : State), s.ready →
    let mask := read4 b3 b2 b1 b0
    let left := s.flags &&& ~~~mask
    let restart := s.flag .pressureLow = true ∧ mask.getLsbD 17 = true
    let cleared := ({ s with
      flags := left
      supply := if restart then { s.supply with testing := true, lowRun := 0 } else s.supply } : State)
    (¬(restart ∧ s.settings.pressurePolicy = .shed) →
      exec (.clearFlags tag [b3, b2, b1, b0] coils) s =
        .next (closeEvent cleared (cleared.replied 0x82 tag (0x00 :: bytes4 left)))) ∧
    (restart → ∃ u : State, exec (.clearFlags tag [b3, b2, b1, b0] coils) s =
        .next (closeEvent cleared (u.replied 0x82 tag (0x00 :: bytes4 left))) ∧
      cleared.SameOffPlant u ∧ u.shed = false))

/-- READ of a fixed table, in every mode, returns the count asked for from its start, wrapping, and
leaves the cursor after the last entry; READ of an ordered collection, TRACK, PULSES of a bank or LATCH of
a channel, returns from its start up to the count, as many members as there are and as fit whole, and
leaves the cursor on the member that follows or at END; one that finds none is NOSUCH; a locator or a
count outside its set is refused. A short read reads in CURSOR mode from the current table and moves that
table's cursor; one that finds nothing leaves every cursor and the current table. When a member leaves
its collection a cursor that holds it moves to the member that followed. The layouts of all records are
spelled out; of them the codes of the open order, the target byte of a bank record outside SWITCHING and
the standing of a short read as the same request are the model's reading: DEDUCED, assumptions 21 and 15,
and a choice, assumption 20. -/
def Obligations.ReadAndShortRead : Prop :=
  (∀ (tag q m hi lo k code : Byte) (table : Table) (size n : Nat) (s : State), s.ready →
    (table, code.toNat, size) ∈
      [(Table.route, 1, 32), (.bank, 2, 16), (.nozzle, 4, 128), (.tally, 6, 33)] →
    (namesEntry m (read2 hi lo) (s.cursors.fixedIndex table) n → n < size →
      1 ≤ k.toNat → k.toNat ≤ 8 →
      exec (.read tag [code, q, m, hi, lo, k]) s = .next (closeEvent s
        (({ s with cursors :=
            { s.cursors.putIndex table ((n + k.toNat) % size) with current := table } } :
          State).replied 0x8B tag (0x00 :: k :: BitVec.ofNat 8 n ::
            (List.range k.toNat).flatMap fun i => s.entryBytes table ((n + i) % size))))) ∧
    (3 < m.toNat ∨ ((m = 0 ∨ m = 3) ∧ size ≤ read2 hi lo) ∨ k.toNat = 0 ∨ 8 < k.toNat →
      exec (.read tag [code, q, m, hi, lo, k]) s =
        .next (closeEvent s (s.replied 0x8B tag [0x20])))) ∧
  (∀ (n : Nat) (s : State),
    (∀ h : n < 32, s.entryBytes .route n = (s.settings.routes[n]'h).bytes ∧
      (s.entryBytes .route n).length = 10) ∧
    (∀ h : n < 16,
      let k := s.bank ⟨n, h⟩
      let st := s.bankSettings ⟨n, h⟩
      ∃ open_ : Mask, (∀ m : Member, open_.getLsbD m.val = (k.nozzles[m]).isSome) ∧
        s.entryBytes .bank n =
          [BitVec.ofNat 8 k.state.code, BitVec.ofNat 8 k.level.code,
            BitVec.ofNat 8 (match k.state with
              | .switching target _ => target.code
              | _ => k.level.code),
            BitVec.ofNat 8 k.queue.length, open_, BitVec.ofNat 8 st.tRC, BitVec.ofNat 8 st.tSW,
            BitVec.ofNat 8 st.tPG] ++ bytes2 st.tPI ++
          [BitVec.ofNat 8 st.maxDebt, BitVec.ofNat 8 st.mso, BitVec.ofNat 8 st.openOrder.code,
            BitVec.ofNat 8 st.waveGap]) ∧
    (∀ h : n < 128,
      let z := s.nozzle ⟨n, h⟩
      s.entryBytes .nozzle n =
        [BitVec.ofNat 8 n, BitVec.ofNat 8 z.grade.code, BitVec.ofNat 8 z.badRun,
          if z.marked then 1 else 0]) ∧
    (∀ h : n < 32,
      let y := s.store.classTallies[n]'h
      s.entryBytes .tally n = [y.fired, y.degraded, y.partHit, y.missed, y.passed, y.flushed,
        y.dropped].flatMap fun x => bytes4 (BitVec.ofNat 32 x)) ∧
    (let g := s.store.globals
    s.entryBytes .tally 32 = [g.created, g.unreported, g.late, g.slow, g.conflict, g.unavailable,
      g.inhibited, g.suspended, g.lateStart, g.pressure].flatMap
        fun x => bytes4 (BitVec.ofNat 32 x)) ∧
    s.members .track = s.store.records.map (fun r => (r.id.toNat, r.bytes)) ∧
    (∀ b, s.members (.pulses b) = (s.bank b).queue.map fun e => (e.track.toNat, e.bytes)) ∧
    (∀ c, s.members (.latch c) = (s.latch c).fifo.map fun e => (e.seq.toNat, e.bytes))) ∧
  (∀ r : Route, r.bytes =
    [BitVec.ofNat 8 r.destination.code, BitVec.ofNat 8 r.level.code, BitVec.ofNat 8 r.dmin,
      BitVec.ofNat 8 r.dmax] ++ bytes2 r.leadPad ++
    [BitVec.ofNat 8 r.spanPad, BitVec.ofNat 8 r.precedence, BitVec.ofNat 8 r.minConfidence,
      BitVec.ofNat 8 r.policy.code]) ∧
  (∀ e : LatchEntry, e.bytes =
    e.seq :: (bytes4 e.position ++ bytes4 e.time ++ bytes4 (e.deadline.getD 0))) ∧
  (∀ e : Entry, e.bytes =
    bytes2 e.track.toNat ++ bytes4 e.trigger ++
    [BitVec.ofNat 8 e.dp, BitVec.ofNat 8 e.level.code, e.mask, BitVec.ofNat 8 e.dmin,
      BitVec.ofNat 8 e.policy.code, BitVec.ofNat 8 e.waves] ++ bytes4 e.busyEnd ++
    [if e.degraded then 1 else 0, BitVec.ofNat 8 e.state.code, if e.hit then 1 else 0] ++
    bytes4 (e.triggerTime.getD 0) ++ bytes4 ((e.pulse.map fun p => p.firstWave).getD 0) ++
    bytes4 ((e.pulse.map fun p => p.expiry).getD 0)) ∧
  (∀ r : Record,
    let headPart := fun p : HeadPart => bytes4 p.position ++
      [BitVec.ofNat 8 p.first, BitVec.ofNat 8 p.last] ++ bytes2 p.length ++
      [BitVec.ofNat 8 p.cls.val, BitVec.ofNat 8 p.confidence]
    r.bytes =
      bytes2 r.id.toNat ++
      [BitVec.ofNat 8 r.state.code,
        (if r.aPart.isSome then 1 else 0) ||| (if r.bPart.isSome then 2 else 0) |||
          (if r.resolution.isSome then 4 else 0) ||| (if r.plan.isSome then 8 else 0) |||
          (if r.missCause.isSome then 16 else 0),
        if r.reached then 1 else 0] ++
      bytes4 r.pArr ++ [BitVec.ofNat 8 r.first, BitVec.ofNat 8 r.last] ++ bytes2 r.length ++
      (r.aPart.elim [] headPart) ++ (r.bPart.elim [] headPart) ++
      (r.resolution.elim [] fun x => BitVec.ofNat 8 x.cls.val :: x.route.bytes) ++
      (r.plan.elim [] fun p => bytes2 p.lead ++ [BitVec.ofNat 8 p.dp] ++ bytes4 p.trigger ++
        [BitVec.ofNat 8 p.parts.length] ++ p.parts.flatMap fun q =>
          [BitVec.ofNat 8 q.bank.val, q.mask, BitVec.ofNat 8 q.level.code,
            BitVec.ofNat 8 q.result.code, BitVec.ofNat 8 (match q.result with
              | .lost c => c.code
              | _ => 0)]) ++
      (r.missCause.elim [] fun c => [BitVec.ofNat 8 c.code])) ∧
  ([Level.low, .high].map Level.code = [0, 1] ∧
    [Destination.pass, .up, .down].map Destination.code = [0, 1, 2] ∧
    [Policy.degrade, .yield].map Policy.code = [0, 1] ∧
    [Grade.ok, .suspect, .faulty].map Grade.code = [0, 1, 2] ∧
    [OpenOrder.ascending, .centreOut, .alternate].map OpenOrder.code = [0, 1, 2] ∧
    [EntryState.waiting, .pending, .opened].map EntryState.code = [0, 1, 2] ∧
    [RecState.joining, .ready, .planned, .firing, .fired, .degraded, .partHit, .missed,
      .passed].map RecState.code = [0, 1, 2, 3, 4, 5, 6, 7, 8] ∧
    (∀ c, [PartResult.waiting, .opened, .done, .doneDegraded, .lost c].map PartResult.code =
      [0, 1, 2, 3, 4]) ∧
    [Cause.late, .slow, .conflict, .unavailable, .inhibited, .suspended, .lateStart,
      .pressure].map Cause.code = [1, 2, 3, 4, 5, 6, 7, 8] ∧
    (∀ step ends due target kind hit, [BankState.dark, .conditioning step ends, .idle, .opened,
      .settling due, .switching target due, .purging kind due hit, .fenced].map BankState.code =
      [0, 1, 2, 3, 4, 5, 6, 7])) ∧
  (∀ (tag q m hi lo k code : Byte) (table : Table) (start : List (Nat × List Byte)) (c : Instr)
      (s : State), s.ready →
    (code = 0 ∧ table = .track) ∨ (code = 3 ∧ ∃ b, bankOfCode q = some b ∧ table = .pulses b) ∨
      (code = 5 ∧ ∃ ch, channelOfCode q.toNat = some ch ∧ table = .latch ch) →
    c = .read tag [code, q, m, hi, lo, k] ∨
      (c = .shortRead tag [k] ∧ m = 1 ∧ s.cursors.current = table) →
    (m = 0 ∨ 4 < m.toNat ∨ (m = 4 ∧ table ≠ .track) ∨ k.toNat = 0 ∨ 8 < k.toNat →
      exec c s = .next (closeEvent s (s.replied 0x8B tag [0x20]))) ∧
    (namesMembers m (read2 hi lo) (s.cursors.collection table) (s.members table) start →
      (m = 4 → table = .track) → 1 ≤ k.toNat → k.toNat ≤ 8 →
      (start = [] → exec c s = .next (closeEvent s (s.replied 0x8B tag [0x21]))) ∧
      (∀ n, returnsOf start k.toNat n → 1 ≤ n →
        let after : Cursor := match start.drop n with
          | [] => .atEnd
          | x :: _ => .key x.1
        exec c s = .next (closeEvent s
          (({ s with cursors :=
              { s.cursors.putCollection table after with current := table } } : State).replied
            0x8B tag (0x00 :: BitVec.ofNat 8 n :: 0x00 ::
              (start.take n).flatMap fun x => x.2)))))) ∧
  (∀ (tag q m hi lo k code : Byte) (s : State), s.ready →
    6 < code.toNat ∨ (code = 3 ∧ 15 < q.toNat) ∨ (code = 5 ∧ 3 < q.toNat) →
    exec (.read tag [code, q, m, hi, lo, k]) s =
      .next (closeEvent s (s.replied 0x8B tag [0x20]))) ∧
  (∀ (tag k : Byte) (table : Table) (size : Nat) (s : State), s.ready →
    (table, size) ∈ [(Table.route, 32), (.bank, 16), (.nozzle, 128), (.tally, 33)] →
    s.cursors.current = table → 1 ≤ k.toNat → k.toNat ≤ 8 →
    let start := s.cursors.fixedIndex table
    exec (.shortRead tag [k]) s = .next (closeEvent s
      (({ s with cursors := s.cursors.putIndex table ((start + k.toNat) % size) } : State).replied
        0x8B tag (0x00 :: k :: BitVec.ofNat 8 start ::
          (List.range k.toNat).flatMap fun i => s.entryBytes table ((start + i) % size))))) ∧
  (∀ (tag k : Byte) (s : State), s.ready → s.cursors.current = .track → 1 ≤ k.toNat → k.toNat ≤ 8 →
    s.cursors.track = .atEnd →
    exec (.shortRead tag [k]) s = .next (closeEvent s (s.replied 0x8B tag [0x21]))) ∧
  (∀ (tag k : Byte) (s : State), s.ready → k.toNat = 0 ∨ 8 < k.toNat →
    exec (.shortRead tag [k]) s = .next (closeEvent s (s.replied 0x8B tag [0x20]))) ∧
  (∀ (table : Table) (cursor : Cursor) (c : Cursors),
    c.putCollection table cursor = (match table with
      | .track => { c with track := cursor }
      | .pulses b => { c with pulses := c.pulses.set b cursor }
      | .latch .sa => { c with latch := { c.latch with sa := cursor } }
      | .latch .sb => { c with latch := { c.latch with sb := cursor } }
      | .latch .bm => { c with latch := { c.latch with bm := cursor } }
      | .latch .mx => { c with latch := { c.latch with mx := cursor } }
      | _ => c)) ∧
  (∀ (before rest : List Nat) (key : Nat) (c : Cursor), key ∉ before →
    c.leave (before ++ key :: rest) key =
      if c = .key key then (match rest with
        | [] => .atEnd
        | x :: _ => .key x)
      else c) ∧
  (∀ (s : State) (id : TrackId) (b : BankId) (c : Channel),
    (s.removeRecord id).cursors.track =
      s.cursors.track.leave (s.store.records.map fun r => r.id.toNat) id.toNat ∧
    (s.removeEntry b id).cursors.pulses[b] =
      (s.cursors.pulses[b]).leave ((s.bank b).queue.map fun e => e.track.toNat) id.toNat ∧
    ∀ e rest, (s.latch c).fifo = e :: rest →
      (s.popOldest c).cursors.latch.get c =
        (s.cursors.latch.get c).leave ((s.latch c).fifo.map fun x => x.seq.toNat) e.seq.toNat)

/-- WRITE of a route entry, in every mode: an enumerated field outside its set, or a Dmin above Dmax
once both are clamped, refuses it and leaves the entry and the cursor; otherwise the clamped entry is
stored whole, read back in the reply, and the ROUTE cursor stands after it. A locator that names no
entry, another table and the other table's LEN are refused. -/
def Obligations.WriteRoute : Prop :=
  (∀ (tag q m hi lo d lv dmin dmax p1 p0 sp pr mc po : Byte) (n : Nat) (s : State), s.ready →
    let c := Instr.writeRoute tag [1, q, m, hi, lo, d, lv, dmin, dmax, p1, p0, sp, pr, mc, po]
    let least := max 1 (min 200 dmin.toNat)
    let most := max 1 (min 200 dmax.toNat)
    (3 < m.toNat ∨ ((m = 0 ∨ m = 3) ∧ 31 < read2 hi lo) →
      exec c s = .next (closeEvent s (s.replied 0x8C tag [0x20]))) ∧
    (namesEntry m (read2 hi lo) s.cursors.route n → n < 32 →
      (2 < d.toNat ∨ 1 < lv.toNat ∨ 1 < po.toNat →
        exec c s = .next (closeEvent s (s.replied 0x8C tag [0x20]))) ∧
      (∀ dest level policy, destinationOfCode d.toNat = some dest →
        levelOfCode lv.toNat = some level → policyOfCode po.toNat = some policy →
        (most < least → exec c s = .next (closeEvent s (s.replied 0x8C tag [0x20]))) ∧
        (least ≤ most →
          let r : Route :=
            { destination := dest, level := level, dmin := least, dmax := most
              leadPad := min 4095 (read2 p1 p0), spanPad := min 3 sp.toNat
              precedence := min 7 pr.toNat, minConfidence := min 15 mc.toNat, policy := policy }
          let same := least = dmin.toNat ∧ most = dmax.toNat ∧ read2 p1 p0 ≤ 4095 ∧ sp.toNat ≤ 3 ∧
            pr.toNat ≤ 7 ∧ mc.toNat ≤ 15
          exec c s = .next (closeEvent s
            (({ s with
              settings := { s.settings with routes := s.settings.routes.setIfInBounds n r }
              cursors := { s.cursors with route := (n + 1) % 32, current := .route } } :
              State).replied 0x8C tag ((if same then 0x00 else 0x01) :: r.bytes))))))) ∧
  (∀ (tag : Byte) (p : List Byte) (s : State), s.ready →
    (p.length = 15 ∨ p.length = 6 → byteAt p 0 ≠ 1 → byteAt p 0 ≠ 4 →
      exec (.writeRoute tag p) s = .next (closeEvent s (s.replied 0x8C tag [0x20]))) ∧
    (p.length = 6 → byteAt p 0 = 1 →
      exec (.writeRoute tag p) s = .next (closeEvent s (s.replied 0x8C tag [0x22]))))

/-- WRITE of a nozzle's grade, in every mode: OK and FAULTY by the host, marked and with a bad run of 0,
a grade that is written again unchanged, any other grade refused; and the eighth FAULTY nozzle of a bank
fences it. -/
def Obligations.WriteNozzle : Prop :=
  (∀ (tag q m hi lo g : Byte) (n : Nat) (s : State), s.ready →
    namesEntry m (read2 hi lo) s.cursors.nozzle n → ∀ hn : n < 128,
    let c := Instr.writeNozzle tag [4, q, m, hi, lo, g]
    let id : NozzleId := ⟨n, hn⟩
    let old := s.nozzle id
    let bank : BankId := ⟨n / 8, by omega⟩
    let moved := { s with cursors :=
      { s.cursors with nozzle := (n + 1) % 128, current := .nozzle } }
    let healed : Nozzle := if old.grade = .ok then old else ⟨.ok, 0, true⟩
    let failed : Nozzle := if old.grade = .faulty then old else ⟨.faulty, 0, true⟩
    (g = 0 → exec c s = .next (closeEvent s
      ((moved.setNozzle id healed).replied 0x8C tag (0x00 :: nozzleBytes n healed)))) ∧
    (g = 2 → old.grade = .faulty ∨
        (∃ m : Member, nozzleOf bank m ≠ id ∧ s.faulty (nozzleOf bank m) = false) ∨
        (s.bank bank).state = .fenced →
      exec c s = .next (closeEvent s
        ((moved.setNozzle id failed).replied 0x8C tag (0x00 :: nozzleBytes n failed)))) ∧
    (g = 2 → old.grade ≠ .faulty →
      (∀ m : Member, nozzleOf bank m ≠ id → s.faulty (nozzleOf bank m) = true) →
      (s.bank bank).state ≠ .fenced →
      ∃ u : State, exec c s = .next (closeEvent s
          (u.replied 0x8C tag (0x00 :: nozzleBytes n failed))) ∧
        u.health = s.health.set n failed ∧
        (u.bank bank).state = .fenced ∧ (u.bank bank).queue = [] ∧
        (∀ m : Member, u.nozzleOpen bank m = false) ∧ (u.bank bank).debt = 0 ∧
        u.flags = s.flags ||| 0x00080000 ∧ s.SameOffPlant u) ∧
    (g ≠ 0 → g ≠ 2 → exec c s = .next (closeEvent s (s.replied 0x8C tag [0x20])))) ∧
  (∀ (tag q m hi lo g : Byte) (s : State), s.ready →
    3 < m.toNat ∨ ((m = 0 ∨ m = 3) ∧ 127 < read2 hi lo) →
    exec (.writeNozzle tag [4, q, m, hi, lo, g]) s =
      .next (closeEvent s (s.replied 0x8C tag [0x20]))) ∧
  (∀ (tag : Byte) (p : List Byte) (s : State), s.ready → p.length = 15 → byteAt p 0 = 4 →
    exec (.writeNozzle tag p) s = .next (closeEvent s (s.replied 0x8C tag [0x22])))

/-! ### The laws at reset -/

/-- The state after reset meets every law that the invariants above keep. It is the power-on of a part
that was never saved, with every line low (the model's choice of reset state, assumption 3), and the
settings it starts on are the chapters' defaults. The codes of enumerated settings that 10.9.6 does not
list are DEDUCED, assumption 21. -/
def Obligations.ResetState : Prop :=
  (State.reset.RxKept ∧ State.reset.store.IdsDistinct ∧ State.reset.store.Balanced ∧
    State.reset.FireSafe ∧ State.reset.BanksClosed ∧ State.reset.DebtsKept ∧
    State.reset.LowTestKept ∧ State.reset.HealthKept ∧ State.reset.FlagsCarried ∧
    State.reset.WithinCapacity ∧ State.reset.EntriesTracked ∧ State.reset.EntriesOpen ∧
    State.reset.settings.valid = true) ∧
  (∀ s : State, s.stored = none → s.pending = [] →
    exec (.powerOn false false false) s = .next State.reset) ∧
  (∀ c : ClassCode, State.reset.settings.routes[c] = ⟨.pass, .low, 4, 80, 8, 1, 0, 0, .yield⟩) ∧
  (∀ b : BankId, State.reset.settings.banks[b] = ⟨4, 20, 50, 120, 4, 8, .ascending, 1⟩) ∧
  (∀ n ∈ [(SettingName.decodeMode, 2), (.direction, 0), (.smoothing, 3), (.stallWindow, 200),
      (.overspeedLimit, 0), (.reverseLimit, 400), (.limitAction, 0), (.loopLength, 0),
      (.slipTolerance, 20), (.slipMargin, 24), (.latchFilter .sa, 1), (.latchFilter .sb, 1),
      (.latchFilter .bm, 3), (.latchEdge .sa, 0), (.latchEdge .sb, 0), (.latchEdge .bm, 0),
      (.latchMode .sa, 1), (.latchMode .sb, 1), (.latchMode .bm, 1), (.latchMode .mx, 1),
      (.reportDeadline, 40), (.silenceTimeout, 500), (.dA, 4000), (.dB, 2000), (.horizon, 600),
      (.joinTolerance, 24), (.upTrim, 0), (.downTrim, 0), (.upLatency, 3000), (.downLatency, 3000),
      (.vmin, 256), (.pressureThreshold, 450), (.pressurePolicy, 1)],
    State.reset.settings.get n.1 = n.2)

end
end

