-- ==== Sys2Proof/Laws/State.lean ====
section
/-!
SUPPORT. One lemma for each field that a named update of the state leaves alone, true by rfl, and what
each update writes, so that no later proof unfolds a record update.
-/

namespace Sys2Proof.Machine

/-! ### setBank -/

@[simp] theorem State.setBank_powered (s : State) (b : BankId) (v : Bank) :
    (s.setBank b v).powered = s.powered := rfl

@[simp] theorem State.setBank_timeBase (s : State) (b : BankId) (v : Bank) :
    (s.setBank b v).timeBase = s.timeBase := rfl

@[simp] theorem State.setBank_fireEnable (s : State) (b : BankId) (v : Bank) :
    (s.setBank b v).fireEnable = s.fireEnable := rfl

@[simp] theorem State.setBank_run (s : State) (b : BankId) (v : Bank) :
    (s.setBank b v).run = s.run := rfl

@[simp] theorem State.setBank_flags (s : State) (b : BankId) (v : Bank) :
    (s.setBank b v).flags = s.flags := rfl

@[simp] theorem State.setBank_settings (s : State) (b : BankId) (v : Bank) :
    (s.setBank b v).settings = s.settings := rfl

@[simp] theorem State.setBank_stored (s : State) (b : BankId) (v : Bank) :
    (s.setBank b v).stored = s.stored := rfl

@[simp] theorem State.setBank_belt (s : State) (b : BankId) (v : Bank) :
    (s.setBank b v).belt = s.belt := rfl

@[simp] theorem State.setBank_latches (s : State) (b : BankId) (v : Bank) :
    (s.setBank b v).latches = s.latches := rfl

@[simp] theorem State.setBank_heads (s : State) (b : BankId) (v : Bank) :
    (s.setBank b v).heads = s.heads := rfl

@[simp] theorem State.setBank_store (s : State) (b : BankId) (v : Bank) :
    (s.setBank b v).store = s.store := rfl

@[simp] theorem State.setBank_health (s : State) (b : BankId) (v : Bank) :
    (s.setBank b v).health = s.health := rfl

@[simp] theorem State.setBank_supply (s : State) (b : BankId) (v : Bank) :
    (s.setBank b v).supply = s.supply := rfl

@[simp] theorem State.setBank_link (s : State) (b : BankId) (v : Bank) :
    (s.setBank b v).link = s.link := rfl

@[simp] theorem State.setBank_cursors (s : State) (b : BankId) (v : Bank) :
    (s.setBank b v).cursors = s.cursors := rfl

@[simp] theorem State.setBank_pending (s : State) (b : BankId) (v : Bank) :
    (s.setBank b v).pending = s.pending := rfl

/-! ### modBank -/

@[simp] theorem State.modBank_powered (s : State) (b : BankId) (f : Bank → Bank) :
    (s.modBank b f).powered = s.powered := rfl

@[simp] theorem State.modBank_timeBase (s : State) (b : BankId) (f : Bank → Bank) :
    (s.modBank b f).timeBase = s.timeBase := rfl

@[simp] theorem State.modBank_fireEnable (s : State) (b : BankId) (f : Bank → Bank) :
    (s.modBank b f).fireEnable = s.fireEnable := rfl

@[simp] theorem State.modBank_run (s : State) (b : BankId) (f : Bank → Bank) :
    (s.modBank b f).run = s.run := rfl

@[simp] theorem State.modBank_flags (s : State) (b : BankId) (f : Bank → Bank) :
    (s.modBank b f).flags = s.flags := rfl

@[simp] theorem State.modBank_settings (s : State) (b : BankId) (f : Bank → Bank) :
    (s.modBank b f).settings = s.settings := rfl

@[simp] theorem State.modBank_stored (s : State) (b : BankId) (f : Bank → Bank) :
    (s.modBank b f).stored = s.stored := rfl

@[simp] theorem State.modBank_belt (s : State) (b : BankId) (f : Bank → Bank) :
    (s.modBank b f).belt = s.belt := rfl

@[simp] theorem State.modBank_latches (s : State) (b : BankId) (f : Bank → Bank) :
    (s.modBank b f).latches = s.latches := rfl

@[simp] theorem State.modBank_heads (s : State) (b : BankId) (f : Bank → Bank) :
    (s.modBank b f).heads = s.heads := rfl

@[simp] theorem State.modBank_store (s : State) (b : BankId) (f : Bank → Bank) :
    (s.modBank b f).store = s.store := rfl

@[simp] theorem State.modBank_health (s : State) (b : BankId) (f : Bank → Bank) :
    (s.modBank b f).health = s.health := rfl

@[simp] theorem State.modBank_supply (s : State) (b : BankId) (f : Bank → Bank) :
    (s.modBank b f).supply = s.supply := rfl

@[simp] theorem State.modBank_link (s : State) (b : BankId) (f : Bank → Bank) :
    (s.modBank b f).link = s.link := rfl

@[simp] theorem State.modBank_cursors (s : State) (b : BankId) (f : Bank → Bank) :
    (s.modBank b f).cursors = s.cursors := rfl

@[simp] theorem State.modBank_pending (s : State) (b : BankId) (f : Bank → Bank) :
    (s.modBank b f).pending = s.pending := rfl

/-! ### setNozzle -/

@[simp] theorem State.setNozzle_powered (s : State) (n : NozzleId) (v : Nozzle) :
    (s.setNozzle n v).powered = s.powered := rfl

@[simp] theorem State.setNozzle_timeBase (s : State) (n : NozzleId) (v : Nozzle) :
    (s.setNozzle n v).timeBase = s.timeBase := rfl

@[simp] theorem State.setNozzle_fireEnable (s : State) (n : NozzleId) (v : Nozzle) :
    (s.setNozzle n v).fireEnable = s.fireEnable := rfl

@[simp] theorem State.setNozzle_run (s : State) (n : NozzleId) (v : Nozzle) :
    (s.setNozzle n v).run = s.run := rfl

@[simp] theorem State.setNozzle_flags (s : State) (n : NozzleId) (v : Nozzle) :
    (s.setNozzle n v).flags = s.flags := rfl

@[simp] theorem State.setNozzle_settings (s : State) (n : NozzleId) (v : Nozzle) :
    (s.setNozzle n v).settings = s.settings := rfl

@[simp] theorem State.setNozzle_stored (s : State) (n : NozzleId) (v : Nozzle) :
    (s.setNozzle n v).stored = s.stored := rfl

@[simp] theorem State.setNozzle_belt (s : State) (n : NozzleId) (v : Nozzle) :
    (s.setNozzle n v).belt = s.belt := rfl

@[simp] theorem State.setNozzle_latches (s : State) (n : NozzleId) (v : Nozzle) :
    (s.setNozzle n v).latches = s.latches := rfl

@[simp] theorem State.setNozzle_heads (s : State) (n : NozzleId) (v : Nozzle) :
    (s.setNozzle n v).heads = s.heads := rfl

@[simp] theorem State.setNozzle_store (s : State) (n : NozzleId) (v : Nozzle) :
    (s.setNozzle n v).store = s.store := rfl

@[simp] theorem State.setNozzle_banks (s : State) (n : NozzleId) (v : Nozzle) :
    (s.setNozzle n v).banks = s.banks := rfl

@[simp] theorem State.setNozzle_supply (s : State) (n : NozzleId) (v : Nozzle) :
    (s.setNozzle n v).supply = s.supply := rfl

@[simp] theorem State.setNozzle_link (s : State) (n : NozzleId) (v : Nozzle) :
    (s.setNozzle n v).link = s.link := rfl

@[simp] theorem State.setNozzle_cursors (s : State) (n : NozzleId) (v : Nozzle) :
    (s.setNozzle n v).cursors = s.cursors := rfl

@[simp] theorem State.setNozzle_pending (s : State) (n : NozzleId) (v : Nozzle) :
    (s.setNozzle n v).pending = s.pending := rfl

/-! ### setLatch -/

@[simp] theorem State.setLatch_powered (s : State) (c : Channel) (v : Latch) :
    (s.setLatch c v).powered = s.powered := rfl

@[simp] theorem State.setLatch_timeBase (s : State) (c : Channel) (v : Latch) :
    (s.setLatch c v).timeBase = s.timeBase := rfl

@[simp] theorem State.setLatch_fireEnable (s : State) (c : Channel) (v : Latch) :
    (s.setLatch c v).fireEnable = s.fireEnable := rfl

@[simp] theorem State.setLatch_run (s : State) (c : Channel) (v : Latch) :
    (s.setLatch c v).run = s.run := rfl

@[simp] theorem State.setLatch_flags (s : State) (c : Channel) (v : Latch) :
    (s.setLatch c v).flags = s.flags := rfl

@[simp] theorem State.setLatch_settings (s : State) (c : Channel) (v : Latch) :
    (s.setLatch c v).settings = s.settings := rfl

@[simp] theorem State.setLatch_stored (s : State) (c : Channel) (v : Latch) :
    (s.setLatch c v).stored = s.stored := rfl

@[simp] theorem State.setLatch_belt (s : State) (c : Channel) (v : Latch) :
    (s.setLatch c v).belt = s.belt := rfl

@[simp] theorem State.setLatch_heads (s : State) (c : Channel) (v : Latch) :
    (s.setLatch c v).heads = s.heads := rfl

@[simp] theorem State.setLatch_store (s : State) (c : Channel) (v : Latch) :
    (s.setLatch c v).store = s.store := rfl

@[simp] theorem State.setLatch_banks (s : State) (c : Channel) (v : Latch) :
    (s.setLatch c v).banks = s.banks := rfl

@[simp] theorem State.setLatch_health (s : State) (c : Channel) (v : Latch) :
    (s.setLatch c v).health = s.health := rfl

@[simp] theorem State.setLatch_supply (s : State) (c : Channel) (v : Latch) :
    (s.setLatch c v).supply = s.supply := rfl

@[simp] theorem State.setLatch_link (s : State) (c : Channel) (v : Latch) :
    (s.setLatch c v).link = s.link := rfl

@[simp] theorem State.setLatch_cursors (s : State) (c : Channel) (v : Latch) :
    (s.setLatch c v).cursors = s.cursors := rfl

@[simp] theorem State.setLatch_pending (s : State) (c : Channel) (v : Latch) :
    (s.setLatch c v).pending = s.pending := rfl

/-! ### modLatch -/

@[simp] theorem State.modLatch_powered (s : State) (c : Channel) (f : Latch → Latch) :
    (s.modLatch c f).powered = s.powered := rfl

@[simp] theorem State.modLatch_timeBase (s : State) (c : Channel) (f : Latch → Latch) :
    (s.modLatch c f).timeBase = s.timeBase := rfl

@[simp] theorem State.modLatch_fireEnable (s : State) (c : Channel) (f : Latch → Latch) :
    (s.modLatch c f).fireEnable = s.fireEnable := rfl

@[simp] theorem State.modLatch_run (s : State) (c : Channel) (f : Latch → Latch) :
    (s.modLatch c f).run = s.run := rfl

@[simp] theorem State.modLatch_flags (s : State) (c : Channel) (f : Latch → Latch) :
    (s.modLatch c f).flags = s.flags := rfl

@[simp] theorem State.modLatch_settings (s : State) (c : Channel) (f : Latch → Latch) :
    (s.modLatch c f).settings = s.settings := rfl

@[simp] theorem State.modLatch_stored (s : State) (c : Channel) (f : Latch → Latch) :
    (s.modLatch c f).stored = s.stored := rfl

@[simp] theorem State.modLatch_belt (s : State) (c : Channel) (f : Latch → Latch) :
    (s.modLatch c f).belt = s.belt := rfl

@[simp] theorem State.modLatch_heads (s : State) (c : Channel) (f : Latch → Latch) :
    (s.modLatch c f).heads = s.heads := rfl

@[simp] theorem State.modLatch_store (s : State) (c : Channel) (f : Latch → Latch) :
    (s.modLatch c f).store = s.store := rfl

@[simp] theorem State.modLatch_banks (s : State) (c : Channel) (f : Latch → Latch) :
    (s.modLatch c f).banks = s.banks := rfl

@[simp] theorem State.modLatch_health (s : State) (c : Channel) (f : Latch → Latch) :
    (s.modLatch c f).health = s.health := rfl

@[simp] theorem State.modLatch_supply (s : State) (c : Channel) (f : Latch → Latch) :
    (s.modLatch c f).supply = s.supply := rfl

@[simp] theorem State.modLatch_link (s : State) (c : Channel) (f : Latch → Latch) :
    (s.modLatch c f).link = s.link := rfl

@[simp] theorem State.modLatch_cursors (s : State) (c : Channel) (f : Latch → Latch) :
    (s.modLatch c f).cursors = s.cursors := rfl

@[simp] theorem State.modLatch_pending (s : State) (c : Channel) (f : Latch → Latch) :
    (s.modLatch c f).pending = s.pending := rfl

/-! ### setFlag -/

@[simp] theorem State.setFlag_powered (s : State) (f : Flag) :
    (s.setFlag f).powered = s.powered := rfl

@[simp] theorem State.setFlag_timeBase (s : State) (f : Flag) :
    (s.setFlag f).timeBase = s.timeBase := rfl

@[simp] theorem State.setFlag_fireEnable (s : State) (f : Flag) :
    (s.setFlag f).fireEnable = s.fireEnable := rfl

@[simp] theorem State.setFlag_run (s : State) (f : Flag) :
    (s.setFlag f).run = s.run := rfl

@[simp] theorem State.setFlag_settings (s : State) (f : Flag) :
    (s.setFlag f).settings = s.settings := rfl

@[simp] theorem State.setFlag_stored (s : State) (f : Flag) :
    (s.setFlag f).stored = s.stored := rfl

@[simp] theorem State.setFlag_belt (s : State) (f : Flag) :
    (s.setFlag f).belt = s.belt := rfl

@[simp] theorem State.setFlag_latches (s : State) (f : Flag) :
    (s.setFlag f).latches = s.latches := rfl

@[simp] theorem State.setFlag_heads (s : State) (f : Flag) :
    (s.setFlag f).heads = s.heads := rfl

@[simp] theorem State.setFlag_store (s : State) (f : Flag) :
    (s.setFlag f).store = s.store := rfl

@[simp] theorem State.setFlag_banks (s : State) (f : Flag) :
    (s.setFlag f).banks = s.banks := rfl

@[simp] theorem State.setFlag_health (s : State) (f : Flag) :
    (s.setFlag f).health = s.health := rfl

@[simp] theorem State.setFlag_supply (s : State) (f : Flag) :
    (s.setFlag f).supply = s.supply := rfl

@[simp] theorem State.setFlag_link (s : State) (f : Flag) :
    (s.setFlag f).link = s.link := rfl

@[simp] theorem State.setFlag_cursors (s : State) (f : Flag) :
    (s.setFlag f).cursors = s.cursors := rfl

@[simp] theorem State.setFlag_pending (s : State) (f : Flag) :
    (s.setFlag f).pending = s.pending := rfl

/-! ### setReceiver -/

@[simp] theorem State.setReceiver_powered (s : State) (p : Port) (r : Receiver) :
    (s.setReceiver p r).powered = s.powered := rfl

@[simp] theorem State.setReceiver_timeBase (s : State) (p : Port) (r : Receiver) :
    (s.setReceiver p r).timeBase = s.timeBase := rfl

@[simp] theorem State.setReceiver_fireEnable (s : State) (p : Port) (r : Receiver) :
    (s.setReceiver p r).fireEnable = s.fireEnable := rfl

@[simp] theorem State.setReceiver_run (s : State) (p : Port) (r : Receiver) :
    (s.setReceiver p r).run = s.run := rfl

@[simp] theorem State.setReceiver_flags (s : State) (p : Port) (r : Receiver) :
    (s.setReceiver p r).flags = s.flags := rfl

@[simp] theorem State.setReceiver_settings (s : State) (p : Port) (r : Receiver) :
    (s.setReceiver p r).settings = s.settings := rfl

@[simp] theorem State.setReceiver_stored (s : State) (p : Port) (r : Receiver) :
    (s.setReceiver p r).stored = s.stored := rfl

@[simp] theorem State.setReceiver_belt (s : State) (p : Port) (r : Receiver) :
    (s.setReceiver p r).belt = s.belt := rfl

@[simp] theorem State.setReceiver_latches (s : State) (p : Port) (r : Receiver) :
    (s.setReceiver p r).latches = s.latches := rfl

@[simp] theorem State.setReceiver_heads (s : State) (p : Port) (r : Receiver) :
    (s.setReceiver p r).heads = s.heads := rfl

@[simp] theorem State.setReceiver_store (s : State) (p : Port) (r : Receiver) :
    (s.setReceiver p r).store = s.store := rfl

@[simp] theorem State.setReceiver_banks (s : State) (p : Port) (r : Receiver) :
    (s.setReceiver p r).banks = s.banks := rfl

@[simp] theorem State.setReceiver_health (s : State) (p : Port) (r : Receiver) :
    (s.setReceiver p r).health = s.health := rfl

@[simp] theorem State.setReceiver_supply (s : State) (p : Port) (r : Receiver) :
    (s.setReceiver p r).supply = s.supply := rfl

@[simp] theorem State.setReceiver_cursors (s : State) (p : Port) (r : Receiver) :
    (s.setReceiver p r).cursors = s.cursors := rfl

@[simp] theorem State.setReceiver_pending (s : State) (p : Port) (r : Receiver) :
    (s.setReceiver p r).pending = s.pending := rfl

/-! ### setPulsesCursor -/

@[simp] theorem State.setPulsesCursor_powered (s : State) (b : BankId) (c : Cursor) :
    (s.setPulsesCursor b c).powered = s.powered := rfl

@[simp] theorem State.setPulsesCursor_timeBase (s : State) (b : BankId) (c : Cursor) :
    (s.setPulsesCursor b c).timeBase = s.timeBase := rfl

@[simp] theorem State.setPulsesCursor_fireEnable (s : State) (b : BankId) (c : Cursor) :
    (s.setPulsesCursor b c).fireEnable = s.fireEnable := rfl

@[simp] theorem State.setPulsesCursor_run (s : State) (b : BankId) (c : Cursor) :
    (s.setPulsesCursor b c).run = s.run := rfl

@[simp] theorem State.setPulsesCursor_flags (s : State) (b : BankId) (c : Cursor) :
    (s.setPulsesCursor b c).flags = s.flags := rfl

@[simp] theorem State.setPulsesCursor_settings (s : State) (b : BankId) (c : Cursor) :
    (s.setPulsesCursor b c).settings = s.settings := rfl

@[simp] theorem State.setPulsesCursor_stored (s : State) (b : BankId) (c : Cursor) :
    (s.setPulsesCursor b c).stored = s.stored := rfl

@[simp] theorem State.setPulsesCursor_belt (s : State) (b : BankId) (c : Cursor) :
    (s.setPulsesCursor b c).belt = s.belt := rfl

@[simp] theorem State.setPulsesCursor_latches (s : State) (b : BankId) (c : Cursor) :
    (s.setPulsesCursor b c).latches = s.latches := rfl

@[simp] theorem State.setPulsesCursor_heads (s : State) (b : BankId) (c : Cursor) :
    (s.setPulsesCursor b c).heads = s.heads := rfl

@[simp] theorem State.setPulsesCursor_store (s : State) (b : BankId) (c : Cursor) :
    (s.setPulsesCursor b c).store = s.store := rfl

@[simp] theorem State.setPulsesCursor_banks (s : State) (b : BankId) (c : Cursor) :
    (s.setPulsesCursor b c).banks = s.banks := rfl

@[simp] theorem State.setPulsesCursor_health (s : State) (b : BankId) (c : Cursor) :
    (s.setPulsesCursor b c).health = s.health := rfl

@[simp] theorem State.setPulsesCursor_supply (s : State) (b : BankId) (c : Cursor) :
    (s.setPulsesCursor b c).supply = s.supply := rfl

@[simp] theorem State.setPulsesCursor_link (s : State) (b : BankId) (c : Cursor) :
    (s.setPulsesCursor b c).link = s.link := rfl

@[simp] theorem State.setPulsesCursor_pending (s : State) (b : BankId) (c : Cursor) :
    (s.setPulsesCursor b c).pending = s.pending := rfl

/-! ### setTrackCursor -/

@[simp] theorem State.setTrackCursor_powered (s : State) (c : Cursor) :
    (s.setTrackCursor c).powered = s.powered := rfl

@[simp] theorem State.setTrackCursor_timeBase (s : State) (c : Cursor) :
    (s.setTrackCursor c).timeBase = s.timeBase := rfl

@[simp] theorem State.setTrackCursor_fireEnable (s : State) (c : Cursor) :
    (s.setTrackCursor c).fireEnable = s.fireEnable := rfl

@[simp] theorem State.setTrackCursor_run (s : State) (c : Cursor) :
    (s.setTrackCursor c).run = s.run := rfl

@[simp] theorem State.setTrackCursor_flags (s : State) (c : Cursor) :
    (s.setTrackCursor c).flags = s.flags := rfl

@[simp] theorem State.setTrackCursor_settings (s : State) (c : Cursor) :
    (s.setTrackCursor c).settings = s.settings := rfl

@[simp] theorem State.setTrackCursor_stored (s : State) (c : Cursor) :
    (s.setTrackCursor c).stored = s.stored := rfl

@[simp] theorem State.setTrackCursor_belt (s : State) (c : Cursor) :
    (s.setTrackCursor c).belt = s.belt := rfl

@[simp] theorem State.setTrackCursor_latches (s : State) (c : Cursor) :
    (s.setTrackCursor c).latches = s.latches := rfl

@[simp] theorem State.setTrackCursor_heads (s : State) (c : Cursor) :
    (s.setTrackCursor c).heads = s.heads := rfl

@[simp] theorem State.setTrackCursor_store (s : State) (c : Cursor) :
    (s.setTrackCursor c).store = s.store := rfl

@[simp] theorem State.setTrackCursor_banks (s : State) (c : Cursor) :
    (s.setTrackCursor c).banks = s.banks := rfl

@[simp] theorem State.setTrackCursor_health (s : State) (c : Cursor) :
    (s.setTrackCursor c).health = s.health := rfl

@[simp] theorem State.setTrackCursor_supply (s : State) (c : Cursor) :
    (s.setTrackCursor c).supply = s.supply := rfl

@[simp] theorem State.setTrackCursor_link (s : State) (c : Cursor) :
    (s.setTrackCursor c).link = s.link := rfl

@[simp] theorem State.setTrackCursor_pending (s : State) (c : Cursor) :
    (s.setTrackCursor c).pending = s.pending := rfl

/-! ### setLatchCursor -/

@[simp] theorem State.setLatchCursor_powered (s : State) (ch : Channel) (c : Cursor) :
    (s.setLatchCursor ch c).powered = s.powered := rfl

@[simp] theorem State.setLatchCursor_timeBase (s : State) (ch : Channel) (c : Cursor) :
    (s.setLatchCursor ch c).timeBase = s.timeBase := rfl

@[simp] theorem State.setLatchCursor_fireEnable (s : State) (ch : Channel) (c : Cursor) :
    (s.setLatchCursor ch c).fireEnable = s.fireEnable := rfl

@[simp] theorem State.setLatchCursor_run (s : State) (ch : Channel) (c : Cursor) :
    (s.setLatchCursor ch c).run = s.run := rfl

@[simp] theorem State.setLatchCursor_flags (s : State) (ch : Channel) (c : Cursor) :
    (s.setLatchCursor ch c).flags = s.flags := rfl

@[simp] theorem State.setLatchCursor_settings (s : State) (ch : Channel) (c : Cursor) :
    (s.setLatchCursor ch c).settings = s.settings := rfl

@[simp] theorem State.setLatchCursor_stored (s : State) (ch : Channel) (c : Cursor) :
    (s.setLatchCursor ch c).stored = s.stored := rfl

@[simp] theorem State.setLatchCursor_belt (s : State) (ch : Channel) (c : Cursor) :
    (s.setLatchCursor ch c).belt = s.belt := rfl

@[simp] theorem State.setLatchCursor_latches (s : State) (ch : Channel) (c : Cursor) :
    (s.setLatchCursor ch c).latches = s.latches := rfl

@[simp] theorem State.setLatchCursor_heads (s : State) (ch : Channel) (c : Cursor) :
    (s.setLatchCursor ch c).heads = s.heads := rfl

@[simp] theorem State.setLatchCursor_store (s : State) (ch : Channel) (c : Cursor) :
    (s.setLatchCursor ch c).store = s.store := rfl

@[simp] theorem State.setLatchCursor_banks (s : State) (ch : Channel) (c : Cursor) :
    (s.setLatchCursor ch c).banks = s.banks := rfl

@[simp] theorem State.setLatchCursor_health (s : State) (ch : Channel) (c : Cursor) :
    (s.setLatchCursor ch c).health = s.health := rfl

@[simp] theorem State.setLatchCursor_supply (s : State) (ch : Channel) (c : Cursor) :
    (s.setLatchCursor ch c).supply = s.supply := rfl

@[simp] theorem State.setLatchCursor_link (s : State) (ch : Channel) (c : Cursor) :
    (s.setLatchCursor ch c).link = s.link := rfl

@[simp] theorem State.setLatchCursor_pending (s : State) (ch : Channel) (c : Cursor) :
    (s.setLatchCursor ch c).pending = s.pending := rfl

/-! ### atTime -/

@[simp] theorem State.atTime_powered (s : State) (u : Time) :
    (s.atTime u).powered = s.powered := rfl

@[simp] theorem State.atTime_fireEnable (s : State) (u : Time) :
    (s.atTime u).fireEnable = s.fireEnable := rfl

@[simp] theorem State.atTime_run (s : State) (u : Time) :
    (s.atTime u).run = s.run := rfl

@[simp] theorem State.atTime_flags (s : State) (u : Time) :
    (s.atTime u).flags = s.flags := rfl

@[simp] theorem State.atTime_settings (s : State) (u : Time) :
    (s.atTime u).settings = s.settings := rfl

@[simp] theorem State.atTime_stored (s : State) (u : Time) :
    (s.atTime u).stored = s.stored := rfl

@[simp] theorem State.atTime_belt (s : State) (u : Time) :
    (s.atTime u).belt = s.belt := rfl

@[simp] theorem State.atTime_latches (s : State) (u : Time) :
    (s.atTime u).latches = s.latches := rfl

@[simp] theorem State.atTime_heads (s : State) (u : Time) :
    (s.atTime u).heads = s.heads := rfl

@[simp] theorem State.atTime_store (s : State) (u : Time) :
    (s.atTime u).store = s.store := rfl

@[simp] theorem State.atTime_banks (s : State) (u : Time) :
    (s.atTime u).banks = s.banks := rfl

@[simp] theorem State.atTime_health (s : State) (u : Time) :
    (s.atTime u).health = s.health := rfl

@[simp] theorem State.atTime_supply (s : State) (u : Time) :
    (s.atTime u).supply = s.supply := rfl

@[simp] theorem State.atTime_link (s : State) (u : Time) :
    (s.atTime u).link = s.link := rfl

@[simp] theorem State.atTime_cursors (s : State) (u : Time) :
    (s.atTime u).cursors = s.cursors := rfl

@[simp] theorem State.atTime_pending (s : State) (u : Time) :
    (s.atTime u).pending = s.pending := rfl

/-! ### modTally -/

@[simp] theorem State.modTally_powered (s : State) (c : ClassCode) (f : ClassTally → ClassTally) :
    (s.modTally c f).powered = s.powered := rfl

@[simp] theorem State.modTally_timeBase (s : State) (c : ClassCode) (f : ClassTally → ClassTally) :
    (s.modTally c f).timeBase = s.timeBase := rfl

@[simp] theorem State.modTally_fireEnable (s : State) (c : ClassCode) (f : ClassTally → ClassTally) :
    (s.modTally c f).fireEnable = s.fireEnable := rfl

@[simp] theorem State.modTally_run (s : State) (c : ClassCode) (f : ClassTally → ClassTally) :
    (s.modTally c f).run = s.run := rfl

@[simp] theorem State.modTally_flags (s : State) (c : ClassCode) (f : ClassTally → ClassTally) :
    (s.modTally c f).flags = s.flags := rfl

@[simp] theorem State.modTally_settings (s : State) (c : ClassCode) (f : ClassTally → ClassTally) :
    (s.modTally c f).settings = s.settings := rfl

@[simp] theorem State.modTally_stored (s : State) (c : ClassCode) (f : ClassTally → ClassTally) :
    (s.modTally c f).stored = s.stored := rfl

@[simp] theorem State.modTally_belt (s : State) (c : ClassCode) (f : ClassTally → ClassTally) :
    (s.modTally c f).belt = s.belt := rfl

@[simp] theorem State.modTally_latches (s : State) (c : ClassCode) (f : ClassTally → ClassTally) :
    (s.modTally c f).latches = s.latches := rfl

@[simp] theorem State.modTally_heads (s : State) (c : ClassCode) (f : ClassTally → ClassTally) :
    (s.modTally c f).heads = s.heads := rfl

@[simp] theorem State.modTally_banks (s : State) (c : ClassCode) (f : ClassTally → ClassTally) :
    (s.modTally c f).banks = s.banks := rfl

@[simp] theorem State.modTally_health (s : State) (c : ClassCode) (f : ClassTally → ClassTally) :
    (s.modTally c f).health = s.health := rfl

@[simp] theorem State.modTally_supply (s : State) (c : ClassCode) (f : ClassTally → ClassTally) :
    (s.modTally c f).supply = s.supply := rfl

@[simp] theorem State.modTally_link (s : State) (c : ClassCode) (f : ClassTally → ClassTally) :
    (s.modTally c f).link = s.link := rfl

@[simp] theorem State.modTally_cursors (s : State) (c : ClassCode) (f : ClassTally → ClassTally) :
    (s.modTally c f).cursors = s.cursors := rfl

@[simp] theorem State.modTally_pending (s : State) (c : ClassCode) (f : ClassTally → ClassTally) :
    (s.modTally c f).pending = s.pending := rfl

/-! ### modGlobals -/

@[simp] theorem State.modGlobals_powered (s : State) (f : GlobalTally → GlobalTally) :
    (s.modGlobals f).powered = s.powered := rfl

@[simp] theorem State.modGlobals_timeBase (s : State) (f : GlobalTally → GlobalTally) :
    (s.modGlobals f).timeBase = s.timeBase := rfl

@[simp] theorem State.modGlobals_fireEnable (s : State) (f : GlobalTally → GlobalTally) :
    (s.modGlobals f).fireEnable = s.fireEnable := rfl

@[simp] theorem State.modGlobals_run (s : State) (f : GlobalTally → GlobalTally) :
    (s.modGlobals f).run = s.run := rfl

@[simp] theorem State.modGlobals_flags (s : State) (f : GlobalTally → GlobalTally) :
    (s.modGlobals f).flags = s.flags := rfl

@[simp] theorem State.modGlobals_settings (s : State) (f : GlobalTally → GlobalTally) :
    (s.modGlobals f).settings = s.settings := rfl

@[simp] theorem State.modGlobals_stored (s : State) (f : GlobalTally → GlobalTally) :
    (s.modGlobals f).stored = s.stored := rfl

@[simp] theorem State.modGlobals_belt (s : State) (f : GlobalTally → GlobalTally) :
    (s.modGlobals f).belt = s.belt := rfl

@[simp] theorem State.modGlobals_latches (s : State) (f : GlobalTally → GlobalTally) :
    (s.modGlobals f).latches = s.latches := rfl

@[simp] theorem State.modGlobals_heads (s : State) (f : GlobalTally → GlobalTally) :
    (s.modGlobals f).heads = s.heads := rfl

@[simp] theorem State.modGlobals_banks (s : State) (f : GlobalTally → GlobalTally) :
    (s.modGlobals f).banks = s.banks := rfl

@[simp] theorem State.modGlobals_health (s : State) (f : GlobalTally → GlobalTally) :
    (s.modGlobals f).health = s.health := rfl

@[simp] theorem State.modGlobals_supply (s : State) (f : GlobalTally → GlobalTally) :
    (s.modGlobals f).supply = s.supply := rfl

@[simp] theorem State.modGlobals_link (s : State) (f : GlobalTally → GlobalTally) :
    (s.modGlobals f).link = s.link := rfl

@[simp] theorem State.modGlobals_cursors (s : State) (f : GlobalTally → GlobalTally) :
    (s.modGlobals f).cursors = s.cursors := rfl

@[simp] theorem State.modGlobals_pending (s : State) (f : GlobalTally → GlobalTally) :
    (s.modGlobals f).pending = s.pending := rfl

/-! ### countCause -/

@[simp] theorem State.countCause_powered (s : State) (c : Cause) :
    (s.countCause c).powered = s.powered := rfl

@[simp] theorem State.countCause_timeBase (s : State) (c : Cause) :
    (s.countCause c).timeBase = s.timeBase := rfl

@[simp] theorem State.countCause_fireEnable (s : State) (c : Cause) :
    (s.countCause c).fireEnable = s.fireEnable := rfl

@[simp] theorem State.countCause_run (s : State) (c : Cause) :
    (s.countCause c).run = s.run := rfl

@[simp] theorem State.countCause_flags (s : State) (c : Cause) :
    (s.countCause c).flags = s.flags := rfl

@[simp] theorem State.countCause_settings (s : State) (c : Cause) :
    (s.countCause c).settings = s.settings := rfl

@[simp] theorem State.countCause_stored (s : State) (c : Cause) :
    (s.countCause c).stored = s.stored := rfl

@[simp] theorem State.countCause_belt (s : State) (c : Cause) :
    (s.countCause c).belt = s.belt := rfl

@[simp] theorem State.countCause_latches (s : State) (c : Cause) :
    (s.countCause c).latches = s.latches := rfl

@[simp] theorem State.countCause_heads (s : State) (c : Cause) :
    (s.countCause c).heads = s.heads := rfl

@[simp] theorem State.countCause_banks (s : State) (c : Cause) :
    (s.countCause c).banks = s.banks := rfl

@[simp] theorem State.countCause_health (s : State) (c : Cause) :
    (s.countCause c).health = s.health := rfl

@[simp] theorem State.countCause_supply (s : State) (c : Cause) :
    (s.countCause c).supply = s.supply := rfl

@[simp] theorem State.countCause_link (s : State) (c : Cause) :
    (s.countCause c).link = s.link := rfl

@[simp] theorem State.countCause_cursors (s : State) (c : Cause) :
    (s.countCause c).cursors = s.cursors := rfl

@[simp] theorem State.countCause_pending (s : State) (c : Cause) :
    (s.countCause c).pending = s.pending := rfl

/-! ### modRecord -/

@[simp] theorem State.modRecord_powered (s : State) (id : TrackId) (f : Record → Record) :
    (s.modRecord id f).powered = s.powered := rfl

@[simp] theorem State.modRecord_timeBase (s : State) (id : TrackId) (f : Record → Record) :
    (s.modRecord id f).timeBase = s.timeBase := rfl

@[simp] theorem State.modRecord_fireEnable (s : State) (id : TrackId) (f : Record → Record) :
    (s.modRecord id f).fireEnable = s.fireEnable := rfl

@[simp] theorem State.modRecord_run (s : State) (id : TrackId) (f : Record → Record) :
    (s.modRecord id f).run = s.run := rfl

@[simp] theorem State.modRecord_flags (s : State) (id : TrackId) (f : Record → Record) :
    (s.modRecord id f).flags = s.flags := rfl

@[simp] theorem State.modRecord_settings (s : State) (id : TrackId) (f : Record → Record) :
    (s.modRecord id f).settings = s.settings := rfl

@[simp] theorem State.modRecord_stored (s : State) (id : TrackId) (f : Record → Record) :
    (s.modRecord id f).stored = s.stored := rfl

@[simp] theorem State.modRecord_belt (s : State) (id : TrackId) (f : Record → Record) :
    (s.modRecord id f).belt = s.belt := rfl

@[simp] theorem State.modRecord_latches (s : State) (id : TrackId) (f : Record → Record) :
    (s.modRecord id f).latches = s.latches := rfl

@[simp] theorem State.modRecord_heads (s : State) (id : TrackId) (f : Record → Record) :
    (s.modRecord id f).heads = s.heads := rfl

@[simp] theorem State.modRecord_banks (s : State) (id : TrackId) (f : Record → Record) :
    (s.modRecord id f).banks = s.banks := rfl

@[simp] theorem State.modRecord_health (s : State) (id : TrackId) (f : Record → Record) :
    (s.modRecord id f).health = s.health := rfl

@[simp] theorem State.modRecord_supply (s : State) (id : TrackId) (f : Record → Record) :
    (s.modRecord id f).supply = s.supply := rfl

@[simp] theorem State.modRecord_link (s : State) (id : TrackId) (f : Record → Record) :
    (s.modRecord id f).link = s.link := rfl

@[simp] theorem State.modRecord_cursors (s : State) (id : TrackId) (f : Record → Record) :
    (s.modRecord id f).cursors = s.cursors := rfl

@[simp] theorem State.modRecord_pending (s : State) (id : TrackId) (f : Record → Record) :
    (s.modRecord id f).pending = s.pending := rfl

/-! ### modHead -/

@[simp] theorem State.modHead_powered (s : State) (h : Head) (f : HeadStatus → HeadStatus) :
    (s.modHead h f).powered = s.powered := rfl

@[simp] theorem State.modHead_timeBase (s : State) (h : Head) (f : HeadStatus → HeadStatus) :
    (s.modHead h f).timeBase = s.timeBase := rfl

@[simp] theorem State.modHead_fireEnable (s : State) (h : Head) (f : HeadStatus → HeadStatus) :
    (s.modHead h f).fireEnable = s.fireEnable := rfl

@[simp] theorem State.modHead_run (s : State) (h : Head) (f : HeadStatus → HeadStatus) :
    (s.modHead h f).run = s.run := rfl

@[simp] theorem State.modHead_flags (s : State) (h : Head) (f : HeadStatus → HeadStatus) :
    (s.modHead h f).flags = s.flags := rfl

@[simp] theorem State.modHead_settings (s : State) (h : Head) (f : HeadStatus → HeadStatus) :
    (s.modHead h f).settings = s.settings := rfl

@[simp] theorem State.modHead_stored (s : State) (h : Head) (f : HeadStatus → HeadStatus) :
    (s.modHead h f).stored = s.stored := rfl

@[simp] theorem State.modHead_belt (s : State) (h : Head) (f : HeadStatus → HeadStatus) :
    (s.modHead h f).belt = s.belt := rfl

@[simp] theorem State.modHead_latches (s : State) (h : Head) (f : HeadStatus → HeadStatus) :
    (s.modHead h f).latches = s.latches := rfl

@[simp] theorem State.modHead_store (s : State) (h : Head) (f : HeadStatus → HeadStatus) :
    (s.modHead h f).store = s.store := rfl

@[simp] theorem State.modHead_banks (s : State) (h : Head) (f : HeadStatus → HeadStatus) :
    (s.modHead h f).banks = s.banks := rfl

@[simp] theorem State.modHead_health (s : State) (h : Head) (f : HeadStatus → HeadStatus) :
    (s.modHead h f).health = s.health := rfl

@[simp] theorem State.modHead_supply (s : State) (h : Head) (f : HeadStatus → HeadStatus) :
    (s.modHead h f).supply = s.supply := rfl

@[simp] theorem State.modHead_link (s : State) (h : Head) (f : HeadStatus → HeadStatus) :
    (s.modHead h f).link = s.link := rfl

@[simp] theorem State.modHead_cursors (s : State) (h : Head) (f : HeadStatus → HeadStatus) :
    (s.modHead h f).cursors = s.cursors := rfl

@[simp] theorem State.modHead_pending (s : State) (h : Head) (f : HeadStatus → HeadStatus) :
    (s.modHead h f).pending = s.pending := rfl

/-! ### handReply -/

@[simp] theorem State.handReply_powered (s : State) (r : Frame) (b : Bool) :
    (s.handReply r b).powered = s.powered := rfl

@[simp] theorem State.handReply_timeBase (s : State) (r : Frame) (b : Bool) :
    (s.handReply r b).timeBase = s.timeBase := rfl

@[simp] theorem State.handReply_fireEnable (s : State) (r : Frame) (b : Bool) :
    (s.handReply r b).fireEnable = s.fireEnable := rfl

@[simp] theorem State.handReply_run (s : State) (r : Frame) (b : Bool) :
    (s.handReply r b).run = s.run := rfl

@[simp] theorem State.handReply_flags (s : State) (r : Frame) (b : Bool) :
    (s.handReply r b).flags = s.flags := rfl

@[simp] theorem State.handReply_settings (s : State) (r : Frame) (b : Bool) :
    (s.handReply r b).settings = s.settings := rfl

@[simp] theorem State.handReply_stored (s : State) (r : Frame) (b : Bool) :
    (s.handReply r b).stored = s.stored := rfl

@[simp] theorem State.handReply_belt (s : State) (r : Frame) (b : Bool) :
    (s.handReply r b).belt = s.belt := rfl

@[simp] theorem State.handReply_latches (s : State) (r : Frame) (b : Bool) :
    (s.handReply r b).latches = s.latches := rfl

@[simp] theorem State.handReply_heads (s : State) (r : Frame) (b : Bool) :
    (s.handReply r b).heads = s.heads := rfl

@[simp] theorem State.handReply_store (s : State) (r : Frame) (b : Bool) :
    (s.handReply r b).store = s.store := rfl

@[simp] theorem State.handReply_banks (s : State) (r : Frame) (b : Bool) :
    (s.handReply r b).banks = s.banks := rfl

@[simp] theorem State.handReply_health (s : State) (r : Frame) (b : Bool) :
    (s.handReply r b).health = s.health := rfl

@[simp] theorem State.handReply_supply (s : State) (r : Frame) (b : Bool) :
    (s.handReply r b).supply = s.supply := rfl

@[simp] theorem State.handReply_cursors (s : State) (r : Frame) (b : Bool) :
    (s.handReply r b).cursors = s.cursors := rfl

@[simp] theorem State.handReply_pending (s : State) (r : Frame) (b : Bool) :
    (s.handReply r b).pending = s.pending := rfl

/-! ### modEntry -/

@[simp] theorem State.modEntry_powered (s : State) (b : BankId) (id : TrackId) (f : Entry → Entry) :
    (s.modEntry b id f).powered = s.powered := rfl

@[simp] theorem State.modEntry_timeBase (s : State) (b : BankId) (id : TrackId) (f : Entry → Entry) :
    (s.modEntry b id f).timeBase = s.timeBase := rfl

@[simp] theorem State.modEntry_fireEnable (s : State) (b : BankId) (id : TrackId) (f : Entry → Entry) :
    (s.modEntry b id f).fireEnable = s.fireEnable := rfl

@[simp] theorem State.modEntry_run (s : State) (b : BankId) (id : TrackId) (f : Entry → Entry) :
    (s.modEntry b id f).run = s.run := rfl

@[simp] theorem State.modEntry_flags (s : State) (b : BankId) (id : TrackId) (f : Entry → Entry) :
    (s.modEntry b id f).flags = s.flags := rfl

@[simp] theorem State.modEntry_settings (s : State) (b : BankId) (id : TrackId) (f : Entry → Entry) :
    (s.modEntry b id f).settings = s.settings := rfl

@[simp] theorem State.modEntry_stored (s : State) (b : BankId) (id : TrackId) (f : Entry → Entry) :
    (s.modEntry b id f).stored = s.stored := rfl

@[simp] theorem State.modEntry_belt (s : State) (b : BankId) (id : TrackId) (f : Entry → Entry) :
    (s.modEntry b id f).belt = s.belt := rfl

@[simp] theorem State.modEntry_latches (s : State) (b : BankId) (id : TrackId) (f : Entry → Entry) :
    (s.modEntry b id f).latches = s.latches := rfl

@[simp] theorem State.modEntry_heads (s : State) (b : BankId) (id : TrackId) (f : Entry → Entry) :
    (s.modEntry b id f).heads = s.heads := rfl

@[simp] theorem State.modEntry_store (s : State) (b : BankId) (id : TrackId) (f : Entry → Entry) :
    (s.modEntry b id f).store = s.store := rfl

@[simp] theorem State.modEntry_health (s : State) (b : BankId) (id : TrackId) (f : Entry → Entry) :
    (s.modEntry b id f).health = s.health := rfl

@[simp] theorem State.modEntry_supply (s : State) (b : BankId) (id : TrackId) (f : Entry → Entry) :
    (s.modEntry b id f).supply = s.supply := rfl

@[simp] theorem State.modEntry_link (s : State) (b : BankId) (id : TrackId) (f : Entry → Entry) :
    (s.modEntry b id f).link = s.link := rfl

@[simp] theorem State.modEntry_cursors (s : State) (b : BankId) (id : TrackId) (f : Entry → Entry) :
    (s.modEntry b id f).cursors = s.cursors := rfl

@[simp] theorem State.modEntry_pending (s : State) (b : BankId) (id : TrackId) (f : Entry → Entry) :
    (s.modEntry b id f).pending = s.pending := rfl

/-! ### restartLowTest -/

@[simp] theorem State.restartLowTest_powered (s : State) :
    (s.restartLowTest).powered = s.powered := rfl

@[simp] theorem State.restartLowTest_timeBase (s : State) :
    (s.restartLowTest).timeBase = s.timeBase := rfl

@[simp] theorem State.restartLowTest_fireEnable (s : State) :
    (s.restartLowTest).fireEnable = s.fireEnable := rfl

@[simp] theorem State.restartLowTest_run (s : State) :
    (s.restartLowTest).run = s.run := rfl

@[simp] theorem State.restartLowTest_flags (s : State) :
    (s.restartLowTest).flags = s.flags := rfl

@[simp] theorem State.restartLowTest_settings (s : State) :
    (s.restartLowTest).settings = s.settings := rfl

@[simp] theorem State.restartLowTest_stored (s : State) :
    (s.restartLowTest).stored = s.stored := rfl

@[simp] theorem State.restartLowTest_belt (s : State) :
    (s.restartLowTest).belt = s.belt := rfl

@[simp] theorem State.restartLowTest_latches (s : State) :
    (s.restartLowTest).latches = s.latches := rfl

@[simp] theorem State.restartLowTest_heads (s : State) :
    (s.restartLowTest).heads = s.heads := rfl

@[simp] theorem State.restartLowTest_store (s : State) :
    (s.restartLowTest).store = s.store := rfl

@[simp] theorem State.restartLowTest_banks (s : State) :
    (s.restartLowTest).banks = s.banks := rfl

@[simp] theorem State.restartLowTest_health (s : State) :
    (s.restartLowTest).health = s.health := rfl

@[simp] theorem State.restartLowTest_link (s : State) :
    (s.restartLowTest).link = s.link := rfl

@[simp] theorem State.restartLowTest_cursors (s : State) :
    (s.restartLowTest).cursors = s.cursors := rfl

@[simp] theorem State.restartLowTest_pending (s : State) :
    (s.restartLowTest).pending = s.pending := rfl

/-! ### darkenBanks -/

@[simp] theorem State.darkenBanks_powered (s : State) :
    (s.darkenBanks).powered = s.powered := by simp only [State.darkenBanks]

@[simp] theorem State.darkenBanks_timeBase (s : State) :
    (s.darkenBanks).timeBase = s.timeBase := by simp only [State.darkenBanks]

@[simp] theorem State.darkenBanks_fireEnable (s : State) :
    (s.darkenBanks).fireEnable = s.fireEnable := by simp only [State.darkenBanks]

@[simp] theorem State.darkenBanks_run (s : State) :
    (s.darkenBanks).run = s.run := by simp only [State.darkenBanks]

@[simp] theorem State.darkenBanks_flags (s : State) :
    (s.darkenBanks).flags = s.flags := by simp only [State.darkenBanks]

@[simp] theorem State.darkenBanks_settings (s : State) :
    (s.darkenBanks).settings = s.settings := by simp only [State.darkenBanks]

@[simp] theorem State.darkenBanks_stored (s : State) :
    (s.darkenBanks).stored = s.stored := by simp only [State.darkenBanks]

@[simp] theorem State.darkenBanks_belt (s : State) :
    (s.darkenBanks).belt = s.belt := by simp only [State.darkenBanks]

@[simp] theorem State.darkenBanks_latches (s : State) :
    (s.darkenBanks).latches = s.latches := by simp only [State.darkenBanks]

@[simp] theorem State.darkenBanks_heads (s : State) :
    (s.darkenBanks).heads = s.heads := by simp only [State.darkenBanks]

@[simp] theorem State.darkenBanks_store (s : State) :
    (s.darkenBanks).store = s.store := by simp only [State.darkenBanks]

@[simp] theorem State.darkenBanks_health (s : State) :
    (s.darkenBanks).health = s.health := by simp only [State.darkenBanks]

@[simp] theorem State.darkenBanks_supply (s : State) :
    (s.darkenBanks).supply = s.supply := by simp only [State.darkenBanks]

@[simp] theorem State.darkenBanks_link (s : State) :
    (s.darkenBanks).link = s.link := by simp only [State.darkenBanks]

@[simp] theorem State.darkenBanks_cursors (s : State) :
    (s.darkenBanks).cursors = s.cursors := by simp only [State.darkenBanks]

@[simp] theorem State.darkenBanks_pending (s : State) :
    (s.darkenBanks).pending = s.pending := by simp only [State.darkenBanks]

/-! ### takeLevels -/

@[simp] theorem State.takeLevels_powered (s : State) (a b : Bool) :
    (s.takeLevels a b).powered = s.powered := rfl

@[simp] theorem State.takeLevels_timeBase (s : State) (a b : Bool) :
    (s.takeLevels a b).timeBase = s.timeBase := rfl

@[simp] theorem State.takeLevels_fireEnable (s : State) (a b : Bool) :
    (s.takeLevels a b).fireEnable = s.fireEnable := rfl

@[simp] theorem State.takeLevels_run (s : State) (a b : Bool) :
    (s.takeLevels a b).run = s.run := rfl

@[simp] theorem State.takeLevels_flags (s : State) (a b : Bool) :
    (s.takeLevels a b).flags = s.flags := rfl

@[simp] theorem State.takeLevels_settings (s : State) (a b : Bool) :
    (s.takeLevels a b).settings = s.settings := rfl

@[simp] theorem State.takeLevels_stored (s : State) (a b : Bool) :
    (s.takeLevels a b).stored = s.stored := rfl

@[simp] theorem State.takeLevels_latches (s : State) (a b : Bool) :
    (s.takeLevels a b).latches = s.latches := rfl

@[simp] theorem State.takeLevels_heads (s : State) (a b : Bool) :
    (s.takeLevels a b).heads = s.heads := rfl

@[simp] theorem State.takeLevels_store (s : State) (a b : Bool) :
    (s.takeLevels a b).store = s.store := rfl

@[simp] theorem State.takeLevels_banks (s : State) (a b : Bool) :
    (s.takeLevels a b).banks = s.banks := rfl

@[simp] theorem State.takeLevels_health (s : State) (a b : Bool) :
    (s.takeLevels a b).health = s.health := rfl

@[simp] theorem State.takeLevels_supply (s : State) (a b : Bool) :
    (s.takeLevels a b).supply = s.supply := rfl

@[simp] theorem State.takeLevels_link (s : State) (a b : Bool) :
    (s.takeLevels a b).link = s.link := rfl

@[simp] theorem State.takeLevels_cursors (s : State) (a b : Bool) :
    (s.takeLevels a b).cursors = s.cursors := rfl

@[simp] theorem State.takeLevels_pending (s : State) (a b : Bool) :
    (s.takeLevels a b).pending = s.pending := rfl

/-! ### What the updates write -/

@[simp] theorem State.bank_setBank (s : State) (b : BankId) (v : Bank) : (s.setBank b v).bank b = v := by
  simp [State.setBank, State.bank]

theorem State.bank_setBank_ne (s : State) {b c : BankId} (v : Bank) (h : c ≠ b) :
    (s.setBank b v).bank c = s.bank c := by
  have : (b : Nat) ≠ (c : Nat) := fun e => h (Fin.ext e.symm)
  simp [State.setBank, State.bank, this]

@[simp] theorem State.bank_modBank (s : State) (b : BankId) (f : Bank → Bank) :
    (s.modBank b f).bank b = f (s.bank b) := by simp [State.modBank]

theorem State.bank_modBank_ne (s : State) {b c : BankId} (f : Bank → Bank) (h : c ≠ b) :
    (s.modBank b f).bank c = s.bank c := State.bank_setBank_ne s _ h

@[simp] theorem State.nozzle_setNozzle (s : State) (n : NozzleId) (v : Nozzle) :
    (s.setNozzle n v).nozzle n = v := by simp [State.setNozzle, State.nozzle]

theorem State.nozzle_setNozzle_ne (s : State) {n m : NozzleId} (v : Nozzle) (h : m ≠ n) :
    (s.setNozzle n v).nozzle m = s.nozzle m := by
  have : (n : Nat) ≠ (m : Nat) := fun e => h (Fin.ext e.symm)
  simp [State.setNozzle, State.nozzle, this]

@[simp] theorem Latches.get_put (l : Latches) (c : Channel) (v : Latch) : (l.put c v).get c = v := by
  cases c <;> rfl

theorem Latches.get_put_ne (l : Latches) {c d : Channel} (v : Latch) (h : d ≠ c) :
    (l.put c v).get d = l.get d := by cases c <;> cases d <;> first | rfl | exact absurd rfl h

@[simp] theorem Heads.get_put (l : Heads) (c : Head) (v : HeadStatus) : (l.put c v).get c = v := by
  cases c <;> rfl

/-- A flag of the set, as a bit of it. -/
theorem State.flag_setFlag (s : State) (f g : Flag) :
    (s.setFlag f).flag g = (s.flag g || decide (g = f)) := by
  cases f <;> cases g <;> simp [State.flag, State.setFlag, Flag.mask, Flag.position]

end Sys2Proof.Machine
end

