-- ==== Sys2Proof/Laws/BankSide.lean ====
section
/-!
SUPPORT. What the banks, the store, the planner and the purge logic can change at all, said once:
`BankSide s t` holds of every shared operation of those blocks, and later proofs cite it.
-/

namespace Sys2Proof.Machine

/-- The run state moves on from DRAIN by an empty store (R157) and from CONDITIONING by the readiness
test (R155), and in no other way. -/
def RunState.moved (r q : RunState) : Prop :=
  q = r ∨ (r = .drain ∧ q = .setup) ∨ (r = .conditioning ∧ q = .run)

/-- `t` differs from `s` only in the store, the banks, the health map, flags newly set, the cursors of
TRACK and PULSES, and a run state that has moved on. -/
structure BankSide (s t : State) : Prop where
  powered : t.powered = s.powered
  timeBase : t.timeBase = s.timeBase
  fireEnable : t.fireEnable = s.fireEnable
  settings : t.settings = s.settings
  stored : t.stored = s.stored
  belt : t.belt = s.belt
  latches : t.latches = s.latches
  heads : t.heads = s.heads
  supply : t.supply = s.supply
  link : t.link = s.link
  pending : t.pending = s.pending
  run : s.run.moved t.run
  grow : ∀ i, s.flags.getLsbD i = true → t.flags.getLsbD i = true
  carried : ∀ i, t.flags.getLsbD i = true → s.flags.getLsbD i = true ∨ i < 24
  pressureLow : t.flag .pressureLow = s.flag .pressureLow
  latchCursor : t.cursors.latch = s.cursors.latch
  routeCursor : t.cursors.route = s.cursors.route
  bankCursor : t.cursors.bank = s.cursors.bank
  nozzleCursor : t.cursors.nozzle = s.cursors.nozzle
  tallyCursor : t.cursors.tally = s.cursors.tally
  currentTable : t.cursors.current = s.cursors.current

theorem RunState.moved_refl (r : RunState) : r.moved r := Or.inl rfl

theorem RunState.moved_trans {a b c : RunState} (h : a.moved b) (k : b.moved c) : a.moved c := by
  unfold RunState.moved at *
  rcases h with rfl | ⟨rfl, rfl⟩ | ⟨rfl, rfl⟩ <;> rcases k with rfl | ⟨h, _⟩ | ⟨h, _⟩ <;> simp_all

namespace BankSide

theorem refl (s : State) : BankSide s s := by
  constructor <;> first | rfl | exact RunState.moved_refl _ | exact fun _ h => h | exact fun _ h => Or.inl h

theorem trans {s t u : State} (h : BankSide s t) (k : BankSide t u) : BankSide s u where
  powered := k.powered.trans h.powered
  timeBase := k.timeBase.trans h.timeBase
  fireEnable := k.fireEnable.trans h.fireEnable
  settings := k.settings.trans h.settings
  stored := k.stored.trans h.stored
  belt := k.belt.trans h.belt
  latches := k.latches.trans h.latches
  heads := k.heads.trans h.heads
  supply := k.supply.trans h.supply
  link := k.link.trans h.link
  pending := k.pending.trans h.pending
  run := RunState.moved_trans h.run k.run
  grow := fun i x => k.grow i (h.grow i x)
  carried := fun i x => (k.carried i x).elim (h.carried i) Or.inr
  pressureLow := k.pressureLow.trans h.pressureLow
  latchCursor := k.latchCursor.trans h.latchCursor
  routeCursor := k.routeCursor.trans h.routeCursor
  bankCursor := k.bankCursor.trans h.bankCursor
  nozzleCursor := k.nozzleCursor.trans h.nozzleCursor
  tallyCursor := k.tallyCursor.trans h.tallyCursor
  currentTable := k.currentTable.trans h.currentTable

/-- A fold of steps that each keep to the bank side keeps to it. -/
theorem foldl {α : Type} {f : State → α → State} (h : ∀ t a, BankSide t (f t a)) (l : List α)
    (s : State) : BankSide s (l.foldl f s) := by
  induction l generalizing s with
  | nil => exact refl s
  | cons a l ih => exact (h s a).trans (ih (f s a))

/-- An update of store, banks and health map alone, with the TRACK and PULSES cursors. -/
theorem of_parts (s : State) (store : Store) (banks : Vector Bank 16) (health : Vector Nozzle 128)
    (track : Cursor) (pulses : Vector Cursor 16) :
    BankSide s { s with
      store := store, banks := banks, health := health
      cursors := { s.cursors with track := track, pulses := pulses } } := by
  constructor <;> first | rfl | exact RunState.moved_refl _ | exact fun _ h => h | exact fun _ h => Or.inl h

theorem setBank (s : State) (b : BankId) (v : Bank) : BankSide s (s.setBank b v) := of_parts s _ _ _ _ _

theorem modBank (s : State) (b : BankId) (f : Bank → Bank) : BankSide s (s.modBank b f) :=
  of_parts s _ _ _ _ _

theorem modEntry (s : State) (b : BankId) (id : TrackId) (f : Entry → Entry) :
    BankSide s (s.modEntry b id f) := of_parts s _ _ _ _ _

theorem setNozzle (s : State) (n : NozzleId) (v : Nozzle) : BankSide s (s.setNozzle n v) :=
  of_parts s _ _ _ _ _

theorem modTally (s : State) (c : ClassCode) (f : ClassTally → ClassTally) :
    BankSide s (s.modTally c f) := of_parts s _ _ _ _ _

theorem modGlobals (s : State) (f : GlobalTally → GlobalTally) : BankSide s (s.modGlobals f) :=
  of_parts s _ _ _ _ _

theorem countCause (s : State) (c : Cause) : BankSide s (s.countCause c) := of_parts s _ _ _ _ _

theorem modRecord (s : State) (id : TrackId) (f : Record → Record) : BankSide s (s.modRecord id f) :=
  of_parts s _ _ _ _ _

theorem setPulsesCursor (s : State) (b : BankId) (c : Cursor) : BankSide s (s.setPulsesCursor b c) :=
  of_parts s _ _ _ _ _

theorem setFlag (s : State) (f : Flag) (h : f ≠ .pressureLow) : BankSide s (s.setFlag f) := by
  constructor
  case grow => intro i hi; simp [State.setFlag, hi]
  case carried =>
    intro i hi
    simp only [State.setFlag, BitVec.getLsbD_or, Bool.or_eq_true] at hi
    rcases hi with hi | hi
    · exact Or.inl hi
    · right
      simp only [Flag.mask, BitVec.getLsbD_twoPow, Bool.and_eq_true, decide_eq_true_eq] at hi
      have : f.position < 24 := by cases f <;> decide
      omega
  case pressureLow =>
    rw [State.flag_setFlag]
    simp [h.symm]
  case run => exact RunState.moved_refl _
  all_goals rfl

theorem setFlagIf (s : State) (c : Bool) (f : Flag) (h : f ≠ .pressureLow) :
    BankSide s (s.setFlagIf c f) := by
  unfold State.setFlagIf; split
  · exact setFlag s f h
  · exact refl s

/-! ### The Track Store (chapter 3) -/

theorem dropEntries (s : State) (id : TrackId) (b : BankId) : BankSide s (s.dropEntries id b) := by
  unfold State.dropEntries; split
  · exact (modBank _ _ _).trans (setPulsesCursor _ _ _)
  · exact refl s

theorem drainEnd (s : State) : BankSide s s.drainEnd := by
  unfold State.drainEnd; split
  · rename_i h
    constructor <;>
      first
        | rfl
        | exact Or.inr (Or.inl ⟨h.1, rfl⟩)
        | exact fun _ h => h
        | exact fun _ h => Or.inl h
  · exact refl s

theorem removeRecord (s : State) (id : TrackId) : BankSide s (s.removeRecord id) := by
  unfold State.removeRecord
  refine BankSide.trans ?_ (drainEnd _)
  refine BankSide.trans ?_ (foldl (fun t b => dropEntries t id b) allBanks _)
  exact of_parts s _ s.banks s.health _ s.cursors.pulses

theorem retireTest (s : State) (id : TrackId) : BankSide s (s.retireTest id) := by
  unfold State.retireTest; split
  · exact refl s
  · split
    · exact (modTally _ _ _).trans (removeRecord _ _)
    · exact refl s

theorem retireAll (s : State) : BankSide s s.retireAll :=
  by
  unfold State.retireAll
  exact foldl (fun t (r : Record) => retireTest t r.id) _ s

theorem endRecord (s : State) (id : TrackId) (st : RecState) (c : Option Cause) :
    BankSide s (s.endRecord id st c) := (modRecord _ _ _).trans (retireTest _ _)

theorem outcomeRule (s : State) (id : TrackId) : BankSide s (s.outcomeRule id) := by
  unfold State.outcomeRule; split
  · exact refl s
  · split
    · exact refl s
    · split
      · exact endRecord _ _ _ _
      · exact refl s

theorem reportPart (s : State) (id : TrackId) (b : BankId) (r : PartResult) (l : Option Level) :
    BankSide s (s.reportPart id b r l) := by
  unfold State.reportPart; split
  · exact refl s
  · split
    · simp only
      split
      · exact ((modRecord _ _ _).trans (countCause _ _)).trans (outcomeRule _ _)
      · exact (modRecord _ _ _).trans (outcomeRule _ _)
    · exact refl s

theorem createRecord (s : State) (f : TrackId → Nat → Record) : BankSide s (s.createRecord f) :=
  of_parts s _ s.banks s.health s.cursors.track s.cursors.pulses

theorem resolveJoining (s : State) : BankSide s s.resolveJoining :=
  of_parts s _ s.banks s.health s.cursors.track s.cursors.pulses

/-! ### Health, fence and the drive of a nozzle (chapter 8) -/

theorem readinessTest (s : State) : BankSide s s.readinessTest := by
  unfold State.readinessTest; split
  · rename_i h
    constructor <;>
      first
        | rfl
        | exact Or.inr (Or.inr ⟨h.1, rfl⟩)
        | exact fun _ h => h
        | exact fun _ h => Or.inl h
  · exact refl s

theorem fenceBank (s : State) (b : BankId) : BankSide s (s.fenceBank b) := by
  unfold State.fenceBank; split
  · exact refl s
  · exact (((modBank _ _ _).trans (setPulsesCursor _ _ _)).trans
      (foldl (fun t e => reportPart t _ _ _ _) _ _)).trans (readinessTest _)

theorem autoFence (s : State) (b : BankId) : BankSide s (s.autoFence b) := by
  unfold State.autoFence; split
  · exact (fenceBank _ _).trans (setFlag _ _ (by decide))
  · exact refl s

theorem goodCheck (s : State) (b : BankId) (m : Member) : BankSide s (s.goodCheck b m) :=
  setNozzle _ _ _

theorem badCheck (s : State) (b : BankId) (m : Member) : BankSide s (s.badCheck b m) := by
  unfold State.badCheck
  simp only
  split
  · exact ((setNozzle _ _ _).trans (setFlag _ _ (by decide))).trans (autoFence _ _)
  · exact setNozzle _ _ _

theorem openNozzle (s : State) (b : BankId) (m : Member) (t : Time) : BankSide s (s.openNozzle b m t) :=
  modBank _ _ _

theorem drive (s : State) (b : BankId) (m : Member) (t : Time) (c : Coils) :
    BankSide s (s.drive b m t c) := by
  unfold State.drive; split
  · split
    · exact (openNozzle _ _ _ _).trans (goodCheck _ _ _)
    · exact badCheck _ _ _
  · exact refl s

/-! ### Purges (chapter 7) -/

theorem purgeMember (b : BankId) (t : Time) (c : Coils) (s : State) (m : Member) :
    BankSide s (State.purgeMember b t c s m) := by
  unfold State.purgeMember; split
  · exact refl s
  · split
    · exact (drive _ _ _ _ _).trans (modBank _ _ _)
    · exact drive _ _ _ _ _

theorem startPurge (s : State) (b : BankId) (k : PurgeKind) (c : Coils) :
    BankSide s (s.startPurge b k c) := by
  unfold State.startPurge
  simp only
  split
  · exact ((modBank _ _ _).trans (setFlag _ _ (by decide))).trans (foldl (purgeMember _ _ _) _ _)
  · exact (modBank _ _ _).trans (foldl (purgeMember _ _ _) _ _)

theorem purgeTest (c : Coils) (s : State) (b : BankId) : BankSide s (State.purgeTest c s b) := by
  unfold State.purgeTest
  simp only
  split
  · split
    · exact startPurge _ _ _ _
    · split
      · exact startPurge _ _ _ _
      · exact refl s
  · exact refl s

theorem purgeTests (s : State) (c : Coils) : BankSide s (s.purgeTests c) := foldl (purgeTest c) _ s

theorem settle (s : State) (b : BankId) : BankSide s (s.settle b) := modBank _ _ _

theorem endPurge (s : State) (b : BankId) (h : Bool) : BankSide s (s.endPurge b h) :=
  (modBank _ _ _).trans (settle _ _)

/-! ### The pulse queue (chapter 6) -/

theorem removeEntry (s : State) (b : BankId) (id : TrackId) : BankSide s (s.removeEntry b id) :=
  (modBank _ _ _).trans (setPulsesCursor _ _ _)

theorem finishEntry (s : State) (b : BankId) (id : TrackId) (r : PartResult) :
    BankSide s (s.finishEntry b id r) := (removeEntry _ _ _).trans (reportPart _ _ _ _ _)

theorem loseEntry (s : State) (b : BankId) (id : TrackId) (c : Cause) :
    BankSide s (s.loseEntry b id c) := (finishEntry _ _ _ _).trans (setFlagIf _ _ _ (by decide))

theorem startSwitch (s : State) (b : BankId) (l : Level) : BankSide s (s.startSwitch b l) :=
  modBank _ _ _

theorem headTest (s : State) (b : BankId) : BankSide s (s.headTest b) := by
  unfold State.headTest; split
  · split
    · exact startSwitch _ _ _
    · exact refl s
  · exact refl s

theorem markHit (s : State) (b : BankId) (id : TrackId) : BankSide s (s.markHit b id) := modEntry _ _ _ _

theorem waveMember (b : BankId) (id : TrackId) (t : Time) (c : Coils) (s : State) (m : Member) :
    BankSide s (State.waveMember b id t c s m) := by
  unfold State.waveMember; split
  · exact refl s
  · split
    · exact (openNozzle _ _ _ _).trans (markHit _ _ _)
    · split
      · exact (drive _ _ _ _ _).trans (markHit _ _ _)
      · exact drive _ _ _ _ _

theorem openWave (s : State) (b : BankId) (id : TrackId) (c : Coils) :
    BankSide s (s.openWave b id c) := by
  unfold State.openWave; split
  · exact refl s
  · split
    · exact refl s
    · exact (modEntry _ _ _ _).trans (foldl (waveMember _ _ _ _) _ _)

theorem openEntry (s : State) (b : BankId) (id : TrackId) (d : Nat) (c : Coils) :
    BankSide s (s.openEntry b id d c) := by
  unfold State.openEntry; split
  · exact refl s
  · exact (((modEntry _ _ _ _).trans (modBank _ _ _)).trans (reportPart _ _ _ _ _)).trans
      (openWave _ _ _ _)

theorem enqueue (s : State) (b : BankId) (o : Offer) (l : Level) : BankSide s (s.enqueue b o l) :=
  ((modBank _ _ _).trans (reportPart _ _ _ _ _)).trans (headTest _ _)

theorem offer (s : State) (b : BankId) (o : Offer) : BankSide s (s.offer b o) := by
  unfold State.offer; split
  · exact enqueue _ _ _ _
  · exact reportPart _ _ _ _ _

theorem trigger (b : BankId) (c : Coils) (s : State) (id : TrackId) :
    BankSide s (State.trigger b c s id) := by
  unfold State.trigger; split
  · exact refl s
  · split
    · simp only
      split
      · exact ((modEntry _ _ _ _).trans (loseEntry _ _ _ _)).trans (headTest _ _)
      · exact (modEntry _ _ _ _).trans (openEntry _ _ _ _ _)
      · exact ((modEntry _ _ _ _).trans (modEntry _ _ _ _)).trans (openEntry _ _ _ _ _)
      · exact (modEntry _ _ _ _).trans (modEntry _ _ _ _)
    · exact refl s

theorem triggerTest (c : Coils) (s : State) (b : BankId) : BankSide s (State.triggerTest c s b) :=
  foldl (trigger b c) _ s

theorem lateStart (b : BankId) (c : Coils) (s : State) (id : TrackId) :
    BankSide s (State.lateStart b c s id) := by
  unfold State.lateStart; split
  · exact refl s
  · repeat' split
    all_goals first | exact loseEntry _ _ _ _ | exact openEntry _ _ _ _ _ | exact refl s

theorem freeBankWork (s : State) (b : BankId) (c : Coils) : BankSide s (s.freeBankWork b c) := by
  unfold State.freeBankWork
  simp only
  split
  · exact (((headTest _ _).trans (foldl (lateStart b c) _ _)).trans (headTest _ _)).trans
      (purgeTest _ _ _)
  · exact headTest _ _

theorem rechargeDone (s : State) (b : BankId) (c : Coils) : BankSide s (s.rechargeDone b c) := by
  unfold State.rechargeDone; split
  · exact startSwitch _ _ _
  · exact (modBank _ _ _).trans (freeBankWork _ _ _)

theorem switchDone (s : State) (b : BankId) (l : Level) (c : Coils) :
    BankSide s (s.switchDone b l c) := (modBank _ _ _).trans (freeBankWork _ _ _)

theorem pulseEnds (s : State) (b : BankId) (e : Entry) : BankSide s (s.pulseEnds b e) := by
  unfold State.pulseEnds
  simp only
  split
  · exact ((modBank _ _ _).trans (finishEntry _ _ _ _)).trans (settle _ _)
  · exact (modBank _ _ _).trans (finishEntry _ _ _ _)

theorem cutEntry (b : BankId) (s : State) (e : Entry) : BankSide s (State.cutEntry b s e) := by
  unfold State.cutEntry; split
  · exact refl s
  · exact loseEntry _ _ _ _
  · split
    · exact loseEntry _ _ _ _
    · exact finishEntry _ _ _ _

theorem cutBank (s : State) (b : BankId) : BankSide s (s.cutBank b) :=
  ((modBank _ _ _).trans (foldl (cutEntry b) _ _)).trans (headTest _ _)

/-! ### Conditioning (7.4) -/

theorem atStep (s : State) (b : BankId) (n : Nat) (e : Option Time) : BankSide s (s.atStep b n e) :=
  modBank _ _ _

theorem beginStep7 (b : BankId) (c : Coils) (s : State) : BankSide s (State.beginStep7 b c s) :=
  (((modBank _ _ _).trans (modBank _ _ _)).trans (freeBankWork _ _ _)).trans (readinessTest _)

theorem beginStep6 (b : BankId) (s : State) : BankSide s (State.beginStep6 b s) := atStep _ _ _ _

theorem beginStep5 (b : BankId) (s : State) : BankSide s (State.beginStep5 b s) := by
  unfold State.beginStep5; split
  · exact beginStep6 _ _
  · exact atStep _ _ _ _

theorem stepMember (b : BankId) (t : Time) (c : Coils) (s : State) (m : Member) :
    BankSide s (State.stepMember b t c s m) := by
  unfold State.stepMember; split
  · exact refl s
  · exact drive _ _ _ _ _

theorem purgeStep (b : BankId) (c : Coils) (n : Nat) (s : State) :
    BankSide s (State.purgeStep b c n s) := by
  unfold State.purgeStep; split
  · exact atStep _ _ _ _
  · exact (atStep _ _ _ _).trans (foldl (stepMember b _ c) _ _)

theorem beginStep3 (b : BankId) (c : Coils) (s : State) : BankSide s (State.beginStep3 b c s) := by
  unfold State.beginStep3; split
  · exact purgeStep _ _ _ _
  · exact atStep _ _ _ _

theorem beginStep1 (b : BankId) (c : Coils) (s : State) : BankSide s (State.beginStep1 b c s) := by
  unfold State.beginStep1; repeat' split
  all_goals first | exact atStep _ _ _ _ | exact purgeStep _ _ _ _

theorem retryStep (c : Coils) (s : State) (b : BankId) : BankSide s (State.retryStep c s b) := by
  unfold State.retryStep; split
  · exact beginStep1 _ _ _
  · exact purgeStep _ _ _ _
  · exact purgeStep _ _ _ _
  · exact refl s

theorem stepDone (s : State) (b : BankId) (n : Nat) (c : Coils) : BankSide s (s.stepDone b n c) := by
  unfold State.stepDone; split
  · exact (modBank _ _ _).trans (purgeStep _ _ _ _)
  · exact (modBank _ _ _).trans (beginStep3 _ _ _)
  · exact purgeStep _ _ _ _
  · exact (modBank _ _ _).trans (beginStep5 _ _)
  · exact beginStep6 _ _
  · exact (modBank _ _ _).trans (beginStep7 _ _ _)
  · exact refl s

theorem beginConditioning (c : Coils) (s : State) (b : BankId) :
    BankSide s (State.beginConditioning c s b) :=
  ((modBank _ _ _).trans (modBank _ _ _)).trans (beginStep1 _ _ _)

theorem shedEnd (s : State) (c : Coils) : BankSide s (s.shedEnd c) :=
  (foldl (fun t b => (headTest t b).trans (retryStep c _ b)) _ s).trans (purgeTests _ _)

theorem afterShed (s : State) (w : Bool) (c : Coils) : BankSide s (s.afterShed w c) := by
  unfold State.afterShed; split
  · exact shedEnd _ _
  · exact refl s

/-! ### The Planner (chapter 5) -/

theorem missRecord (s : State) (id : TrackId) (c : Cause) : BankSide s (s.missRecord id c) :=
  (countCause _ _).trans (endRecord _ _ _ _)

theorem planPass (s : State) (r : Record) (q : Route) (bar : Bar) : BankSide s (s.planPass r q bar) := by
  unfold State.planPass; split
  · split
    · exact missRecord _ _ _
    · exact refl s
  · simp only
    split
    · exact missRecord _ _ _
    · split
      · exact (modRecord _ _ _).trans (missRecord _ _ _)
      · exact (modRecord _ _ _).trans (foldl (fun t p => offer t _ _) _ _)

theorem dealReady (s : State) (id : TrackId) : BankSide s (s.dealReady id) := by
  unfold State.dealReady; split
  · exact refl s
  · split
    · split
      · exact endRecord _ _ _ _
      · exact planPass _ _ _ _
    · exact refl s

theorem planningEvent (s : State) (id : TrackId) : BankSide s (s.planningEvent id) :=
  (modRecord _ _ _).trans (dealReady _ _)

theorem horizonTest (s : State) (id : TrackId) : BankSide s (s.horizonTest id) := by
  unfold State.horizonTest; split
  · exact refl s
  · split
    · exact planningEvent _ _
    · exact refl s

theorem horizonAll (s : State) : BankSide s s.horizonAll := by
  unfold State.horizonAll
  exact foldl (fun t (r : Record) => planningEvent t r.id) _ s

theorem planHeld (s : State) : BankSide s s.planHeld := by
  unfold State.planHeld
  exact foldl (fun t (r : Record) => dealReady t r.id) _ s

theorem addRecord (s : State) (f : TrackId → Nat → Record) (c : Coils) : BankSide s (s.addRecord f c) :=
  ((createRecord s f).trans (horizonTest _ _)).trans (purgeTests _ _)

theorem dropReport (s : State) (p : HeadPart) : BankSide s (s.dropReport p) :=
  (modTally _ _ _).trans (setFlag _ .storeFull (by decide))

theorem createOrDrop (s : State) (p : HeadPart) (f : TrackId → Nat → Record) (c : Coils) :
    BankSide s (s.createOrDrop p f c) := by
  unfold State.createOrDrop
  split
  · exact dropReport _ _
  · exact addRecord _ _ _

theorem join (s : State) (r : Record) (p : HeadPart) (a : Pos) (c : Coils) : BankSide s (s.join r p a c) :=
  ((of_parts s _ _ _ _ _).trans (horizonTest _ _)).trans (purgeTests _ _)

theorem handReport (s : State) (h : Head) (p : HeadPart) (c : Coils) : BankSide s (s.handReport h p c) := by
  unfold State.handReport
  split
  · cases h
    · exact createOrDrop _ _ _ _
    · dsimp only [State.reportB]
      split
      · exact join _ _ _ _ _
      · exact createOrDrop _ _ _ _
  · exact refl s

theorem joiningLost (s : State) (c : Coils) : BankSide s (s.joiningLost c) := by
  unfold State.joiningLost
  split
  · exact (resolveJoining s).trans (purgeTests _ _)
  · exact refl s

/-- What a count hands to the store, the banks and the purge logic (R4). -/
theorem handCount (s : State) (fwd : Bool) (c : Coils) : BankSide s (s.handCount fwd c) := by
  unfold State.handCount
  refine BankSide.trans (BankSide.trans ((horizonAll s).trans (retireAll _)) ?_) (purgeTests _ c)
  split
  · exact foldl (triggerTest c) _ _
  · exact refl _

/-! ### RUN (R154) -/

theorem conditionDark (c : Coils) (s : State) (b : BankId) : BankSide s (State.conditionDark c s b) := by
  unfold State.conditionDark; split
  · exact beginConditioning _ _ _
  · exact refl s

/-- SHED stands as it did. -/
theorem shed {s t : State} (h : BankSide s t) : t.shed = s.shed := by
  simp [State.shed, h.pressureLow, h.settings]

end BankSide

end Sys2Proof.Machine
end

