-- ==== Sys2Proof/Laws/Event.lean ====
section
/-!
SUPPORT. What closes an event: raising notices and giving a free transmitter work changes the link and the
flag NOTICE_DROPPED alone; and the three ways a command is carried out, as equations.
-/

namespace Sys2Proof.Machine

/-- A notice raised changes only the link and NOTICE_DROPPED (R180). -/
theorem State.raise_eq (s : State) (k : NoticeKind) :
    ∃ l fl, s.raise k = { s with link := l, flags := fl } := by
  unfold State.raise
  simp only
  split
  · exact ⟨_, _, rfl⟩
  · split
    · exact ⟨_, _, rfl⟩
    · exact ⟨_, _, rfl⟩

/-- The transmitter given work changes only the link (R171). -/
theorem State.transmit_eq (s : State) : ∃ l, s.transmit = { s with link := l } := by
  unfold State.transmit
  split
  · exact ⟨_, rfl⟩
  · exact ⟨_, rfl⟩
  · exact ⟨_, rfl⟩
  · split
    · exact ⟨_, rfl⟩
    · exact ⟨_, rfl⟩

/-- The four ways an event may raise notices (R180). -/
theorem raiseNotices_cases (b a : State) :
    raiseNotices b a = a ∨ raiseNotices b a = a.raise (.state a.run) ∨
      raiseNotices b a = a.raise (.flag (newlySet b.flags a.flags)) ∨
      raiseNotices b a = (a.raise (.flag (newlySet b.flags a.flags))).raise (.state a.run) := by
  unfold raiseNotices
  simp only
  by_cases hf : newlySet b.flags a.flags = 0 <;> by_cases hr : b.run = a.run
  · exact Or.inl (by rw [if_pos hf, if_pos hr])
  · exact Or.inr (Or.inl (by rw [if_pos hf, if_neg hr]))
  · exact Or.inr (Or.inr (Or.inl (by rw [if_neg hf, if_pos hr])))
  · exact Or.inr (Or.inr (Or.inr (by rw [if_neg hf, if_neg hr])))

/-- The notices of an event change only the link and NOTICE_DROPPED (R180). -/
theorem raiseNotices_eq (b a : State) : ∃ l fl, raiseNotices b a = { a with link := l, flags := fl } := by
  rcases raiseNotices_cases b a with h | h | h | h
  · exact ⟨_, _, h⟩
  · rw [h]; exact State.raise_eq _ _
  · rw [h]; exact State.raise_eq _ _
  · obtain ⟨l, fl, h1⟩ := State.raise_eq a (.flag (newlySet b.flags a.flags))
    obtain ⟨l', fl', h2⟩ := State.raise_eq (a.raise (.flag (newlySet b.flags a.flags))) (.state a.run)
    exact ⟨l', fl', by rw [h, h2, h1]⟩

/-- What closes an event changes only the link and NOTICE_DROPPED (R171, R180). -/
theorem closeEvent_eq (b a : State) : ∃ l fl, closeEvent b a = { a with link := l, flags := fl } := by
  obtain ⟨l, fl, h⟩ := raiseNotices_eq b a
  obtain ⟨l', h'⟩ := State.transmit_eq (raiseNotices b a)
  exact ⟨l', fl, by unfold closeEvent; rw [h', h]⟩

@[simp] theorem closeEvent_powered (b a : State) : (closeEvent b a).powered = a.powered := by
  obtain ⟨l, fl, h⟩ := closeEvent_eq b a
  rw [h]

@[simp] theorem closeEvent_timeBase (b a : State) : (closeEvent b a).timeBase = a.timeBase := by
  obtain ⟨l, fl, h⟩ := closeEvent_eq b a
  rw [h]

@[simp] theorem closeEvent_fireEnable (b a : State) : (closeEvent b a).fireEnable = a.fireEnable := by
  obtain ⟨l, fl, h⟩ := closeEvent_eq b a
  rw [h]

@[simp] theorem closeEvent_run (b a : State) : (closeEvent b a).run = a.run := by
  obtain ⟨l, fl, h⟩ := closeEvent_eq b a
  rw [h]

@[simp] theorem closeEvent_settings (b a : State) : (closeEvent b a).settings = a.settings := by
  obtain ⟨l, fl, h⟩ := closeEvent_eq b a
  rw [h]

@[simp] theorem closeEvent_stored (b a : State) : (closeEvent b a).stored = a.stored := by
  obtain ⟨l, fl, h⟩ := closeEvent_eq b a
  rw [h]

@[simp] theorem closeEvent_belt (b a : State) : (closeEvent b a).belt = a.belt := by
  obtain ⟨l, fl, h⟩ := closeEvent_eq b a
  rw [h]

@[simp] theorem closeEvent_latches (b a : State) : (closeEvent b a).latches = a.latches := by
  obtain ⟨l, fl, h⟩ := closeEvent_eq b a
  rw [h]

@[simp] theorem closeEvent_heads (b a : State) : (closeEvent b a).heads = a.heads := by
  obtain ⟨l, fl, h⟩ := closeEvent_eq b a
  rw [h]

@[simp] theorem closeEvent_store (b a : State) : (closeEvent b a).store = a.store := by
  obtain ⟨l, fl, h⟩ := closeEvent_eq b a
  rw [h]

@[simp] theorem closeEvent_banks (b a : State) : (closeEvent b a).banks = a.banks := by
  obtain ⟨l, fl, h⟩ := closeEvent_eq b a
  rw [h]

@[simp] theorem closeEvent_health (b a : State) : (closeEvent b a).health = a.health := by
  obtain ⟨l, fl, h⟩ := closeEvent_eq b a
  rw [h]

@[simp] theorem closeEvent_supply (b a : State) : (closeEvent b a).supply = a.supply := by
  obtain ⟨l, fl, h⟩ := closeEvent_eq b a
  rw [h]

@[simp] theorem closeEvent_cursors (b a : State) : (closeEvent b a).cursors = a.cursors := by
  obtain ⟨l, fl, h⟩ := closeEvent_eq b a
  rw [h]

@[simp] theorem closeEvent_pending (b a : State) : (closeEvent b a).pending = a.pending := by
  obtain ⟨l, fl, h⟩ := closeEvent_eq b a
  rw [h]

/-- Nothing newly set and no change of run state: only the transmitter is given work (R171, R180). -/
theorem closeEvent_quiet {b a : State} (hf : a.flags = b.flags) (hr : a.run = b.run) :
    closeEvent b a = a.transmit := by
  have h : newlySet b.flags a.flags = 0 := by rw [hf]; simp [newlySet]
  simp [closeEvent, raiseNotices, h, hr]

/-- The receivers and the request queue stand through a raised notice. -/
theorem State.raise_link (s : State) (k : NoticeKind) :
    (s.raise k).link.requests = s.link.requests ∧ (s.raise k).link.rxControl = s.link.rxControl ∧
      (s.raise k).link.rxHeadA = s.link.rxHeadA ∧ (s.raise k).link.rxHeadB = s.link.rxHeadB ∧
      (s.raise k).link.service = s.link.service ∧
      (s.raise k).link.transmitter = s.link.transmitter := by
  unfold State.raise
  simp only
  split
  · exact ⟨rfl, rfl, rfl, rfl, rfl, rfl⟩
  · split <;> exact ⟨rfl, rfl, rfl, rfl, rfl, rfl⟩

/-- The receivers and the request queue stand through the transmitter's work. -/
theorem State.transmit_link (s : State) :
    s.transmit.link.requests = s.link.requests ∧ s.transmit.link.rxControl = s.link.rxControl ∧
      s.transmit.link.rxHeadA = s.link.rxHeadA ∧ s.transmit.link.rxHeadB = s.link.rxHeadB := by
  unfold State.transmit
  split
  · exact ⟨rfl, rfl, rfl, rfl⟩
  · exact ⟨rfl, rfl, rfl, rfl⟩
  · exact ⟨rfl, rfl, rfl, rfl⟩
  · split <;> exact ⟨rfl, rfl, rfl, rfl⟩

/-- The receivers and the request queue stand through the notices of an event. -/
theorem raiseNotices_link (b a : State) :
    (raiseNotices b a).link.requests = a.link.requests ∧
      (raiseNotices b a).link.rxControl = a.link.rxControl ∧
      (raiseNotices b a).link.rxHeadA = a.link.rxHeadA ∧
      (raiseNotices b a).link.rxHeadB = a.link.rxHeadB := by
  rcases raiseNotices_cases b a with h | h | h | h <;> rw [h]
  · exact ⟨rfl, rfl, rfl, rfl⟩
  · have k := State.raise_link a (.state a.run)
    exact ⟨k.1, k.2.1, k.2.2.1, k.2.2.2.1⟩
  · have k := State.raise_link a (.flag (newlySet b.flags a.flags))
    exact ⟨k.1, k.2.1, k.2.2.1, k.2.2.2.1⟩
  · have h := State.raise_link a (.flag (newlySet b.flags a.flags))
    have k := State.raise_link (a.raise (.flag (newlySet b.flags a.flags))) (.state a.run)
    exact ⟨k.1.trans h.1, k.2.1.trans h.2.1, k.2.2.1.trans h.2.2.1, k.2.2.2.1.trans h.2.2.2.1⟩

@[simp] theorem closeEvent_requests (b a : State) :
    (closeEvent b a).link.requests = a.link.requests :=
  (State.transmit_link _).1.trans (raiseNotices_link b a).1

@[simp] theorem closeEvent_rxControl (b a : State) :
    (closeEvent b a).link.rxControl = a.link.rxControl :=
  (State.transmit_link _).2.1.trans (raiseNotices_link b a).2.1

@[simp] theorem closeEvent_rxHeadA (b a : State) :
    (closeEvent b a).link.rxHeadA = a.link.rxHeadA :=
  (State.transmit_link _).2.2.1.trans (raiseNotices_link b a).2.2.1

@[simp] theorem closeEvent_rxHeadB (b a : State) :
    (closeEvent b a).link.rxHeadB = a.link.rxHeadB :=
  (State.transmit_link _).2.2.2.trans (raiseNotices_link b a).2.2.2

/-- A flag other than NOTICE_DROPPED stands through a raised notice. -/
theorem State.raise_flag (s : State) (k : NoticeKind) {f : Flag} (hf : f ≠ .noticeDropped) :
    (s.raise k).flag f = s.flag f := by
  unfold State.raise
  simp only
  split
  · rfl
  · split
    · rfl
    · rw [State.flag_setFlag]
      simp [hf, State.flag]

theorem State.transmit_flag (s : State) (f : Flag) : s.transmit.flag f = s.flag f := by
  obtain ⟨l, h⟩ := State.transmit_eq s
  rw [h]
  rfl

/-- Every flag but NOTICE_DROPPED stands through the close of an event (R180). -/
theorem closeEvent_flag (b a : State) {f : Flag} (hf : f ≠ .noticeDropped) :
    (closeEvent b a).flag f = a.flag f := by
  unfold closeEvent
  rw [State.transmit_flag]
  rcases raiseNotices_cases b a with h | h | h | h <;> rw [h]
  · exact State.raise_flag _ _ hf
  · exact State.raise_flag _ _ hf
  · exact (State.raise_flag _ _ hf).trans (State.raise_flag _ _ hf)

/-! ### Events and requests as equations -/

/-- An event of a powered part (R169 to R171, R180). -/
theorem event_powered {s : State} (h : s.powered = true) (f : State → State) :
    event s f = .next (closeEvent s (f s)) := by simp [event, h]

/-- A part without supply does nothing at an event. -/
theorem event_unpowered {s : State} (h : s.powered = false) (f : State → State) : event s f = .next s := by
  simp [event, h]

/-- A ready part takes the request at once (R169). -/
theorem State.takeRequest_ready {s : State} (h : s.ready) (f : Frame) : s.takeRequest f = some s := by
  simp [State.takeRequest, h.1, h.2.1, h.2.2]

/-- A request served by a ready part, when its LEN is accepted (R169, R170). -/
theorem serve_ready {s : State} (h : s.ready) {payload : List Byte} {lens : List Nat}
    (hl : lens.contains payload.length = true) (kind tag : Byte) (act : State → Answer × State) :
    serve kind tag payload lens act s =
      .next (closeEvent s
        ((act s).2.handReply ((act s).1.reply kind tag) (act s).1.thenReset)) := by
  unfold serve serveAfter
  simp only [State.takeRequest_ready h, hl]
  rfl

/-- A request whose LEN is not accepted (R170). -/
theorem serve_badLength {s : State} (h : s.ready) {payload : List Byte} {lens : List Nat}
    (hl : lens.contains payload.length = false) (kind tag : Byte) (act : State → Answer × State) :
    serve kind tag payload lens act s =
      .next (closeEvent s (s.handReply ((refusal .length).reply kind tag) false)) := by
  unfold serve serveAfter
  simp only [State.takeRequest_ready h, hl]
  rfl

/-- What a request taken into service leaves the state: the queue of waiting frames alone may be shorter
(R169). -/
theorem State.takeRequest_eq {s t : State} {f : Frame} (h : s.takeRequest f = some t) :
    s.powered = true ∧ s.link.service = .free ∧
      ∃ q, t = { s with link := { s.link with requests := q } } ∧
        (q = s.link.requests ∨ s.link.requests = f :: q) := by
  unfold State.takeRequest at h
  split at h
  · rename_i hp
    simp only [Bool.and_eq_true, decide_eq_true_eq] at hp
    refine ⟨hp.1, hp.2, ?_⟩
    split at h
    · injection h with h
      exact ⟨s.link.requests, by rw [← h], Or.inl rfl⟩
    · rename_i g rest hq
      split at h
      · rename_i hg
        injection h with h
        exact ⟨rest, h.symm, Or.inr (by rw [hq, hg])⟩
      · cases h
  · cases h

end Sys2Proof.Machine
end

