-- ==== Sys2Proof/Laws/PerInstr.lean ====
section
/-!
SUPPORT. What holds of every command as a piece of syntax, one lemma for each: a well-formed command's
frame fits its LEN (R167).
-/

namespace Sys2Proof.Laws.Framing

open Sys2Proof Sys2Proof.Machine

/-- The payload of the frame that a command comes with; an event of a line or a timer comes with none. -/
def framePayload : Instr → Option (List Byte)
  | .frameAccepted _ _ payload => some payload
  | .report _ payload _ => some payload
  | .headState _ payload _ => some payload
  | .unknownKind _ _ payload => some payload
  | c => (requestForm c).map fun f => f.payload

/-- A payload of at most 240 bytes, whose length is told by the LEN byte (R167). -/
def Fits (payload : List Byte) : Prop :=
  payload.length ≤ Config.maxPayload ∧ (BitVec.ofNat 8 payload.length).toNat = payload.length

/-- The frame of a well-formed command fits. -/
def Statement (i : Instr) : Prop :=
  i.wellFormed = true → ∀ payload, framePayload i = some payload → Fits payload

theorem fits_of_payloadFits {payload : List Byte} (h : payloadFits payload = true) : Fits payload := by
  have h240 : payload.length ≤ 240 := of_decide_eq_true h
  exact ⟨h240, by simp only [BitVec.toNat_ofNat]; omega⟩

theorem fits_of_and {payload : List Byte} {more : Bool} (h : (payloadFits payload && more) = true) :
    Fits payload :=
  fits_of_payloadFits (Bool.and_eq_true_iff.mp h).1

theorem powerOn (encA encB fireEn : Bool) : Statement (.powerOn encA encB fireEn) :=
  fun _ _ h => nomatch h

theorem encoderEdge (encA encB : Bool) (coils : Coils) : Statement (.encoderEdge encA encB coils) :=
  fun _ _ h => nomatch h

theorem speedSample (coils : Coils) : Statement (.speedSample coils) :=
  fun _ _ h => nomatch h

theorem stallTimerExpiry (coils : Coils) : Statement (.stallTimerExpiry coils) :=
  fun _ _ h => nomatch h

theorem activeEdge (line : Line) (high : Bool) : Statement (.activeEdge line high) :=
  fun _ _ h => nomatch h

theorem strobeReturn (line : Line) (high : Bool) : Statement (.strobeReturn line high) :=
  fun _ _ h => nomatch h

theorem filterExpiry (line : Line) : Statement (.filterExpiry line) :=
  fun _ _ h => nomatch h

theorem deadlineExpiry (head : Head) (seq : Byte) : Statement (.deadlineExpiry head seq) :=
  fun _ _ h => nomatch h

theorem frameAccepted (kind tag : Byte) (payload : List Byte) :
    Statement (.frameAccepted kind tag payload) :=
  fun h _ hp => Option.some.inj hp ▸ fits_of_payloadFits h

theorem frameFault (port : Port) : Statement (.frameFault port) :=
  fun _ _ h => nomatch h

theorem frameTimerExpiry (port : Port) : Statement (.frameTimerExpiry port) :=
  fun _ _ h => nomatch h

theorem report (head : Head) (payload : List Byte) (coils : Coils) :
    Statement (.report head payload coils) :=
  fun h _ hp => Option.some.inj hp ▸ fits_of_payloadFits h

theorem headState (head : Head) (payload : List Byte) (coils : Coils) :
    Statement (.headState head payload coils) :=
  fun h _ hp => Option.some.inj hp ▸ fits_of_payloadFits h

theorem silenceTimerExpiry (head : Head) (coils : Coils) : Statement (.silenceTimerExpiry head coils) :=
  fun _ _ h => nomatch h

theorem wave (bank : BankId) (track : TrackId) (coils : Coils) : Statement (.wave bank track coils) :=
  fun _ _ h => nomatch h

theorem nozzleClosing (bank : BankId) (member : Member) : Statement (.nozzleClosing bank member) :=
  fun _ _ h => nomatch h

theorem pulseExpiry (bank : BankId) (track : TrackId) : Statement (.pulseExpiry bank track) :=
  fun _ _ h => nomatch h

theorem rechargeExpiry (bank : BankId) (coils : Coils) : Statement (.rechargeExpiry bank coils) :=
  fun _ _ h => nomatch h

theorem switchExpiry (bank : BankId) (coils : Coils) : Statement (.switchExpiry bank coils) :=
  fun _ _ h => nomatch h

theorem fireEnableFall : Statement (.fireEnableFall) :=
  fun _ _ h => nomatch h

theorem fireEnableRise (coils : Coils) : Statement (.fireEnableRise coils) :=
  fun _ _ h => nomatch h

theorem purgeTimerExpiry (bank : BankId) (coils : Coils) : Statement (.purgeTimerExpiry bank coils) :=
  fun _ _ h => nomatch h

theorem purgeExpiry (bank : BankId) : Statement (.purgeExpiry bank) :=
  fun _ _ h => nomatch h

theorem conditioningStepExpiry (bank : BankId) (coils : Coils) :
    Statement (.conditioningStepExpiry bank coils) :=
  fun _ _ h => nomatch h

theorem pressureSample (microamps : Nat) : Statement (.pressureSample microamps) :=
  fun _ _ h => nomatch h

theorem status (tag : Byte) (payload : List Byte) : Statement (.status tag payload) :=
  fun h _ hp => Option.some.inj hp ▸ fits_of_payloadFits h

theorem clearFlags (tag : Byte) (payload : List Byte) (coils : Coils) :
    Statement (.clearFlags tag payload coils) :=
  fun h _ hp => Option.some.inj hp ▸ fits_of_payloadFits h

theorem get (tag : Byte) (payload : List Byte) : Statement (.get tag payload) :=
  fun h _ hp => Option.some.inj hp ▸ fits_of_payloadFits h

theorem set (tag : Byte) (payload : List Byte) (coils : Coils) : Statement (.set tag payload coils) :=
  fun h _ hp => Option.some.inj hp ▸ fits_of_payloadFits h

theorem save (tag : Byte) (payload : List Byte) : Statement (.save tag payload) :=
  fun h _ hp => Option.some.inj hp ▸ fits_of_payloadFits h

theorem saveComplete : Statement (.saveComplete) :=
  fun _ _ h => nomatch h

theorem start (tag : Byte) (payload : List Byte) (coils : Coils) : Statement (.start tag payload coils) :=
  fun h _ hp => Option.some.inj hp ▸ fits_of_payloadFits h

theorem stop (tag : Byte) (payload : List Byte) : Statement (.stop tag payload) :=
  fun h _ hp => Option.some.inj hp ▸ fits_of_payloadFits h

theorem abortRun (tag : Byte) (payload : List Byte) : Statement (.abortRun tag payload) :=
  fun h _ hp => Option.some.inj hp ▸ fits_of_payloadFits h

theorem resume (tag : Byte) (payload : List Byte) : Statement (.resume tag payload) :=
  fun h _ hp => Option.some.inj hp ▸ fits_of_payloadFits h

theorem reset (tag : Byte) (payload : List Byte) : Statement (.reset tag payload) :=
  fun h _ hp => Option.some.inj hp ▸ fits_of_payloadFits h

theorem warmReset : Statement (.warmReset) :=
  fun _ _ h => nomatch h

theorem read (tag : Byte) (payload : List Byte) : Statement (.read tag payload) :=
  fun h _ hp => Option.some.inj hp ▸ fits_of_and h

theorem shortRead (tag : Byte) (payload : List Byte) : Statement (.shortRead tag payload) :=
  fun h _ hp => Option.some.inj hp ▸ fits_of_payloadFits (by
    have h1 : payload.length = 1 := of_decide_eq_true h
    simp [payloadFits, h1, Config.maxPayload])

theorem writeRoute (tag : Byte) (payload : List Byte) : Statement (.writeRoute tag payload) :=
  fun h _ hp => Option.some.inj hp ▸ fits_of_and h

theorem writeNozzle (tag : Byte) (payload : List Byte) : Statement (.writeNozzle tag payload) :=
  fun h _ hp => Option.some.inj hp ▸ fits_of_and h

theorem fence (tag : Byte) (payload : List Byte) : Statement (.fence tag payload) :=
  fun h _ hp => Option.some.inj hp ▸ fits_of_payloadFits h

theorem unfence (tag : Byte) (payload : List Byte) (coils : Coils) :
    Statement (.unfence tag payload coils) :=
  fun h _ hp => Option.some.inj hp ▸ fits_of_payloadFits h

theorem setLevel (tag : Byte) (payload : List Byte) : Statement (.setLevel tag payload) :=
  fun h _ hp => Option.some.inj hp ▸ fits_of_payloadFits h

theorem latchWatch (tag : Byte) (payload : List Byte) : Statement (.latchWatch tag payload) :=
  fun h _ hp => Option.some.inj hp ▸ fits_of_payloadFits h

theorem latchNow (tag : Byte) (payload : List Byte) : Statement (.latchNow tag payload) :=
  fun h _ hp => Option.some.inj hp ▸ fits_of_payloadFits h

theorem inject (tag : Byte) (payload : List Byte) (coils : Coils) : Statement (.inject tag payload coils) :=
  fun h _ hp => Option.some.inj hp ▸ fits_of_payloadFits h

theorem clearTallies (tag : Byte) (payload : List Byte) : Statement (.clearTallies tag payload) :=
  fun h _ hp => Option.some.inj hp ▸ fits_of_payloadFits h

theorem unknownKind (kind tag : Byte) (payload : List Byte) : Statement (.unknownKind kind tag payload) :=
  fun h _ hp => Option.some.inj hp ▸ fits_of_and h

theorem frameSent : Statement (.frameSent) :=
  fun _ _ h => nomatch h

theorem byteReceived (port : Port) (byte : Byte) (stopBit : Bool) (coils : Coils) :
    Statement (.byteReceived port byte stopBit coils) :=
  fun _ _ h => nomatch h

theorem powerFailure : Statement (.powerFailure) :=
  fun _ _ h => nomatch h

end Sys2Proof.Laws.Framing
end

