-- ==== Sys2Proof/Tests/Slice0.lean ====
section
/-!
SUPPORT. The model's own tests: the well-formedness checks refuse what they should, values the manual
works out come out, and single steps of small states do what their rules say.
-/

namespace Sys2Proof.Tests

open Sys2Proof Sys2Proof.Machine

/-! ### Well-formedness: an ill-formed command for each check -/

/-- 241 bytes, one more than a frame holds (R167). -/
def tooLong : List Byte := List.replicate 241 0

theorem test_payload_too_long : (Instr.frameAccepted 1 0 tooLong).wellFormed = false := by decide +kernel
theorem test_report_too_long : (Instr.report .a tooLong 0).wellFormed = false := by decide +kernel
theorem test_request_too_long : (Instr.status 0 tooLong).wellFormed = false := by decide +kernel
theorem test_read_of_length_one : (Instr.read 0 [8]).wellFormed = false := by decide
theorem test_short_read_of_length_six : (Instr.shortRead 0 [0, 0, 2, 0, 0, 1]).wellFormed = false := by
  decide
theorem test_route_write_to_nozzle : (Instr.writeRoute 0 [4, 0, 0, 0, 1, 2]).wellFormed = false := by
  decide
theorem test_nozzle_write_to_route : (Instr.writeNozzle 0 [1, 0, 0, 0, 1, 2]).wellFormed = false := by
  decide
theorem test_unknown_kind_known : (Instr.unknownKind 0x13 0 []).wellFormed = false := by decide
theorem test_well_formed : (Instr.shortRead 0 [8]).wellFormed = true := by decide

/-! ### Values the manual works out -/

/-- R167: the CRC over "123456789". -/
theorem test_crc : crcOf [0x31, 0x32, 0x33, 0x34, 0x35, 0x36, 0x37, 0x38, 0x39] = 0x29B1 := by decide +kernel

/-- R167: a frame of 240 bytes takes 2.46 ms. -/
theorem test_longest_frame : (Frame.mk 0 0 (List.replicate 240 0)).lineTime = 2460 := by decide +kernel

/-- R2: the sequence 00, 10, 11, 01, 00 is a run of forward counts under X4 NORMAL. -/
theorem test_forward_cycle :
    [decodeEdge .x4 .normal false false true false, decodeEdge .x4 .normal true false true true,
      decodeEdge .x4 .normal true true false true, decodeEdge .x4 .normal false true false false] =
      [.counts true, .counts true, .counts true, .counts true] := by decide

/-- R2: under X1 an edge of A counts at B low alone. -/
theorem test_x1_edges :
    [decodeEdge .x1 .normal false false true false, decodeEdge .x1 .normal false true true true] =
      [.counts true, .silent] := by decide

/-- R84: the Lead table. -/
theorem test_lead :
    [leadOf 1536 3000, leadOf 1529 3000, leadOf 1480 3200, leadOf 300 3000, leadOf 16 500,
      leadOf 65535 8000] = [18, 18, 19, 4, 0, 2048] := by decide

/-- R85: the units of the duration table. -/
theorem test_units :
    [unitsOf 1536 240 10, unitsOf 1536 90 16, unitsOf 1536 90 40, unitsOf 1536 40 4,
      unitsOf 4096 20 8] = [87, 41, 57, 16, 5] := by decide

/-- R94: count equivalents at V 1536, 1529 and 256. -/
theorem test_count_equivalents :
    [countEquivalent 1536 3000, countEquivalent 1529 20000, countEquivalent 1529 42000,
      countEquivalent 256 52000, countEquivalent 0 52000] = [18, 120, 251, 52, 0] := by decide

/-- R111: members 4 to 7, MSO 2. -/
theorem test_waves_upper_half :
    [orderMembers .ascending 0xF0, orderMembers .centreOut 0xF0, orderMembers .alternate 0xF0] =
      [[4, 5, 6, 7], [5, 6, 4, 7], [4, 6, 5, 7]] := by decide

/-- R111: members 0, 1, 2, 3 and 5. -/
theorem test_waves_gap :
    [orderMembers .ascending 0x2F, orderMembers .centreOut 0x2F, orderMembers .alternate 0x2F] =
      [[0, 1, 2, 3, 5], [2, 3, 1, 0, 5], [0, 2, 5, 1, 3]] := by decide

/-- R88: the padded spans. -/
theorem test_padded_spans :
    [paddedSpan 13 18 1, paddedSpan 0 2 1, paddedSpan 62 63 2, paddedSpan 40 40 0, paddedSpan 0 63 3] =
      [(12, 19), (0, 3), (60, 63), (40, 40), (0, 63)] := by decide

/-- R139: the reading at the ends of the current's range and outside it. -/
theorem test_readings :
    [readingOf 3999, readingOf 4000, readingOf 20000, readingOf 20001] = [0, 0, 1000, 1000] := by decide

/-- R32: a first column above the last is swapped, codes out of range are brought in. -/
theorem test_clamping :
    (ReportFields.mk 7 70 12 0 40 99).clamped = ⟨7, 12, 63, 1, 0, 15⟩ := by decide

/-- R69: a Dmin of 250 with a Dmax of 180 clamps to 200 and 180. -/
theorem test_pulse_limits :
    (Route.clamped { dmin := 250, dmax := 180 }).dmin = 200 ∧
      (Route.clamped { dmin := 250, dmax := 180 }).dmax = 180 := by decide

/-! ### Small states -/

/-- A powered part in SETUP with nothing under way. -/
def base : State := {}

/-- The same part in RUN. -/
def running : State := { base with run := .run }

theorem base_ready : base.ready := ⟨rfl, rfl, rfl⟩
theorem running_ready : running.ready := ⟨rfl, rfl, rfl⟩
theorem base_noDebts : base.noDebts := by unfold State.noDebts; decide
theorem running_noDebts : running.noDebts := by unfold State.noDebts; decide

/-- A record at arrival position 1000, bound for UP. -/
def piece : Record :=
  { id := 5, born := 0, state := .ready, aPart := none, bPart := none, pArr := 1000, first := 8
    last := 9, length := 40, reached := true
    resolution := some { cls := 3, route := { destination := .up } }, plan := none, missCause := none }

/-- A part of a record with a result. -/
def share (result : PartResult) : Part := { bank := 1, mask := 3, level := .low, result := result }

/-- A WAITING entry of record 5 with its trigger at 1. -/
def entry : Entry :=
  { track := 5, trigger := 1, dp := 20, level := .low, mask := 3, dmin := 4, policy := .yield
    waves := 1, busyEnd := 30, degraded := false, state := .waiting, triggerTime := none, hit := false
    pulse := none }

/-- The same entry open, with so many waves opened. -/
def openEntry (opened : Nat) : Entry :=
  { entry with
    state := .opened, triggerTime := some 0, waves := 2
    pulse := some { duration := 20, firstWave := 0, expiry := 10500, wavesOpened := opened } }

/-- A latch entry. -/
def latched (seq : Byte) : LatchEntry := { seq := seq, position := 100, time := 0, deadline := some 40000 }

/-- The part with the state of one bank replaced. -/
def withBank (s : State) (b : BankId) (k : Bank) : State := s.setBank b k

/-- A transmission of a reply or a notice. -/
def sending (isReply : Bool) : Transmission :=
  { frame := { kind := 0x60, tag := 0, payload := [] }, isReply := isReply, ends := 60 }

/-! ### One step of a small state -/

/-- A test of the next state an outcome holds. -/
def leads (o : Host.Outcome State Fault Refusal) (test : State → Bool) : Bool :=
  match o with
  | .next t => test t
  | .fault _ | .refused _ => false

/-- The payload of the frame being sent. -/
def sent (t : State) : Option (List Byte) := t.link.transmitter.map fun x => x.frame.payload

/-- R28: LATCH-NOW numbers its entry 0 and advances the counter. -/
theorem test_latch_now :
    leads (exec (.latchNow 9 []) base) (fun t => decide
      (t.latches.mx.seq = 1 ∧ t.latches.mx.fifo.length = 1)) = true := by decide +kernel

/-- R23: a watch start on SA. -/
theorem test_watch_on :
    leads (exec (.latchWatch 9 [0, 1]) base) (fun t => t.latches.sa.watch && !t.latches.sb.watch) =
      true := by decide +kernel

/-- R160: RESUME from HALTED. -/
theorem test_resume :
    leads (exec (.resume 1 []) { base with run := .halted .host })
      (fun t => decide (t.run = .setup ∧ sent t = some [0])) = true := by decide +kernel

/-- R170: a LEN that the request does not accept. -/
theorem test_wrong_length :
    leads (exec (.fence 1 [0, 0]) base) (fun t => decide (sent t = some [0x22])) = true := by
  decide +kernel

/-- R11: eight reverse counts from HW leave MOVING, the ninth turns REVERSING. -/
theorem test_ninth_reverse_count :
    ({ tc := 92, hw := 100 } : Belt).motionAfter false = .moving ∧
      ({ tc := 91, hw := 100 } : Belt).motionAfter false = .reversing := by decide

/-- R121: SET-LEVEL of an IDLE bank starts a switch of 20 ms. -/
theorem test_set_level :
    leads (exec (.setLevel 1 [0, 1]) (withBank base 0 { state := .idle }))
      (fun t => decide ((t.bank 0).state = .switching .high 20000)) = true := by decide +kernel

/-- R4: a reverse count at TC 0 gives 4,294,967,295. -/
theorem test_tc_wraps :
    leads (exec (.encoderEdge false true 0) base) (fun t => decide (t.belt.tc = 0xFFFFFFFF)) = true := by
  decide +kernel

/-- R9: with k 3, the first sample of 6 counts gives V 192. -/
theorem test_first_sample :
    leads (exec (.speedSample 0) { base with belt := { tc := 6 } })
      (fun t => decide (t.belt.v = 192)) = true := by decide +kernel

/-- R165: a SET of the horizon to 40 is clamped to 50. -/
theorem test_set_clamps :
    leads (exec (.set 1 [0x22, 0, 0, 0, 0, 40] 0) base)
      (fun t => decide (t.settings.horizon = 50 ∧ sent t = some [1, 0, 0, 0, 50])) = true := by
  decide +kernel

/-- R159: ABORT-RUN in SETUP halts with cause HOST. -/
theorem test_abort :
    leads (exec (.abortRun 1 []) base) (fun t => decide (t.run = .halted .host)) = true := by
  decide +kernel

/-- R154: with the default geometry and FIRE-ENABLE inactive, START waits for its banks. -/
theorem test_start :
    leads (exec (.start 1 [] 0) base)
      (fun t => decide (t.run = .conditioning ∧ (t.bank 7).state = .conditioning 1 none ∧
        sent t = some [0, 1])) = true := by decide +kernel

/-- R127: an expiry of the purge timer at a debt of 3 with the default maximum of 4. -/
theorem test_purge_due :
    leads (exec (.purgeTimerExpiry 2 0)
        (withBank base 2 { state := .settling 9, debt := 3, purgeTimer := some 5 }))
      (fun t => decide ((t.bank 2).debt = 4) && (t.bank 2).due) = true := by decide +kernel

/-- R150: a nozzle written FAULTY is marked, with a bad run of 0. -/
theorem test_nozzle_marked :
    leads (exec (.writeNozzle 1 [4, 0, 0, 0, 64, 2]) base)
      (fun t => decide (t.nozzle 64 = ⟨.faulty, 0, true⟩ ∧ t.cursors.nozzle = 65)) = true := by
  decide +kernel

/-- R68, R69: a Dmin and a Dmax of 0 are both clamped to 1 and the WRITE is taken. -/
theorem test_route_clamped :
    leads (exec (.writeRoute 1 [1, 0, 0, 0, 31, 0, 0, 0, 0, 0, 8, 1, 0, 0, 1]) base)
      (fun t => decide (t.settings.routes[31].dmax = 1 ∧ t.cursors.route = 0 ∧
        sent t = some [1, 0, 0, 1, 1, 0, 8, 1, 0, 0, 1])) = true := by decide +kernel

/-- R149, R162: the FLAG notice after power-on names POWER_UP and SETTINGS_DEFAULTED. -/
theorem test_power_on :
    leads (exec (.powerOn true false true) running)
      (fun t => decide (sent t = some [0, 0, 0, 3] ∧ t.run = .setup)) = true := by decide +kernel

/-- R173: a locator in DIRECT mode beyond the table. -/
theorem test_read_range :
    leads (exec (.read 1 [2, 0, 0, 0, 16, 1]) base) (fun t => decide (sent t = some [0x20])) = true := by
  decide +kernel

end Sys2Proof.Tests
end

