-- ==== Sys2Proof/Tests/Witnesses.lean ====
section
/-!
SUPPORT. For every statement that has hypotheses, concrete states and operands that meet them, clause by
clause and at the ends of their ranges.
-/

namespace Sys2Proof.Tests

-- Checked one after another: each `decide +kernel` waits for all that stands before it, and a hundred waiting
-- at once would exhaust the memory limit with their stacks.
set_option Elab.async false

open Sys2Proof Sys2Proof.Machine

/-! ### Helpers -/

/-- What `leads` finds is a next state. -/
theorem leads_next {o : Host.Outcome State Fault Refusal} {test : State → Bool} (h : leads o test = true) :
    ∃ t, o = .next t ∧ test t = true := by
  cases o with
  | next t => exact ⟨t, rfl, h⟩
  | fault r => exact nomatch r
  | refused r => simp [leads] at h

/-- A part in HALTED. -/
def halted : State := { base with run := .halted .pressure }

/-- A part without supply. -/
def dead : State := { base with powered := false }

/-- A part with one SA entry older than a match and one newer. -/
def threeHeld : State :=
  { base with latches := { sa := { fifo := [latched 255, latched 0, latched 1] } } }

/-- A part of one record. -/
def holding (r : Record) : State := { base with store := { records := [r] } }

/-- A bank's only entry, the bank in a state. -/
def serving (state : BankState) (e : Entry) : State :=
  withBank { base with fireEnable := true } 3 { state := state, queue := [e] }

/-- A head's part of a record. -/
def seen (cls : ClassCode) (confidence : Nat) : HeadPart :=
  { position := 100, first := 8, last := 9, length := 40, cls := cls, confidence := confidence }

/-- Record 5 PLANNED with one part, on bank 3, of a result. -/
def tracked (result : PartResult) : Record :=
  { piece with
    state := .planned
    plan := some { lead := 1, dp := 20, trigger := 1
                   parts := [{ bank := 3, mask := 3, level := .low, result := result }] } }

/-- Bank 3's entry of record 5 with that record in the store, as R101 has it. -/
def served (state : BankState) (e : Entry) (result : PartResult) : State :=
  { serving state e with store := { records := [tracked result] } }

/-- Settings whose class 31 is bound for UP. -/
def upwards : Settings := { routes := (Vector.replicate 32 {}).set 31 { destination := .up } }

/-- A state with the listed nozzles FAULTY. -/
def broken (ns : List NozzleId) (s : State) : State :=
  ns.foldl (fun s n => s.setNozzle n ⟨.faulty, 3, false⟩) s

/-- Every coil good. -/
def allGood : Coils := BitVec.allOnes 128

/-! ### Power, belt and run state -/

theorem witness_StepTakesTheFront : base.powered = true ∧ dead.powered = false := by decide

theorem witness_PowerOnStart :
    (({ base with stored := some {} } : State).keptCopy = some {} ∧ ({} : Settings).valid = true) ∧
      base.keptCopy = none ∧
      ({ base with stored := some { dA := 0 } } : State).keptCopy = some { dA := 0 } ∧
      ({ dA := 0 } : Settings).valid = false := by decide +kernel

theorem witness_SaveAndSupplyLoss :
    base.ready ∧
      (let s : State := { base with link := { service := .writing 7 {} 200000 } };
        s.powered = true ∧ s.link.service = .writing 7 {} 200000) ∧
      dead.powered = false ∧ Instr.frameSent ≠ .powerFailure ∧
      ∀ a b f, Instr.frameSent ≠ .powerOn a b f := by
  exact ⟨base_ready, by decide +kernel, by decide, nofun, nofun⟩

theorem witness_EncoderDecoding : base.powered = true := rfl

theorem witness_NoCountEvents :
    (base.powered = true ∧ true ≠ base.belt.refA ∧ true ≠ base.belt.refB) ∧
      decodeEdge .x1 .normal false true true true = .silent ∧
      ({ base with belt := { stallTimer := some 5 } } : State).belt.stallTimer = some 5 ∧
      base.belt.stallTimer = none := by decide

/-- The default reverse limit is 400: the count that leaves RX at 401 crosses, the one at 400 does not. -/
theorem witness_CountMovesTheBelt :
    decodeEdge base.settings.decodeMode base.settings.direction base.belt.refA base.belt.refB true false =
        .counts true ∧
      decodeEdge base.settings.decodeMode base.settings.direction base.belt.refA base.belt.refB false true =
        .counts false ∧
      (base.settings.reverseLimit : Int) < serialDiff (400 : Pos) ((0 : Pos) - 1) ∧
      ¬(base.settings.reverseLimit : Int) < serialDiff (399 : Pos) ((0 : Pos) - 1) ∧
      base.settings.limitAction ≠ .halt := by decide

theorem witness_ReverseExcursionLaw :
    base.RxKept ∧ (∃ t, step base = .next t) ∧
      1 ≤ serialDiff (({ tc := 9, hw := 9 } : Belt).tc + 1) ({ tc := 9, hw := 9 } : Belt).hw ∧
      ¬1 ≤ serialDiff (({ tc := 8, hw := 9 } : Belt).tc + 1) ({ tc := 8, hw := 9 } : Belt).hw ∧
      0 ≤ ({ tc := 0, hw := 2147483646 } : Belt).rx ∧
      ({ tc := 0, hw := 2147483646 } : Belt).rx ≠ 2147483647 ∧
      ({ tc := 0, hw := 2147483647 } : Belt).rx = 2147483647 := by
  exact ⟨by unfold State.RxKept; decide, ⟨_, rfl⟩, by decide, by decide, by decide, by decide, by decide⟩

theorem witness_OnlyCountsMoveTc :
    (∃ t, exec (.speedSample 0) running = .next t) ∧
      (∀ a b f, Instr.speedSample 0 ≠ .powerOn a b f) ∧
      (∀ a b k, Instr.speedSample 0 ≠ .encoderEdge a b k) ∧ running.run ≠ .setup ∧
      SettingName.dA.setupOnly = true :=
  ⟨⟨_, rfl⟩, nofun, nofun, by decide, by decide⟩

/-- Six counts since the last sample give V 192: a limit of 191 is crossed, one of 192 is not. -/
theorem witness_SpeedSample :
    (let s : State := { base with settings := { overspeedLimit := 191 }, belt := { tc := 6 } };
      s.powered = true ∧ (s.settings.overspeedLimit : Int) < s.takeSample.belt.v ∧
        s.belt.overspeed = false ∧ s.settings.limitAction ≠ .halt) ∧
      (let s : State := { base with settings := { overspeedLimit := 192 }, belt := { tc := 6 } };
        ¬(s.settings.overspeedLimit : Int) < s.takeSample.belt.v) := by decide +kernel

/-- A running part with both halting settings and an overspeed limit of 191. -/
def guarded : State :=
  { running with
    settings :=
      { limitAction := .halt, pressurePolicy := .halt, overspeedLimit := 191, reverseLimit := 1 }
    belt := { tc := 6, hw := 7 }
    supply := { lowRun := 2 } }

theorem witness_EntryToHalted :
    (guarded.powered = true ∧ guarded.settings.limitAction = .halt ∧ guarded.run = .run ∧
        guarded.settings.overspeedLimit ≠ 0 ∧ guarded.belt.overspeed = false ∧
        (guarded.settings.overspeedLimit : Int) < guarded.takeSample.belt.v) ∧
      (decodeEdge guarded.settings.decodeMode guarded.settings.direction guarded.belt.refA
          guarded.belt.refB false true = .counts false ∧
        guarded.belt.reverse = false ∧ guarded.settings.reverseLimit ≠ 0 ∧
        (guarded.settings.reverseLimit : Int) < (guarded.belt.counted false).rx) ∧
      (guarded.settings.pressurePolicy = .halt ∧ guarded.supply.testing = true ∧
        guarded.supply.lowRun = 2 ∧ readingOf 11199 < guarded.settings.pressureThreshold ∧
        ¬readingOf 11200 < guarded.settings.pressureThreshold) ∧
      (guarded.ready ∧ ∀ cause, guarded.run ≠ .halted cause) ∧
      halted.ready ∧ halted.run = .halted .pressure :=
  ⟨by decide +kernel, by decide +kernel, by decide +kernel, ⟨⟨rfl, rfl, rfl⟩, nofun⟩, ⟨rfl, rfl, rfl⟩, rfl⟩

theorem witness_Resume :
    (halted.ready ∧ halted.run = .halted .pressure ∧ halted.link.notices.length < 8) ∧
      base.ready ∧ ∀ cause, base.run ≠ .halted cause :=
  ⟨⟨⟨rfl, rfl, rfl⟩, rfl, by decide⟩, base_ready, nofun⟩

theorem witness_ResetSequence :
    base.ready ∧
      (let s : State := { base with
          link := { service := .sending true, transmitter := some (sending true) } };
        s.powered = true ∧ s.link.service = .sending true ∧
          s.link.transmitter = some (sending true) ∧ (sending true).isReply = true) ∧
      (let s : State := { base with link := { service := .resetting } };
        s.powered = true ∧ s.link.service = .resetting) ∧
      base.link.service ≠ .resetting :=
  ⟨base_ready, by decide, by decide, by decide⟩

theorem witness_RunStateRules :
    (∃ t, exec .frameSent halted = .next t) ∧ Instr.frameSent ≠ .warmReset ∧
      (∀ tag p, Instr.frameSent ≠ .resume tag p) ∧ (∀ a b f, Instr.frameSent ≠ .powerOn a b f) ∧
      (∃ t, exec (.start 1 [] 0) base = .next t ∧ t.run ≠ .setup) ∧
      (∃ t, exec (.abortRun 1 []) base = .next t ∧ t.run ≠ .setup) ∧
      ∃ t, exec .frameSent base = .next t ∧ base.run ≠ .run := by
  refine ⟨⟨_, rfl⟩, nofun, nofun, nofun, ?_, ?_, ⟨_, rfl, by decide⟩⟩
  · obtain ⟨t, h, ht⟩ := leads_next test_start
    exact ⟨t, h, by simp at ht; simp [ht.1]⟩
  · obtain ⟨t, h, ht⟩ := leads_next test_abort
    exact ⟨t, h, by simp at ht; simp [ht]⟩

/-! ### Latches and heads -/

theorem witness_StrobeEdges :
    (let s : State := { base with latches := { sa := { watch := true } } };
      s.powered = true ∧ (s.latch .sa).watch = true ∧ (s.settings.line .sa).edge.activeHigh = true) ∧
      ¬((base.latch .sa).watch = true ∧ true = (base.settings.line .sa).edge.activeHigh) ∧
      false ≠ (base.settings.line .sa).edge.activeHigh := by decide

/-- A pending edge of an SA or BM pulse. -/
def edge : PendingEdge := { position := 40, time := 0, filterEnds := 100 }

theorem witness_StrobeCapture :
    (∀ n ∈ [15, 16],
      let s : State := { base with
        latches := { sa := { watch := true, fifo := List.replicate n (latched 3), edge := some edge } } };
      s.powered = true ∧ (s.latch .sa).edge = some edge ∧ (s.latch .sa).fifo.length = n) ∧
      (let s : State := { base with
          latches := { bm := { watch := true, fifo := [latched 3], edge := some edge } }
          belt := { prevMark := some 0 }, settings := { loopLength := 61, slipTolerance := 20 } };
        s.powered = true ∧ s.latches.bm.edge = some edge ∧ s.latches.bm.fifo.length ≤ 1 ∧
          s.settings.bm.mode = .every ∧ s.belt.prevMark = some 0 ∧
          (s.settings.slipTolerance : Int) <
            |serialDiff edge.position 0 - (s.settings.loopLength : Int)|) ∧
      (let s : State := { base with
          latches := { bm := { watch := true, edge := some edge } }
          settings := { bm := { mode := .first } } };
        s.latches.bm.edge = some edge ∧ s.settings.bm.mode = .first ∧ s.belt.prevMark = none) := by
  decide +kernel

theorem witness_DeadlineExpiry :
    threeHeld.powered = true ∧
      (threeHeld.latch .sa).fifo = [latched 255] ++ latched 0 :: [latched 1] ∧
      (∀ x ∈ [latched 255], x.seq ≠ (latched 0).seq) ∧ (latched 0).deadline = some 40000 ∧
      ∀ x ∈ (threeHeld.latch .sa).fifo, x.seq ≠ 2 := by decide

theorem witness_LatchRequests :
    base.ready ∧ channelOfCode (2 : Byte).toNat = some .bm ∧ channelOfCode (3 : Byte).toNat = some .mx ∧
      3 < (4 : Byte).toNat ∧ 1 < (2 : Byte).toNat ∧
      (let s : State := { base with latches := { mx := { fifo := [latched 9] } } };
        s.ready ∧ s.latches.mx.fifo.length ≤ 1) :=
  ⟨base_ready, by decide, by decide, by decide, by decide, ⟨rfl, rfl, rfl⟩, by decide⟩

theorem witness_HeadConditions :
    (let s : State := { base with heads := { b := { present := true, silence := some 9 } } };
      s.powered = true ∧ (s.heads.get .b).present = true ∧ (s.heads.get .b).silence = some 9) ∧
      (0x00 : Byte) ≠ 0x01 ∧ ([] : List Byte).length ≠ 1 ∧ [(0 : Byte), 0].length ≠ 1 ∧
      (List.replicate 6 (0 : Byte)).length ≠ 7 ∧ (List.replicate 8 (0 : Byte)).length ≠ 7 := by decide

theorem witness_ReportClamping :
    ((⟨7, 63, 0, 1, 31, 15⟩ : ReportFields).first ≤ 63 ∧ (0 : Nat) < 63) ∧
      (63 < (⟨7, 64, 63, 1, 31, 15⟩ : ReportFields).first ∧
        (⟨7, 64, 63, 1, 31, 15⟩ : ReportFields).last ≤ 63) ∧
      63 < (⟨7, 64, 64, 1, 32, 16⟩ : ReportFields).last ∧
      base.powered = true ∧ ([7, 64, 63, 0, 0, 32, 16] : List Byte).length = 7 ∧
      readReport [7, 64, 63, 0, 0, 32, 16] ≠ (readReport [7, 64, 63, 0, 0, 32, 16]).clamped ∧
      readReport [7, 0, 63, 0, 1, 31, 15] = (readReport [7, 0, 63, 0, 1, 31, 15]).clamped ∧
      base.run ≠ .run :=
  ⟨by decide, by decide, by decide, rfl, rfl, by decide, by decide, by decide⟩

theorem witness_ReportBinding :
    (threeHeld.powered = true ∧ ([0, 8, 9, 0, 40, 3, 9] : List Byte).length = 7 ∧
      (threeHeld.latch .sa).fifo = [latched 255] ++ latched 0 :: [latched 1] ∧
      (latched 0).seq = byteAt [0, 8, 9, 0, 40, 3, 9] 0 ∧
      (∀ x ∈ [latched 255], x.seq ≠ (latched 0).seq) ∧ [latched 255] ≠ [] ∧ threeHeld.run ≠ .run) ∧
      ((threeHeld.latch .sa).fifo = [] ++ latched 255 :: [latched 0, latched 1] ∧
        (latched 255).seq = byteAt [255, 8, 9, 0, 40, 3, 9] 0 ∧
        readReport [255, 8, 9, 0, 40, 3, 9] = (readReport [255, 8, 9, 0, 40, 3, 9]).clamped) ∧
      ∀ x ∈ (threeHeld.latch .sa).fifo, x.seq ≠ byteAt [2, 8, 9, 0, 40, 3, 9] 0 := by decide

/-! ### The store -/

/-- A running part with one SA entry held, at position 100. -/
def reported : State := { running with latches := { sa := { fifo := [latched 7] } } }

/-- The piece arrives at 4100: at TC 3499 it lies 601 counts off, at 3500 within the horizon of 600. -/
theorem witness_HeadACreates :
    (reported.powered = true ∧ reported.run = .run ∧ reported.noDebts ∧
      reported.latches.sa.fifo = [latched 7] ∧ (latched 7).seq = 7) ∧
      ((0 : Byte).toNat ≤ (63 : Byte).toNat ∧ (63 : Byte).toNat ≤ 63 ∧ 0 < read2 0 1 ∧
        (15 : Byte).toNat ≤ 15 ∧ (31 : Byte).toNat < 32) ∧
      (reported.store.records.length < 512 ∧
        (reported.settings.horizon : Int) < serialDiff ((latched 7).position + 4000) (3499 : Pos) ∧
        reported.settings.dA = 4000 ∧ reported.heads.b.present = false ∧
        ({ reported with heads := { b := { present := true } } } : State).heads.b.present = true) ∧
      (let s : State := { reported with belt := { tc := 3500 } };
        serialDiff ((latched 7).position + 4000) s.belt.tc ≤ (s.settings.horizon : Int) ∧
          s.settings.routes[(31 : ClassCode)].destination = .pass ∧
          atOrPast s.belt.tc (posPlus ((latched 7).position + 4000) (read2 0 1)) = false) ∧
      (let s : State := { reported with belt := { tc := 3500 }, settings := upwards };
        s.settings.routes[(31 : ClassCode)].destination.bar? = some .up ∧
          s.belt.v < s.settings.vmin ∧
          atOrPast s.belt.tc (posPlus ((latched 7).position + 4000) (s.settings.trim .up)) = false) ∧
      512 ≤ ({ reported with store := { records := List.replicate 512 piece } } :
        State).store.records.length :=
  ⟨⟨rfl, rfl, by unfold State.noDebts; decide, rfl, rfl⟩, by decide, by decide +kernel,
    by decide +kernel, by decide +kernel, by decide +kernel⟩

/-- Two JOINING records, 24 counts before and 24 after position 1024, and two precedences. -/
def awaitingB : State :=
  { base with
    settings := { routes := (Vector.replicate 32 {}).set 5 { precedence := 7, minConfidence := 9 } }
    store := { records :=
      [{ piece with state := .joining, aPart := some (seen 3 9), resolution := none, born := 1 },
        { piece with id := 6, state := .joining, aPart := some (seen 3 9), resolution := none, pArr := 1048
                     born := 0 }] } }

/-- A running part with one SB entry held, which arrives at 2100, and some records. -/
def reportedB (records : List Record) : State :=
  { running with latches := { sb := { fifo := [latched 7] } }, store := { records := records } }

/-- A JOINING record that arrives at 2076, the tolerance of 24 counts before it. -/
def inReach : Record :=
  { piece with state := .joining, aPart := some (seen 3 9), resolution := none, reached := false, pArr := 2076 }

theorem witness_HeadBJoins :
    (∃ r, awaitingB.joinChoice (seen 5 9) 1024 = some r ∧ r.id = 6) ∧
      awaitingB.joinChoice (seen 5 9) 1100 = none ∧
      awaitingB.settings.routes[(3 : ClassCode)].precedence <
        awaitingB.settings.routes[(5 : ClassCode)].precedence ∧
      (seen 5 8).confidence < awaitingB.settings.routes[(5 : ClassCode)].minConfidence ∧
      (seen 3 9).confidence < (seen 4 10).confidence ∧
      (∃ r ∈ awaitingB.store.records, r.aPart = some (seen 3 9)) ∧
      ((reportedB [inReach]).powered = true ∧ (reportedB [inReach]).run = .run ∧
        (reportedB [inReach]).noDebts ∧ (reportedB [inReach]).latches.sb.fifo = [latched 7] ∧
        (latched 7).seq = 7 ∧ (latched 7).position + 2000 = 2100 ∧
        (reportedB [inReach]).settings.dB = 2000 ∧ 0 < read2 0 40) ∧
      ((reportedB [inReach]).joinChoice (seen 5 9) 2100 = some inReach ∧
        ((reportedB [inReach]).settings.horizon : Int) <
          serialDiff 2100 (reportedB [inReach]).belt.tc) ∧
      ((reportedB []).joinChoice (seen 5 9) 2100 = none ∧
        (reportedB []).store.records.length < 512) ∧
      (let s : State := { reportedB [] with belt := { tc := 1500 } };
        s.joinChoice (seen 31 9) 2100 = none ∧
          serialDiff 2100 s.belt.tc ≤ (s.settings.horizon : Int) ∧
          s.settings.routes[(31 : ClassCode)].destination = .pass ∧
          atOrPast s.belt.tc (posPlus 2100 (read2 0 40)) = false) ∧
      (let s : State := { reportedB [] with belt := { tc := 1500 }, settings := upwards };
        s.settings.routes[(31 : ClassCode)].destination.bar? = some .up ∧
          s.belt.v < s.settings.vmin ∧
          atOrPast s.belt.tc (posPlus 2100 (s.settings.trim .up)) = false) ∧
      ((reportedB (List.replicate 512 piece)).joinChoice (seen 5 9) 2100 = none ∧
        512 ≤ (reportedB (List.replicate 512 piece)).store.records.length) := by
  refine ⟨⟨_, rfl, by decide⟩, by decide +kernel, by decide +kernel, by decide +kernel, by decide,
    ⟨_, List.mem_cons_self, rfl⟩, ⟨rfl, rfl, by unfold State.noDebts; decide +kernel, rfl, rfl, rfl, rfl,
      by decide⟩, by decide +kernel, by decide +kernel, by decide +kernel, by decide +kernel,
    by decide +kernel⟩

theorem base_idsDistinct : base.store.IdsDistinct := by unfold Store.IdsDistinct; decide

theorem witness_TrackIdsDistinct :
    base.store.IdsDistinct ∧ (∃ t, step base = .next t) ∧ base.store.records.length < 512 ∧
      (holding piece).store.IdsDistinct :=
  ⟨base_idsDistinct, ⟨_, rfl⟩, by decide, by unfold Store.IdsDistinct; decide⟩

theorem witness_TalliesBalance :
    base.store.IdsDistinct ∧ base.store.Balanced ∧ base.store.saturated = false ∧
      ∃ t, step base = .next t :=
  ⟨base_idsDistinct, by unfold Store.Balanced; decide +kernel, by decide +kernel, ⟨_, rfl⟩⟩

/-- With TC 0 and the default horizon, pieces at 601 and at 16,777,215 lie beyond it, those at 0 and 600
within. -/
theorem witness_Inject :
    base.ready ∧ base.run ≠ .run ∧ running.ready ∧ running.run = .run ∧ running.noDebts ∧
      (∀ n ∈ [601, 16777215], let p : Pos := BitVec.ofNat 32 n;
        0 ≤ serialDiff p running.belt.tc ∧ serialDiff p running.belt.tc ≤ 16777215 ∧
          (running.settings.horizon : Int) < serialDiff p running.belt.tc) ∧
      ((63 : Byte).toNat ≤ (63 : Byte).toNat ∧ (63 : Byte).toNat ≤ 63 ∧ 1 ≤ read2 0 1 ∧
        (31 : Byte).toNat ≤ 31 ∧ (1 : Byte).toNat ≤ 1 ∧ (31 : Byte).toNat < 32) ∧
      (∀ n ∈ [0, 600], let p : Pos := BitVec.ofNat 32 n;
        0 ≤ serialDiff p running.belt.tc ∧
          serialDiff p running.belt.tc ≤ (running.settings.horizon : Int)) ∧
      running.settings.routes[(31 : ClassCode)].destination = .pass ∧
      (let s : State := { running with settings := upwards };
        s.settings.routes[(31 : ClassCode)].destination.bar? = some .up ∧
          s.belt.v < s.settings.vmin ∧
          atOrPast s.belt.tc (posPlus (600 : Pos) (s.settings.trim .up)) = false) ∧
      ¬serialDiff (16777216 : Pos) running.belt.tc ≤ 16777215 ∧ ¬(32 : Byte).toNat ≤ 31 ∧
      running.store.records.length < 512 ∧
      (let s : State := { running with store := { records := List.replicate 512 piece } };
        s.ready ∧ s.run = .run ∧ 512 ≤ s.store.records.length) :=
  ⟨base_ready, by decide, running_ready, rfl, running_noDebts, by decide +kernel, by decide,
    by decide +kernel, by decide +kernel, by decide +kernel, by decide +kernel, by decide, by decide,
    ⟨rfl, rfl, rfl⟩, rfl, by decide +kernel⟩

theorem witness_ClearTallies : base.ready := base_ready

/-- A FIRING record with one open part of bank 1. -/
def firing : Record :=
  { piece with
    state := .firing
    plan := some { lead := 1, dp := 20, trigger := 1
                   parts := [{ bank := 1, mask := 3, level := .low, result := .opened }] } }

theorem witness_OutcomeRule :
    (∀ parts ∈ [[share (.lost .conflict), share (.lost .late)], [share .done, share (.lost .conflict)],
        [share .doneDegraded, share .done], [share .done]],
      parts ≠ [] ∧ ∀ p ∈ parts, p.result.final = true) ∧
      (∀ p ∈ [share (.lost .conflict), share (.lost .late)], p.result.isLost = true) ∧
      ((∃ p ∈ [share .done, share (.lost .conflict)], p.result.isLost = true) ∧
        ∃ p ∈ [share .done, share (.lost .conflict)], p.result.isLost = false) ∧
      ((∀ p ∈ [share .doneDegraded, share .done], p.result.isLost = false) ∧
        ∃ p ∈ [share .doneDegraded, share .done], p.result = .doneDegraded) ∧
      (∀ p ∈ [share .done], p.result = .done) ∧
      ((holding firing).store.records = [firing] ∧ firing.state = .firing ∧
        firing.plan = some { lead := 1, dp := 20, trigger := 1
                             parts := [{ bank := 1, mask := 3, level := .low, result := .opened }] } ∧
        (PartResult.lost .unavailable).final = true ∧ (holding firing).edgePassed firing = false) := by
  decide +kernel

/-! ### The Planner -/

theorem witness_WindowArithmetic :
    (∀ v ∈ [16, 65535], 16 ≤ v ∧ v ≤ 65535) ∧ (∀ l ∈ [500, 8000], 500 ≤ l ∧ l ≤ 8000) ∧
      ({ } : Route).dmin ≤ ({ } : Route).dmax ∧ (0 : Int) < 1 ∧ (0 : Int) ≤ 0 := by decide

/-- A part with UP nozzle 8 FAULTY, the lower end of a span 8 to 9, or 9, its upper end. -/
def without (n : NozzleId) : State := base.setNozzle n ⟨.faulty, 3, false⟩

/-- Span 8 to 9 with its lower or its upper end lost; and at the bar's ends, span 2 to 3 without 2 and 1,
span 60 to 61 without 61 and 62, whose second choices are 0 and 63. -/
theorem witness_EjectColumnsAndParts :
    (0 ≤ 63 ∧ 63 ≤ 63) ∧
      (∀ c, c ≤ 63 →
        ¬(8 ≤ c ∧ c ≤ 9 ∧ (without 9).faulty (nozzleAt .up c) = true ∧ c - 8 ≤ 9 - c) ∧
          ¬(8 ≤ c ∧ c ≤ 9 ∧ (without 8).faulty (nozzleAt .up c) = true ∧ 9 - c < c - 8)) ∧
      ((8 ≤ 8 ∧ 8 ≤ 9 ∧ 8 - 8 ≤ 9 - 8 ∧ (without 8).faulty (nozzleAt .up 8) = true) ∧
        (without 8).faulty (nozzleAt .up 7) = false) ∧
      ((8 ≤ 9 ∧ 9 ≤ 9 ∧ 9 - 9 < 9 - 8 ∧ (without 9).faulty (nozzleAt .up 9) = true) ∧
        (without 9).faulty (nozzleAt .up 10) = false) ∧
      (let s := broken [2, 1] base;
        s.faulty (nozzleAt .up 2) = true ∧ s.faulty (nozzleAt .up 1) = true ∧
          s.faulty (nozzleAt .up 0) = false) ∧
      (let s := broken [61, 62] base;
        s.faulty (nozzleAt .up 61) = true ∧ s.faulty (nozzleAt .up 62) = true ∧
          s.faulty (nozzleAt .up 63) = false) ∧
      (∀ c ∈ [0, 63], c ≤ 63) ∧
      (∀ box ∈ [(0, 2, 1), (62, 63, 2), (0, 63, 3)],
        let r : Record := { piece with first := box.1, last := box.2.1 };
        let route : Route := { destination := .up, spanPad := box.2.2 };
        r.first ≤ r.last ∧ r.last ≤ 63 ∧ (r.first < route.spanPad ∨ 63 < r.last + route.spanPad) ∧
          r.first ≤ 63 + route.spanPad) := by decide +kernel

/-- A part of one held record that arrives at 1000, with TC and V as given. -/
def waitingFor (tc : Pos) (v : Int) : State :=
  { holding piece with belt := { tc := tc, sampleRef := tc, v := v } }

/-- The same record before its planning event, READY for a destination or JOINING. -/
def unplanned (destination : Destination) : Record :=
  { piece with reached := false, resolution := some { cls := 3, route := { destination := destination } } }

theorem witness_HeldRecordAtSample :
    (piece.state = .ready ∧ piece.reached = true ∧
        piece.resolution = some { cls := 3, route := { destination := .up } } ∧
        Destination.up.bar? = some .up) ∧
      (∀ n ∈ [975, 999, 1000, 1039], ∀ v ∈ [(0 : Int), 1536], let tc : Pos := BitVec.ofNat 32 n;
        (waitingFor tc v).powered = true ∧ (waitingFor tc v).settings.overspeedLimit = 0 ∧
          (waitingFor tc v).store.records = [piece] ∧ (waitingFor tc v).edgePassed piece = false) ∧
      (waitingFor 999 0).noDebts ∧
      (waitingFor 999 0).takeSample.belt.v < (waitingFor 999 0).settings.vmin ∧
      atOrPast (999 : Pos) (posPlus piece.pArr ((waitingFor 999 0).settings.trim .up)) = false ∧
      atOrPast (1000 : Pos) (posPlus piece.pArr ((waitingFor 1000 0).settings.trim .up)) = true ∧
      ((waitingFor 999 1536).settings.vmin : Int) ≤ (waitingFor 999 1536).takeSample.belt.v ∧
      atOrPast (999 : Pos)
        ((waitingFor 999 1536).takeSample.planOf piece { destination := .up } .up).trigger = true ∧
      (let u := (waitingFor 975 1536).takeSample;
        (u.settings.vmin : Int) ≤ u.belt.v ∧
          atOrPast (975 : Pos) (u.planOf piece { destination := .up } .up).trigger = false ∧
          (u.planOf piece { destination := .up } .up).parts ≠ []) ∧
      (let u := (broken [5, 6, 7, 8, 9, 10, 11, 12] (waitingFor 975 1536)).takeSample;
        (u.planOf piece { destination := .up } .up).parts = []) ∧
      (∀ r ∈ [unplanned .pass, unplanned .up,
          { unplanned .up with state := .joining, aPart := some (seen 3 9), resolution := none }],
        r.reached = false ∧ r.missCause = none ∧ (r.state = .ready ∨ r.state = .joining)) ∧
      ((∃ p, some (seen 3 9) = some p ∧
        (3 : ClassCode) = if p.confidence < base.settings.routes[p.cls].minConfidence then 0 else p.cls)) ∧
      (let s := holding (unplanned .up);
        decodeEdge s.settings.decodeMode s.settings.direction s.belt.refA s.belt.refB true false =
            .counts true ∧
          s.settings.limitAction ≠ .halt ∧ s.noDebts ∧ (∀ k, (s.bank k).queue = []) ∧
          (s.settings.horizon : Int) < serialDiff piece.pArr (398 + 1) ∧
          serialDiff piece.pArr (399 + 1) ≤ (s.settings.horizon : Int) ∧
          atOrPast (399 + 1) (posPlus piece.pArr piece.length) = false ∧
          s.belt.v < s.settings.vmin ∧
          atOrPast (399 + 1) (posPlus piece.pArr (s.settings.trim .up)) = false) ∧
      (let u : State := { holding (unplanned .up) with belt := { tc := 400, v := 1536 } };
        let due : Record := { unplanned .up with reached := true };
        (u.settings.vmin : Int) ≤ u.belt.v ∧
          atOrPast 400 (u.planOf due { destination := .up } .up).trigger = false ∧
          (u.planOf due { destination := .up } .up).parts ≠ []) := by
  refine ⟨by decide, by decide +kernel, by unfold State.noDebts; decide, by decide +kernel,
    by decide +kernel, by decide +kernel, by decide +kernel, by decide +kernel, by decide +kernel,
    by decide +kernel, by decide, ⟨_, rfl, by decide +kernel⟩, ?_, by decide +kernel⟩
  unfold State.noDebts
  decide +kernel

/-! ### Valve banks -/

/-- A part under SHED. -/
def lowAir : State := { base with flags := 0x00020000 }

/-- An offer at a trigger, of a level and a policy. -/
def offered (trigger : Pos) (level : Level) (policy : Policy) : Offer :=
  { track := 6, mask := 3, trigger := trigger, dp := 20, level := level, dmin := 4, policy := policy
    speed := 256 }

/-- At V 256, Q is 20 counts, B 12 counts: bank 3's entry runs from 1 to 30, so an offer of the other
level conflicts at 49 and no more at 50; one that ends at 0 conflicts from −31. -/
theorem witness_Admission :
    (let k : Bank := { state := .idle, queue := List.replicate 16 entry };
      k.unavailable = true ∧ ({ k with queue := List.replicate 15 entry } : Bank).unavailable = false ∧
        ({ k with due := true } : Bank).unavailable = true ∧ ({ state := .dark } : Bank).unavailable = true) ∧
      (let s : State := serving .idle entry;
        (s.bank 3).unavailable = false ∧ s.conflictAt 3 (offered 49 .low .yield) .low = false ∧
          s.conflictAt 3 (offered 49 .high .yield) .high = true ∧
          s.conflictAt 3 (offered 49 .high .degrade) Level.high.other = false ∧
          s.conflictAt 3 (offered 50 .high .degrade) .high = false ∧ s.shed = false) ∧
      (let s : State := withBank base 3
          { state := .idle, queue := [entry, { entry with track := 7, level := .high }] };
        (s.bank 3).unavailable = false ∧ s.conflictAt 3 (offered 49 .high .degrade) .high = true ∧
          s.conflictAt 3 (offered 49 .high .degrade) Level.high.other = true) ∧
      (lowAir.shed = true ∧ lowAir.conflictAt 3 (offered 49 .low .degrade) .low = false) ∧
      (∀ state ∈ [BankState.idle, .opened, .settling 70, .purging .forced 70 true, .switching .high 70],
        ((serving state (openEntry 1)).bank 3).state = state) ∧
      (let s := serving .opened (openEntry 1);
        (∃ e ∈ (s.bank 3).queue, e.state = .opened ∧ ∃ p, e.pulse = some p ∧
          (serialDiff p.expiry s.timeBase).toNat = 10500) ∧
        ∀ e ∈ (s.bank 3).queue, e.state = .opened → ∀ p, e.pulse = some p →
          (serialDiff p.expiry s.timeBase).toNat ≤ 10500) := by
  refine ⟨by decide +kernel, by decide +kernel, by decide +kernel, by decide +kernel, by decide +kernel,
    ⟨_, List.mem_cons_self, rfl, _, rfl, by decide⟩, ?_⟩
  intro e he _ p hp
  rw [List.mem_singleton.mp he] at hp
  obtain rfl : _ = p := Option.some.inj hp
  decide

/-- Bank 3's cases at a trigger that is reached exactly: its own level, the other level with each policy,
a busy bank, SHED, suspension by either limit, and FIRE-ENABLE inactive. -/
def triggerCases : List (State × Entry) :=
  let high : Entry := { entry with level := .high }
  let soft : Entry := { entry with policy := .degrade }
  let onHigh := fun (s : State) => s.setBank 3 { s.bank 3 with level := .high }
  [(served .idle entry .waiting, entry), (served .opened entry .waiting, entry),
    (served (.settling 9) entry .waiting, entry), (served .idle high .waiting, high),
    (onHigh (served .idle soft .waiting), soft),
    ({ onHigh (served .idle soft .waiting) with flags := 0x00020000 }, soft),
    ({ served .idle high .waiting with flags := 0x00020000 }, high),
    ({ served .idle entry .waiting with
        settings := { limitAction := .suspend }, belt := { overspeed := true } }, entry),
    ({ served .idle entry .waiting with
        settings := { limitAction := .suspend }, belt := { hw := 2, reverse := true } }, entry),
    ({ served .idle entry .waiting with fireEnable := false }, entry)]

theorem witness_TriggerRows :
    (∀ c ∈ triggerCases, c.1.powered = true ∧
      decodeEdge c.1.settings.decodeMode c.1.settings.direction c.1.belt.refA c.1.belt.refB true false =
        .counts true ∧
      c.1.store.records = [tracked .waiting] ∧ (tracked .waiting).id = c.2.track ∧
      (tracked .waiting).state = .planned ∧ (tracked .waiting).reached = true ∧
      atOrPast (c.1.belt.tc + 1) (posPlus (tracked .waiting).pArr (tracked .waiting).length) = false ∧
      c.1.noDebts ∧ (c.1.bank 3).queue = [c.2] ∧ c.2.state = .waiting ∧
      atOrPast (c.1.belt.tc + 1) c.2.trigger = true ∧
      (∀ k : BankId, k ≠ 3 → ∀ x ∈ (c.1.bank k).queue,
        x.state = .waiting → atOrPast (c.1.belt.tc + 1) x.trigger = false)) ∧
      (∃ plan, (tracked .waiting).plan = some plan ∧ plan.awaits 3 .waiting) ∧
      (∀ m : Member, let s := served .idle entry .waiting;
        s.faulty (nozzleOf 3 m) = false ∧ s.nozzleOpen 3 m = false ∧ coilGood allGood 3 m = true) ∧
      (({ hw := 2, reverse := true } : Belt).counted true).rx ≠ 0 ∧
      (triggerCases.map fun c => (decide (c.2.level = (c.1.bank 3).level), c.2.policy, c.1.shed)) =
        [(true, .yield, false), (true, .yield, false), (true, .yield, false), (false, .yield, false),
          (false, .degrade, false), (false, .degrade, true), (false, .yield, true),
          (true, .yield, false), (true, .yield, false), (true, .yield, false)] := by
  unfold State.noDebts Plan.awaits
  refine ⟨by decide +kernel, ⟨_, rfl, by decide⟩, by decide +kernel, by decide, by decide +kernel⟩

/-- Members 0 and 1 are entry 5's; with MSO 1 it has two waves, of which one or both have opened. -/
theorem witness_PulseLife :
    (let s := serving .opened (openEntry 1);
      s.powered = true ∧ s.fireEnable = true ∧ (s.bank 3).queue = [openEntry 1] ∧
        (openEntry 1).state = .opened ∧ (∃ p, (openEntry 1).pulse = some p ∧
          p.wavesOpened < (openEntry 1).waves) ∧
        ∀ m : Member, s.faulty (nozzleOf 3 m) = false ∧ coilGood allGood 3 m = true) ∧
      (let s := withBank base 3 { state := .opened, nozzles := noNozzleOpen.set 1 (some 60) };
        s.powered = true ∧ (s.bank 3).nozzles[(1 : Member)] = some 60 ∧
          (s.bank 3).nozzles[(0 : Member)] = none) ∧
      (∀ hit ∈ [true, false],
        let e : Entry := { openEntry 2 with hit := hit };
        let other : Record := { piece with id := 6 };
        let s : State := { withBank base 3 { state := .opened, queue := [] ++ e :: [{ entry with track := 6 }] } with
          store := { records := [other] ++ tracked .opened :: [] } };
        s.powered = true ∧ (s.bank 3).queue = [] ++ e :: [{ entry with track := 6 }] ∧
          (∀ x ∈ [{ entry with track := 6 }], x.track ≠ e.track) ∧ e.state = .opened ∧
          (∃ p, e.pulse = some p ∧ e.waves ≤ p.wavesOpened) ∧ (s.bank 3).state = .opened ∧
          s.store.records = [other] ++ tracked .opened :: [] ∧ (tracked .opened).id = e.track ∧
          (∀ x ∈ [other], x.id ≠ (tracked .opened).id) ∧ (tracked .opened).state = .planned ∧
          (∃ plan, (tracked .opened).plan = some plan ∧ plan.awaits 3 .opened) ∧
          s.edgePassed (tracked .opened) = false) ∧
      (∀ e ∈ ((serving .idle entry).bank 3).queue, e.track = 5 → e.pulse = none) ∧
      ({ entry with hit := true } : Entry).hit = true ∧ entry.hit = false := by
  refine ⟨⟨rfl, rfl, rfl, rfl, ⟨_, rfl, by decide⟩, by decide +kernel⟩, by decide +kernel, ?_,
    by decide +kernel, rfl, rfl⟩
  intro hit _
  cases hit <;> exact ⟨rfl, rfl, by decide, rfl, ⟨_, rfl, by decide⟩, rfl, rfl, rfl, by decide, rfl,
    ⟨_, rfl, by unfold Plan.awaits; decide⟩, by decide +kernel⟩

/-- A bank that becomes free, at LOW: by its recharge, or by its switch from HIGH, with an entry. -/
def freeing (bySwitch : Bool) (due : Time) (e : Entry) (result : PartResult) : State :=
  let s := served (if bySwitch then .switching .low due else .settling due) e result
  if bySwitch then s.setBank 3 { s.bank 3 with level := .high } else s

/-- The entry PENDING since its trigger at time 0: freed at 8000 it starts 16 units late, for the Dmin of
4 units that then remain of 20; at 8001 it is one unit too late. -/
def tardy : Entry := { entry with state := .pending, triggerTime := some 0 }

theorem witness_BankFrees :
    (let s := withBank base 3 { state := .settling 70 };
      s.powered = true ∧ (s.bank 3).debt = 0 ∧ (s.bank 3).state = .settling 70 ∧
        (s.bank 3).queue = [] ∧ ∀ target due, (s.bank 3).state ≠ .switching target due) ∧
      (let s := withBank base 3 { state := .switching .high 70 };
        (s.bank 3).state = .switching .high 70 ∧ (s.bank 3).queue = [] ∧
          ∀ due, (s.bank 3).state ≠ .settling due) ∧
      (∀ bySwitch ∈ [true, false],
        let high : Entry := { entry with level := .high };
        let s := freeing bySwitch 70 high .waiting;
        s.powered = true ∧ (s.bank 3).debt = 0 ∧
          (s.bank 3).state = (if bySwitch then .switching .low 70 else .settling 70) ∧
          (s.bank 3).head? = some high ∧ Level.high ≠ .low ∧ s.shed = false ∧
          (∀ x ∈ (s.bank 3).queue, x.state ≠ .pending) ∧
          ({ s with flags := 0x00020000 } : State).shed = true ∧
          ((freeing bySwitch 70 entry .waiting).bank 3).head? = some entry ∧ entry.level = .low) ∧
      (∀ bySwitch ∈ [true, false], ∀ due ∈ [8000, 8001],
        let s := freeing bySwitch (BitVec.ofNat 32 due) tardy .waiting;
        (s.bank 3).queue = [tardy] ∧ tardy.state = .pending ∧ tardy.triggerTime = some 0 ∧
          tardy.level = .low ∧ s.store.records = [] ++ tracked .waiting :: [] ∧
          (tracked .waiting).id = tardy.track ∧ (tracked .waiting).state = .planned ∧
          s.edgePassed (tracked .waiting) = false ∧ s.run ≠ .conditioning ∧ s.fireEnable = true ∧
          s.suspension = false ∧
          s.shed = false ∧
          (∀ m : Member, s.faulty (nozzleOf 3 m) = false ∧ s.nozzleOpen 3 m = false ∧
            coilGood allGood 3 m = true) ∧
          ({ s with fireEnable := false } : State).fireEnable = false ∧
          ({ s with settings := { limitAction := .suspend }, belt := { overspeed := true } } :
            State).suspension = true) ∧
      (let late := fun due : Time => ((laterOf 0 due - 0).toNat + 499) / 500;
        tardy.dmin + late 8000 ≤ tardy.dp ∧ tardy.dp < tardy.dmin + late 8001) ∧
      (let e : Entry := { tardy with level := .high };
        let s : State := { freeing false 70 e .waiting with flags := 0x00020000 };
        (s.bank 3).queue = [e] ∧ s.shed = true ∧ e.level = .high) ∧
      ∃ plan, (tracked .waiting).plan = some plan ∧ plan.awaits 3 .waiting := by
  refine ⟨⟨rfl, rfl, rfl, rfl, nofun⟩, ⟨rfl, rfl, nofun⟩, ?_, ?_, ?_, ?_,
    ⟨_, rfl, by unfold Plan.awaits; decide⟩⟩
  all_goals decide +kernel

/-- A bank whose members are all FAULTY. -/
def worn (b : BankId) : State := allMembers.foldl (fun s m => s.setNozzle (nozzleOf b m) ⟨.faulty, 3, false⟩) base

theorem witness_FenceAndUnfence :
    (base.ready ∧ bankOfCode 0 = some 0 ∧ bankOfCode 15 = some 15 ∧ bankOfCode 16 = none ∧
        15 < (16 : Byte).toNat ∧ (base.bank 15).state ≠ .fenced) ∧
      (∀ phase ∈ [RunState.setup, .run, .conditioning], ∀ fireEnable ∈ [true, false],
        let s := withBank { base with run := phase, fireEnable := fireEnable } 15 { state := .fenced };
        s.ready ∧ (s.bank 15).state = .fenced ∧ s.allFaulty 15 = false ∧ (s.bank 15).level = .low ∧
          s.shed = false) ∧
      (worn 15).allFaulty 15 = true := by
  refine ⟨⟨base_ready, by decide⟩, ?_, by decide +kernel⟩
  unfold State.ready
  decide +kernel

theorem witness_SetLevel :
    base.ready ∧ bankOfCode 15 = some 15 ∧ levelOfCode (1 : Byte).toNat = some .high ∧
      15 < (16 : Byte).toNat ∧ 1 < (2 : Byte).toNat ∧ lowAir.ready ∧ lowAir.shed = true ∧
      base.shed = false ∧ (base.bank 15).state ≠ .idle ∧
      (let s := withBank base 15 { state := .idle };
        s.ready ∧ (s.bank 15).state = .idle ∧ Level.high ≠ (s.bank 15).level ∧
          Level.low = (s.bank 15).level) :=
  ⟨base_ready, by decide, by decide, by decide, by decide, ⟨rfl, rfl, rfl⟩, by decide +kernel,
    by decide +kernel, by decide, ⟨rfl, rfl, rfl⟩, by decide, by decide, by decide⟩

/-- A bank that is held at the first step of conditioning. -/
def heldStart : State := withBank base 3 { state := .conditioning 1 none }

theorem witness_FireEnable :
    ((serving .opened (openEntry 1)).powered = true ∧ (serving .opened (openEntry 1)).fireEnable = true ∧
        ((serving .opened (openEntry 1)).bank 3).state = .opened ∧
        ((serving (.purging .forced 9 true) entry).bank 3).state = .purging .forced 9 true ∧
        ((serving (.conditioning 4 (some 9)) entry).bank 3).state = .conditioning 4 (some 9)) ∧
      base.fireEnable = false ∧ base.powered = true ∧
      heldStart.powered = true ∧ heldStart.fireEnable = false ∧ heldStart.noDebts ∧
      heldStart.shed = false ∧ (heldStart.bank 3).state = .conditioning 1 none ∧
      ∀ b step, (heldStart.bank b).state = .conditioning step none →
        step = 1 ∧ (heldStart.bank b).level = .low := by
  refine ⟨by decide +kernel, rfl, rfl, rfl, rfl, by unfold State.noDebts; decide +kernel,
    by decide +kernel, rfl, ?_⟩
  intro b step h
  by_cases hb : b = 3
  · subst hb
    exact ⟨by simpa [heldStart, withBank, State.bank, State.setBank] using h.symm, rfl⟩
  · have dark : ∀ b : BankId, b ≠ 3 → (heldStart.bank b).state = .dark := by decide +kernel
    simp [dark b hb] at h

theorem witness_NoFireWhileInhibited :
    base.FireSafe ∧ (∃ t, step base = .next t) ∧ base.fireEnable = false := by
  exact ⟨by unfold State.FireSafe; decide +kernel, ⟨_, rfl⟩, rfl⟩

theorem witness_OutOfServiceBanksClosed :
    (base.BanksClosed ∧ ∃ t, step base = .next t) ∧
      (served .idle entry .waiting).store.IdsDistinct ∧ (served .idle entry .waiting).EntriesTracked ∧
      (served .idle entry .waiting).EntriesOpen ∧ ∃ t, step (served .idle entry .waiting) = .next t :=
  ⟨⟨fun b => by
    have dark : ∀ b : BankId, base.bank b = {} := by decide +kernel
    rw [dark b]; exact ⟨rfl, rfl⟩, ⟨_, rfl⟩⟩, by unfold Store.IdsDistinct; decide,
    by unfold State.EntriesTracked; decide +kernel, by unfold State.EntriesOpen; decide +kernel, ⟨_, rfl⟩⟩

/-! ### Purging and conditioning -/

/-- An IDLE bank 3 that owes a debt, with its queue. -/
def owing (debt : Nat) (queue : List Entry) : State :=
  withBank { base with fireEnable := true } 3
    { state := .idle, debt := debt, due := decide (4 ≤ debt), queue := queue }

theorem witness_PurgeCycle :
    (let s : State := withBank { base with fireEnable := true } 3
        { state := .idle, debt := 3, purgeTimer := some 70 };
      s.powered = true ∧ (s.bank 3).purgeTimer = some 70 ∧ (s.bank 3).state = .idle ∧
        1 ≤ (s.bankSettings 3).maxDebt ∧ (s.bankSettings 3).maxDebt ≤ (s.bank 3).debt + 1 ∧
        s.fireEnable = true ∧ s.purgeBarred 3 = false ∧
        ∀ m : Member, s.faulty (nozzleOf 3 m) = false ∧ coilGood allGood 3 m = true) ∧
      (let s : State := withBank base 3 { state := .settling 9, purgeTimer := some 70 };
        (s.bank 3).purgeTimer = some 70 ∧ (s.bank 3).state ≠ .idle) ∧
      (∀ debt ∈ [1, 4], let s := owing debt [];
        (s.bank 3).state = .idle ∧ 1 ≤ (s.bank 3).debt ∧ s.fireEnable = true ∧ s.shed = false ∧
          (s.bank 3).due = decide (debt = 4) ∧ (s.bank 3).queue = [] ∧ s.store.records = [] ∧
          ∀ m : Member, s.faulty (nozzleOf 3 m) = false ∧ coilGood allGood 3 m = true) ∧
      ¬1 ≤ ((owing 0 []).bank 3).debt ∧
      (∃ e ∈ ((owing 1 [tardy]).bank 3).queue, e.state = .pending) ∧
      (let s : State := { owing 1 [entry] with belt := { tc := 1 } };
        s.belt.motion = .stopped ∧
          ∃ e ∈ (s.bank 3).queue, e.state = .waiting ∧ 0 ≤ serialDiff e.trigger s.belt.tc ∧
            serialDiff e.trigger (posPlus s.belt.tc 0) ≤ 0) ∧
      (let s : State := { owing 1 [] with store := { records := [piece] }, belt := { tc := 1000 } };
        ∃ r ∈ s.store.records, r.state = .ready ∧
          (∃ res, r.resolution = some res ∧ res.route.destination.bar? = some (barOfBank 1)) ∧
          r.first ≤ (1 : Nat) % 8 * 8 + 7 ∧ (1 : Nat) % 8 * 8 ≤ r.last ∧
          serialDiff r.pArr (posPlus s.belt.tc 0) ≤ 0 ∧
          0 ≤ serialDiff (posPlus r.pArr r.length) s.belt.tc) ∧
      ({ base with belt := { stallTimer := some 5 } } : State).belt.stallTimer = some 5 ∧
      (let s : State := withBank base 3 { state := .purging .forced 70 true, debt := 4 };
        s.powered = true ∧ (s.bank 3).state = .purging .forced 70 true) ∧
      (base.bank 3).purgeTimer = none ∧
      ∀ kind ends hit, (base.bank 3).state ≠ .purging kind ends hit := by
  exact ⟨by decide +kernel, by decide +kernel, by decide +kernel, by decide +kernel, by decide +kernel,
    by decide +kernel, ⟨_, List.mem_cons_self, rfl, ⟨_, rfl, by decide⟩, by decide +kernel⟩, rfl,
    by decide +kernel, rfl, nofun⟩

theorem witness_ConditioningSteps :
    (∀ n ∈ [1, 2, 3, 4, 5, 6],
      let s : State := withBank { base with fireEnable := true, run := .conditioning } 3
        { state := .conditioning n (some 70) };
      s.powered = true ∧ (s.bank 3).state = .conditioning n (some 70) ∧ s.shed = false ∧
        s.fireEnable = true ∧ 0 < (s.bankSettings 3).tRC ∧ (s.bank 3).queue = [] ∧
        (∀ m : Member, s.faulty (nozzleOf 3 m) = false ∧ coilGood allGood 3 m = true)) ∧
      (∀ s ∈ [base, lowAir], s.shed = true ∨ s.fireEnable = false) ∧
      ∀ step ends, (base.bank 3).state ≠ .conditioning step (some ends) :=
  ⟨by decide +kernel, by decide +kernel, nofun⟩

theorem witness_PurgeDebtBounded : base.DebtsKept ∧ (∃ t, step base = .next t) :=
  ⟨by unfold State.DebtsKept; decide +kernel, ⟨_, rfl⟩⟩

/-! ### Supply and nozzle health -/

/-- At the default threshold 450, 11,199 microamperes read as 449 and 11,200 as 450. -/
theorem witness_PressureSample :
    base.powered = true ∧ base.supply.testing = true ∧ lowAir.settings.pressurePolicy ≠ .halt ∧
      ({ base with supply := { testing := false } } : State).supply.testing = false ∧
      (11199 - 4000) / 16 < base.settings.pressureThreshold ∧
      base.settings.pressureThreshold ≤ (11200 - 4000) / 16 ∧ base.supply.lowRun < 2 ∧
      ({ base with supply := { lowRun := 2 } } : State).supply.lowRun = 2 := by decide

theorem witness_SupplyAndHealthLaws :
    base.LowTestKept ∧ base.HealthKept ∧ base.FlagsCarried ∧ ∃ t, step base = .next t :=
  ⟨by unfold State.LowTestKept; decide +kernel,
    fun n => by
      have good : ∀ n : NozzleId, base.nozzle n = {} := by decide +kernel
      rw [good n]; rfl,
    by unfold State.FlagsCarried; decide +kernel, ⟨_, rfl⟩⟩

/-- Bank 3 with all its members FAULTY but member 0, which is SUSPECT after two bad checks. -/
def lastOne : State := (worn 3).setNozzle (nozzleOf 3 0) ⟨.suspect, 2, false⟩

theorem witness_CoilChecks :
    (({ } : Nozzle).grade = .ok ∧ ({ } : Nozzle).badRun = 0) ∧
      ((⟨.suspect, 1, false⟩ : Nozzle).grade = .suspect ∧ (⟨.suspect, 2, false⟩ : Nozzle).badRun = 2) ∧
      (base.nozzle (nozzleOf 3 0)).bad.grade ≠ .faulty ∧
      (lastOne.nozzle (nozzleOf 3 0)).bad.grade = .faulty ∧
      (∀ i : Member, i ≠ 0 → lastOne.faulty (nozzleOf 3 i) = true) ∧
      (lastOne.bank 3).state ≠ .fenced ∧
      ∃ i : Member, i ≠ 0 ∧ base.faulty (nozzleOf 3 i) = false := by decide +kernel

/-! ### Starting, stopping and the settings -/

theorem witness_Start :
    (running.ready ∧ running.run ≠ .setup) ∧
      (base.ready ∧ base.run = .setup ∧ base.settings.dB + base.settings.joinTolerance < base.settings.dA ∧
        base.settings.horizon + base.settings.joinTolerance < base.settings.dB ∧
        (∃ b : BankId, (base.bank b).state ≠ .fenced) ∧
        (∃ b : BankId, (base.bank b).state.awaited = true) ∧ base.fireEnable = false) ∧
      (let st : Settings := { dA := 2024 }; ¬st.dB + st.joinTolerance < st.dA) ∧
      (let st : Settings := { dA := 2025 }; st.dB + st.joinTolerance < st.dA) ∧
      (let s : State := { base with banks := Vector.replicate 16 { state := .fenced } };
        s.ready ∧ ∀ b : BankId, (s.bank b).state = .fenced) ∧
      (let s : State := { base with banks := Vector.replicate 16 { state := .idle } };
        s.ready ∧ ∀ b : BankId, (s.bank b).state.awaited = false) := by
  refine ⟨⟨running_ready, by decide⟩, ⟨base_ready, by decide +kernel⟩, by decide, by decide,
    ⟨⟨rfl, rfl, rfl⟩, by decide +kernel⟩, ⟨rfl, rfl, rfl⟩, by decide +kernel⟩

/-- The trailing edge of the piece, at 1040, has passed the bar at TC 1041. -/
theorem witness_Stop :
    (running.ready ∧ running.run = .run ∧ running.store.records = [] ∧ running.link.notices.length < 7) ∧
      (let s : State := { holding piece with run := .run }; s.ready ∧ s.store.records ≠ []) ∧
      (let s : State := { base with run := .conditioning }; s.ready ∧ s.run = .conditioning) ∧
      (base.ready ∧ base.run ≠ .run ∧ base.run ≠ .conditioning) ∧
      (let r : Record := { piece with state := .passed };
        let s : State := { holding r with run := .drain, belt := { tc := 1041 } };
        s.run = .drain ∧ s.store.records = [r] ∧ r.state.terminal = true ∧ s.edgePassed r = true) := by
  refine ⟨⟨running_ready, by decide⟩, ⟨⟨rfl, rfl, rfl⟩, by decide⟩, ⟨⟨rfl, rfl, rfl⟩, rfl⟩,
    ⟨base_ready, by decide, by decide⟩, by decide +kernel⟩

/-- A part under SHED, FIRE-ENABLE active, with bank 3 in a state and its queue, and record 5. -/
def shedding (state : BankState) (queue : List Entry) : State :=
  withBank { lowAir with fireEnable := true, store := { records := [tracked .waiting] } } 3
    { state := state, queue := queue }

theorem witness_GetAndSet :
    (base.ready ∧ nameSetting 0x22 0 = .setting .horizon ∧ nameSetting 0x00 0 = .unknown ∧
        nameSetting 0x40 16 = .badQualifier ∧ nameSetting 0x40 15 = .setting (.bank 15 .tRC)) ∧
      (running.ready ∧ running.run ≠ .setup ∧ SettingName.horizon.setupOnly = true) ∧
      (let s := withBank base 3 { state := .idle, purgeTimer := some 9 };
        s.ready ∧ s.settingBusy (.bank 3 .tRC) = false) ∧
      (let s := serving .opened (openEntry 1);
        s.ready ∧ s.settingBusy (.bank 3 .mso) = true) ∧
      base.settingBusy .horizon = false ∧
      (SettingName.direction.domain = .codes 2 ∧ ¬(0 ≤ (read4 0 0 0 2).toInt ∧ (read4 0 0 0 2).toInt < 2)) ∧
      (SettingName.horizon.domain = .numeric 50 8000 ∧ SettingName.horizon.domain.holds 50 = true ∧
        (50 : Int) = max 50 (min 8000 (read4 0 0 0 49).toInt)) ∧
      SettingName.direction.domain.holds 1 = true ∧
      (∀ n ∈ [SettingName.overspeedLimit, .reverseLimit, .loopLength, .pressurePolicy],
        n.setupOnly = false ∧ base.settingBusy n = false ∧ n.domain.holds 0 = true) ∧
      (∃ c ∈ List.range 256, nameSetting (BitVec.ofNat 8 c) 3 = .setting (.bank 3 .maxDebt)) ∧
      (SettingName.bank 3 .maxDebt).setupOnly = false ∧
      base.settingBusy (.bank 3 .maxDebt) = false ∧
      (SettingName.bank 3 .maxDebt).domain.holds 1 = true ∧
      (let high : Entry := { entry with level := .high };
        let s := shedding .idle [high];
        s.ready ∧ s.store.IdsDistinct ∧ s.EntriesOpen ∧
          s.shed = true ∧ s.settingBusy .pressurePolicy = false ∧
          (s.bank 3).state = .idle ∧ (s.bank 3).head? = some high ∧ high.level ≠ (s.bank 3).level) ∧
      (∀ step ∈ [1, 2, 4], let s := shedding (.conditioning step none) [];
        s.EntriesOpen ∧ s.shed = true ∧ (s.bank 3).state = .conditioning step none ∧ s.fireEnable = true ∧
          (s.bank 3).level = .low ∧
          ∀ m : Member, s.faulty (nozzleOf 3 m) = false ∧ coilGood allGood 3 m = true) := by
  refine ⟨⟨base_ready, by decide +kernel⟩, ⟨running_ready, by decide⟩, ⟨⟨rfl, rfl, rfl⟩, by decide +kernel⟩,
    ⟨⟨rfl, rfl, rfl⟩, by decide +kernel⟩, by decide +kernel, by decide +kernel, by decide +kernel,
    by decide +kernel, by decide +kernel, by decide +kernel, by decide +kernel, by decide +kernel,
    by decide +kernel, ⟨⟨rfl, rfl, rfl⟩, ?_, ?_, by decide +kernel⟩, ?_⟩
  · unfold Store.IdsDistinct; decide
  all_goals unfold State.EntriesOpen; decide +kernel

theorem witness_SettingsInRange :
    base.settings.valid = true ∧ (∃ t, step base = .next t) ∧
      SettingName.upTrim.domain.holds (-2048) = true ∧ SettingName.upTrim ≠ .downTrim :=
  ⟨by decide +kernel, ⟨_, rfl⟩, by decide, by decide⟩

/-! ### The control link -/

theorem witness_FrameReception :
    base.powered = true ∧ (List.replicate 240 (0 : Byte)).length ≤ 240 ∧
      base.link.rxControl.state = .hunt ∧
      ({ base with link := { requests := [⟨1, 0, []⟩] } } : State).link.requests.length < 2 ∧
      (0 : Byte) ++ (0 : Byte) ≠ crcOf (Frame.mk 1 0 []).body := by
  refine ⟨rfl, by decide +kernel, rfl, by decide, by decide +kernel⟩

theorem witness_ReceiverRules :
    base.powered = true ∧ (base.link.receiver .control).state = .hunt ∧ (0xA4 : Byte) ≠ 0xA5 ∧
      (let s : State := { base with link :=
          { rxControl := ⟨.header [], some 10000⟩, rxHeadB := ⟨.header [], some 10000⟩ } };
        s.link.rxControl.state ≠ .hunt ∧ s.link.rxControl.timer = some 10000 ∧
          (s.link.receiver (.head .b)).state ≠ .hunt ∧
          (s.link.receiver (.head .b)).timer = some 10000) ∧
      base.link.rxControl.timer = none ∧ (base.link.receiver (.head .a)).timer = none ∧
      ({ base with link := { requests := [⟨1, 0, []⟩] } } : State).link.requests.length < 2 ∧
      2 ≤ ({ base with link := { requests := [⟨1, 0, []⟩, ⟨1, 1, []⟩] } } : State).link.requests.length := by
  decide +kernel

/-- A FLAG notice with its number. -/
def notice (number : Byte) : Notice := { number := number, kind := .flag 1 }

theorem witness_TransmitterAndNotices :
    (let s : State := { base with link :=
          { transmitter := some (sending false), service := .replying ⟨0x81, 1, [0]⟩ false } };
      s.powered = true ∧ s.link.transmitter = some (sending false) ∧ (sending false).isReply = false ∧
        s.link.service = .replying ⟨0x81, 1, [0]⟩ false ∧ s.link.transmitter.isSome = true) ∧
      (∀ waiting ∈ [[], [notice 4, notice 5]],
        let s : State := { base with link :=
          { transmitter := some (sending true), service := .sending false, notices := waiting } };
        s.powered = true ∧ s.link.transmitter = some (sending true) ∧ (sending true).isReply = true ∧
          s.link.service = .sending false ∧ s.link.notices = waiting) ∧
      (∀ waiting ∈ [[], [notice 4, notice 5]], ∀ service ∈ [Service.free, .writing 7 {} 200000],
        let s : State := { base with link :=
          { transmitter := some (sending false), service := service, notices := waiting } };
        s.powered = true ∧ s.link.transmitter = some (sending false) ∧ (sending false).isReply = false ∧
          s.link.service = service ∧ s.link.notices = waiting) ∧
      base.link.transmitter = none ∧
      (List.replicate 7 (notice 4)).length < 8 ∧ 8 ≤ (List.replicate 8 (notice 4)).length ∧
      base.flag .noticeDropped = false ∧
      ({ base with flags := 0x00800000 } : State).flag .noticeDropped = true ∧
      (0x00800000 : FlagMask) &&& ~~~(0 : FlagMask) ≠ 0 ∧ (notice 4).kind = .flag 1 := by decide +kernel

theorem witness_RefusalsChangeNothing :
    base.ready ∧ requestForm (.status 1 [0]) = some ⟨0x01, 1, [0], [0]⟩ ∧ [(0 : Byte)].length ∉ [0] ∧
      isRequestKind 0x00 = false ∧ isRequestKind 0x14 = false ∧
      (∃ t, exec (.resume 1 []) base = .next t ∧
        t.replyFrame? = some { kind := 0x89, tag := 1, payload := [0x10] }) ∧
      ({ base with link := { service := .resetting } } : State).link.service ≠ .free ∧
      (∀ rest ∈ [[], [Frame.mk 0x14 2 []]],
        let s : State := { base with link := { requests := ⟨0x01, 1, [0]⟩ :: rest } };
        s.powered = true ∧ s.link.service = .free ∧ s.link.requests = ⟨0x01, 1, [0]⟩ :: rest ∧
          (⟨0x01, 1, [0]⟩ : Frame) ≠ ⟨0x01, 2, [0]⟩) ∧
      (let s : State := { base with link := { requests := ⟨0x14, 2, []⟩ :: [] } };
        s.powered = true ∧ s.link.service = .free ∧ s.link.requests = ⟨0x14, 2, []⟩ :: []) := by
  refine ⟨base_ready, rfl, by decide, by decide, by decide, ⟨_, rfl, by decide +kernel⟩, by decide,
    by decide, by decide⟩

theorem witness_QueuesBounded : base.WithinCapacity ∧ (∃ t, step base = .next t) :=
  ⟨by unfold State.WithinCapacity; decide +kernel, ⟨_, rfl⟩⟩

theorem witness_StatusAndFlags :
    base.ready ∧ lowAir.ready ∧ lowAir.flag .pressureLow = true ∧
      (read4 0 2 0 0).getLsbD 17 = true ∧ lowAir.settings.pressurePolicy = .shed ∧
      base.flag .pressureLow = false :=
  ⟨base_ready, ⟨rfl, rfl, rfl⟩, by decide +kernel, by decide +kernel, rfl, by decide +kernel⟩

/-- Eight entries of one bank: seven of their images of 31 bytes fit in 237 bytes. -/
def eightQueued : List (Nat × List Byte) :=
  (List.range 8).map fun i => (i, ({ entry with track := BitVec.ofNat 16 i } : Entry).bytes)

/-- Every mode names entry 0 and the last of the 33 TALLY entries, or is refused there; every mode of a
collection names its one member, or none. -/
theorem witness_ReadAndShortRead :
    (base.ready ∧ (Table.tally, (6 : Byte).toNat, 33) ∈
        [(Table.route, 1, 32), (.bank, 2, 16), (.nozzle, 4, 128), (.tally, 6, 33)] ∧
        namesEntry 0 (read2 0 32) 0 32 ∧ namesEntry 1 9 32 32 ∧ namesEntry 2 9 32 0 ∧
        namesEntry 3 (read2 0 32) 0 32 ∧ 32 < 33 ∧ 33 ≤ read2 0 33 ∧ 3 < (4 : Byte).toNat ∧
        1 ≤ (1 : Byte).toNat ∧ (8 : Byte).toNat ≤ 8 ∧ 8 < (9 : Byte).toNat ∧ (0 : Byte).toNat = 0) ∧
      ((holding piece).ready ∧ (holding piece).members .track = [(5, piece.bytes)] ∧
        bankOfCode 15 = some 15 ∧ channelOfCode (3 : Byte).toNat = some .mx ∧
        4 < (5 : Byte).toNat ∧ Table.pulses 15 ≠ .track ∧
        6 < (7 : Byte).toNat ∧ 15 < (16 : Byte).toNat ∧ 3 < (4 : Byte).toNat) ∧
      ((∀ c ∈ [Cursor.front, .key 5], namesMembers 1 0 c [(5, piece.bytes)] [(5, piece.bytes)]) ∧
        namesMembers 1 0 .atEnd [(5, piece.bytes)] [] ∧
        namesMembers 2 0 .atEnd [(5, piece.bytes)] [(5, piece.bytes)] ∧
        namesMembers 3 (read2 0 0) .atEnd [(5, piece.bytes)] [(5, piece.bytes)] ∧
        namesMembers 3 (read2 0 1) .front [(5, piece.bytes)] [] ∧
        namesMembers 4 (read2 0 5) .atEnd [(5, piece.bytes)] [(5, piece.bytes)] ∧
        namesMembers 4 (read2 0 6) .front [(5, piece.bytes)] []) ∧
      (returnsOf [(5, piece.bytes)] 8 1 ∧ returnsOf [(5, piece.bytes)] 1 1 ∧
        returnsOf eightQueued 8 7 ∧ returnsOf eightQueued 6 6) ∧
      (let s := holding piece; s.cursors.current = .track ∧ s.cursors.collection .track = .front) ∧
      (let s : State := { base with cursors := { current := .tally, tally := 32 } };
        s.ready ∧ s.cursors.current = .tally ∧ (Table.tally, 33) ∈
          [(Table.route, 32), (.bank, 16), (.nozzle, 128), (.tally, 33)]) ∧
      (let s : State := { base with cursors := { track := .atEnd } };
        s.ready ∧ s.cursors.current = .track ∧ s.cursors.track = .atEnd) ∧
      (5 : Nat) ∉ [6] ∧ (threeHeld.latch .sa).fifo = latched 255 :: [latched 0, latched 1] := by
  have at_ : ∀ start : List (Nat × List Byte), start = [(5, piece.bytes)] →
      ∃ before m rest, [(5, piece.bytes)] = before ++ m :: rest ∧ m.1 = 5 ∧ (∀ x ∈ before, x.1 ≠ 5) ∧
        start = m :: rest := fun _ h => ⟨[], _, [], rfl, rfl, nofun, h⟩
  refine ⟨⟨base_ready, by decide, .inl (by decide), .inr (.inl (by decide)), .inr (.inr (.inl (by decide))),
    .inr (.inr (.inr (by decide))), by decide⟩, ⟨⟨rfl, rfl, rfl⟩, by decide +kernel⟩,
    ⟨?_, ?_, ?_, ?_, ?_, ?_, ?_⟩, ?_, by decide, ⟨⟨rfl, rfl, rfl⟩, rfl, by decide⟩, ⟨⟨rfl, rfl, rfl⟩, rfl, rfl⟩, by decide, rfl⟩
  · intro c hc
    simp only [List.mem_cons, List.not_mem_nil, or_false] at hc
    rcases hc with rfl | rfl
    · exact .inl ⟨rfl, .inl ⟨rfl, rfl⟩⟩
    · exact .inl ⟨rfl, .inr (.inr ⟨5, rfl, .inl (at_ _ rfl)⟩)⟩
  · exact .inl ⟨rfl, .inr (.inl ⟨rfl, rfl⟩)⟩
  · exact .inr (.inl ⟨rfl, rfl⟩)
  · exact .inr (.inr (.inl ⟨rfl, rfl⟩))
  · exact .inr (.inr (.inl ⟨rfl, rfl⟩))
  · exact .inr (.inr (.inr ⟨rfl, .inl (at_ _ rfl)⟩))
  · refine .inr (.inr (.inr ⟨rfl, .inr ⟨?_, rfl⟩⟩))
    intro x hx
    rw [List.mem_singleton.mp hx]
    decide
  · unfold returnsOf
    decide +kernel

theorem witness_WriteRoute :
    (base.ready ∧ 3 < (4 : Byte).toNat ∧ 31 < read2 0 32 ∧ namesEntry 3 (read2 0 31) 0 31 ∧
        2 < (3 : Byte).toNat ∧ 1 < (2 : Byte).toNat) ∧
      (destinationOfCode (2 : Byte).toNat = some .down ∧ levelOfCode (1 : Byte).toNat = some .high ∧
        policyOfCode (0 : Byte).toNat = some .degrade) ∧
      (let dmin : Byte := 250; let dmax : Byte := 180;
        max 1 (min 200 dmax.toNat) < max 1 (min 200 dmin.toNat)) ∧
      (let dmin : Byte := 250; let dmax : Byte := 200;
        max 1 (min 200 dmin.toNat) ≤ max 1 (min 200 dmax.toNat)) ∧
      (([2, 0, 0, 0, 0, 0] : List Byte).length = 6 ∧ byteAt [2, 0, 0, 0, 0, 0] 0 ≠ 1 ∧
        byteAt [2, 0, 0, 0, 0, 0] 0 ≠ 4 ∧ byteAt [1, 0, 0, 0, 0, 0] 0 = 1) := by
  refine ⟨⟨base_ready, by decide, by decide, .inr (.inr (.inr (by decide))), by decide⟩, by decide,
    by decide, by decide, by decide⟩

/-- Nozzle 24 is member 0 of bank 3, 127 the last; the eighth of bank 3 to fail is 24. -/
theorem witness_WriteNozzle :
    (base.ready ∧ namesEntry 0 (read2 0 127) 0 127 ∧ 127 < 128 ∧ 127 < read2 0 128) ∧
      (base.nozzle 127).grade ≠ .faulty ∧
      (∃ m : Member, nozzleOf 15 m ≠ 127 ∧ base.faulty (nozzleOf 15 m) = false) ∧
      ((lastOne.ready ∧ namesEntry 0 (read2 0 24) 0 24 ∧ (lastOne.nozzle 24).grade ≠ .faulty) ∧
        (∀ m : Member, nozzleOf 3 m ≠ 24 → lastOne.faulty (nozzleOf 3 m) = true) ∧
        (lastOne.bank 3).state ≠ .fenced) ∧
      ((1 : Byte) ≠ 0 ∧ (1 : Byte) ≠ 2) ∧
      (let p : List Byte := 4 :: List.replicate 14 0; p.length = 15 ∧ byteAt p 0 = 4) := by
  refine ⟨⟨base_ready, .inl (by decide), by decide⟩, by decide +kernel, by decide +kernel,
    ⟨⟨⟨by decide +kernel, by decide +kernel, by decide +kernel⟩, .inl (by decide), by decide +kernel⟩,
      by decide +kernel, by decide +kernel⟩, by decide, by decide⟩

theorem witness_ResetState : base.stored = none ∧ base.pending = [] := ⟨rfl, rfl⟩

end Sys2Proof.Tests
end

/-!
SUPPORT. The Belt Position Unit's decoding and its two positions (1.1, 1.2): what each change of the levels
is, how TC, HW and RX follow a count, and that every other command leaves TC and HW where they stand.
-/

namespace Sys2Proof.Machine

/-! ### Decoding (R2, R3) -/

theorem senseOf_decide (d : Direction) (p : Prop) [Decidable p] :
    senseOf d (decide p) = if d = .normal then decide p else decide (¬p) := by
  cases d <;> simp [senseOf]

theorem decodeEdge_edgeA (mode : DecodeMode) (d : Direction) (refA refB : Bool) :
    decodeEdge mode d refA refB (!refA) refB =
      if mode = .x1 ∧ refB = true then .silent else .counts (senseOf d (decide ((!refA) ≠ refB))) := by
  cases mode <;> simp [decodeEdge]

theorem decodeEdge_edgeB (mode : DecodeMode) (d : Direction) (refA refB : Bool) :
    decodeEdge mode d refA refB refA (!refB) =
      if mode = .x4 then .counts (senseOf d (decide ((!refB) = refA))) else .silent := by
  cases mode <;> simp [decodeEdge]

theorem decodeEdge_same (mode : DecodeMode) (d : Direction) (refA refB : Bool) :
    decodeEdge mode d refA refB refA refB = .unchanged := by simp [decodeEdge]

theorem decodeEdge_both (mode : DecodeMode) (d : Direction) (refA refB : Bool) :
    decodeEdge mode d refA refB (!refA) (!refB) = .phaseError := by simp [decodeEdge]

/-- A level has the reference level's value or the other one: the four changes of the decoding. -/
theorem eq_of_decodeEdge_unchanged {mode : DecodeMode} {d : Direction} {refA refB a b : Bool}
    (h : decodeEdge mode d refA refB a b = .unchanged) : a = refA ∧ b = refB := by
  rcases Bool.eq_or_eq_not a refA with rfl | rfl
  · rcases Bool.eq_or_eq_not b refB with rfl | rfl
    · exact ⟨rfl, rfl⟩
    · rw [decodeEdge_edgeB] at h
      split at h <;> cases h
  · rcases Bool.eq_or_eq_not b refB with rfl | rfl
    · rw [decodeEdge_edgeA] at h
      split at h <;> cases h
    · rw [decodeEdge_both] at h
      cases h

/-! ### HW and RX at a count (R4, R6) -/

theorem Belt.counted_forward_past {b : Belt} (h : 1 ≤ serialDiff (b.tc + 1) b.hw) :
    b.counted true = { b with tc := b.tc + 1, hw := b.tc + 1 } := by
  simp only [Belt.counted, if_true, if_pos h]

theorem Belt.counted_forward_behind {b : Belt} (h : ¬1 ≤ serialDiff (b.tc + 1) b.hw) :
    b.counted true = { b with tc := b.tc + 1 } := by
  simp only [Belt.counted, if_true, if_neg h]

theorem Belt.rx_le (b : Belt) : b.rx ≤ 2147483647 := by
  have := BitVec.toInt_lt (x := b.hw - b.tc)
  unfold Belt.rx serialDiff
  omega

/-- A reverse count takes the distance from TC up to HW, read without a sign, one further than RX. -/
theorem Belt.distance_reverse {b : Belt} (h : 0 ≤ b.rx) :
    ((b.hw - (b.tc - 1)).toNat : Int) = b.rx + 1 := by
  unfold Belt.rx serialDiff at *
  rw [BitVec.toInt_eq_toNat_cond] at *
  split at h
  · rename_i h1
    simp only [h1, if_true]
    bv_omega
  · omega

theorem Belt.counted_reverse_below {b : Belt} (h : 0 ≤ b.rx) (hne : b.rx ≠ 2147483647) :
    b.counted false = { b with tc := b.tc - 1 } := by
  have hd := Belt.distance_reverse h
  have hle := b.rx_le
  have hn : ¬2147483647 < (b.hw - (b.tc - 1)).toNat := by omega
  simp only [Belt.counted, Bool.false_eq_true, if_false, if_neg hn]

theorem Belt.counted_reverse_max {b : Belt} (h : b.rx = 2147483647) :
    b.counted false = { b with tc := b.tc - 1, hw := b.hw - 1 } := by
  have hd := Belt.distance_reverse (b := b) (by omega)
  have hm : 2147483647 < (b.hw - (b.tc - 1)).toNat := by omega
  simp only [Belt.counted, Bool.false_eq_true, if_false, if_pos hm]

/-- At its largest value RX stays through a reverse count (R6). -/
theorem Belt.rx_counted_reverse_max {b : Belt} (h : b.rx = 2147483647) :
    (b.counted false).rx = 2147483647 := by
  rw [Belt.counted_reverse_max h]
  have hsub : b.hw - 1 - (b.tc - 1) = b.hw - b.tc := by bv_omega
  show (b.hw - 1 - (b.tc - 1)).toInt = _
  rw [hsub]
  exact h

theorem Belt.rx_counted_reverse_below {b : Belt} (h : 0 ≤ b.rx) (hne : b.rx ≠ 2147483647) :
    (b.counted false).rx = b.rx + 1 := by
  have hd := Belt.distance_reverse h
  have hle := b.rx_le
  rw [Belt.counted_reverse_below h hne]
  show (b.hw - (b.tc - 1)).toInt = _
  rw [BitVec.toInt_eq_toNat_cond, if_pos (by omega), hd]

theorem Belt.rx_counted_forward_past {b : Belt} (h : 1 ≤ serialDiff (b.tc + 1) b.hw) :
    (b.counted true).rx = 0 := by
  simp [Belt.counted_forward_past h, Belt.rx, serialDiff]

/-- A forward count that does not pass HW comes one nearer to it. -/
theorem Belt.rx_counted_forward_behind {b : Belt} (hrx : 0 ≤ b.rx)
    (h : ¬1 ≤ serialDiff (b.tc + 1) b.hw) : (b.counted true).rx = b.rx - 1 ∧ 1 ≤ b.rx := by
  rw [Belt.counted_forward_behind h]
  unfold Belt.rx serialDiff at *
  rw [BitVec.toInt_eq_toNat_cond] at *
  rw [BitVec.toInt_eq_toNat_cond]
  bv_omega

/-- No count takes RX below 0 (R6). -/
theorem Belt.rx_counted_nonneg {b : Belt} (h : 0 ≤ b.rx) (forward : Bool) :
    0 ≤ (b.counted forward).rx := by
  cases forward with
  | true =>
    by_cases hp : 1 ≤ serialDiff (b.tc + 1) b.hw
    · rw [Belt.rx_counted_forward_past hp]
    · obtain ⟨hrx, hpos⟩ := Belt.rx_counted_forward_behind h hp
      omega
  | false =>
    by_cases hm : b.rx = 2147483647
    · rw [Belt.rx_counted_reverse_max hm]
      decide
    · rw [Belt.rx_counted_reverse_below h hm]
      omega

/-! ### What leaves the belt as it stands -/

@[simp] theorem State.flush_belt (s : State) : s.flush.belt = s.belt := by
  have hfold : BankSide s (s.store.records.foldl
      (fun t r => t.modTally r.tallyClass fun k => { k with flushed := satInc k.flushed }) s) :=
    BankSide.foldl (fun t (r : Record) => BankSide.modTally t r.tallyClass _) _ s
  exact hfold.belt

@[simp] theorem State.enterHalted_belt (s : State) (cause : HaltCause) :
    (s.enterHalted cause).belt = s.belt := by
  show s.flush.darkenBanks.belt = s.belt
  simp

@[simp] theorem State.haltRequest_belt (s : State) (cause : HaltCause) :
    (s.haltRequest cause).belt = s.belt := by
  unfold State.haltRequest
  split <;> simp

@[simp] theorem State.limitCrossed_belt (s : State) (cause : HaltCause) :
    (s.limitCrossed cause).belt = s.belt := by
  unfold State.limitCrossed
  split <;> simp

@[simp] theorem State.setFlagIf_belt (s : State) (c : Bool) (f : Flag) :
    (s.setFlagIf c f).belt = s.belt := by
  unfold State.setFlagIf
  split <;> rfl

@[simp] theorem State.setFlag?_belt (s : State) (f : Option Flag) : (s.setFlag? f).belt = s.belt := by
  cases f <;> rfl

@[simp] theorem State.popOldest_belt (s : State) (c : Channel) : (s.popOldest c).belt = s.belt := by
  unfold State.popOldest
  split <;> rfl

@[simp] theorem State.removeUnreported_belt (s : State) (c : Channel) :
    (s.removeUnreported c).belt = s.belt := by simp [State.removeUnreported]

@[simp] theorem State.removeOldest_belt (s : State) (c : Channel) (n : Nat) :
    (s.removeOldest c n).belt = s.belt := by
  induction n generalizing s with
  | zero => rfl
  | succ n ih => exact (ih _).trans (s.removeUnreported_belt c)

@[simp] theorem State.makeRoom_belt (s : State) (c : Channel) : (s.makeRoom c).belt = s.belt := by
  unfold State.makeRoom
  split
  · split <;> simp
  · split <;> simp
  · simp
  · simp

@[simp] theorem State.capture_belt (s : State) (c : Channel) (position : Pos) (time : Time) :
    (s.capture c position time).belt = s.belt := by simp [State.capture]

@[simp] theorem State.stopWatch_belt (s : State) (c : Channel) : (s.stopWatch c).belt = s.belt := rfl

@[simp] theorem State.restartSilence_belt (s : State) (h : Head) :
    (s.restartSilence h).belt = s.belt := rfl

@[simp] theorem State.frameError_belt (s : State) (h : Head) : (s.frameError h).belt = s.belt := rfl

@[simp] theorem State.joiningLost_belt (s : State) (coils : Coils) :
    (s.joiningLost coils).belt = s.belt := (BankSide.joiningLost s coils).belt

@[simp] theorem State.headLost_belt (s : State) (h : Head) (coils : Coils) :
    (s.headLost h coils).belt = s.belt := by
  unfold State.headLost
  split
  · cases h <;> simp
  · rfl

@[simp] theorem State.takeHeadState_belt (s : State) (h : Head) (payload : List Byte) (coils : Coils) :
    (s.takeHeadState h payload coils).belt = s.belt := by
  unfold State.takeHeadState
  split
  · dsimp only
    split <;> simp
  · rfl

@[simp] theorem State.handReport_belt (s : State) (h : Head) (p : HeadPart) (coils : Coils) :
    (s.handReport h p coils).belt = s.belt := (BankSide.handReport s h p coils).belt

@[simp] theorem State.bind_belt (s : State) (h : Head) (r : ReportFields) (coils : Coils) :
    (s.bind h r coils).belt = s.belt := by
  unfold State.bind
  dsimp only
  split <;> simp

@[simp] theorem State.takeReport_belt (s : State) (h : Head) (payload : List Byte) (coils : Coils) :
    (s.takeReport h payload coils).belt = s.belt := by
  unfold State.takeReport
  split <;> simp

@[simp] theorem State.frameFault_belt (s : State) (p : Port) : (s.frameFault p).belt = s.belt := by
  cases p <;> rfl

@[simp] theorem State.acceptRequest_belt (s : State) (f : Frame) :
    (s.acceptRequest f).belt = s.belt := by
  unfold State.acceptRequest
  split <;> rfl

@[simp] theorem State.acceptFrame_belt (s : State) (p : Port) (f : Frame) (coils : Coils) :
    (s.acceptFrame p f coils).belt = s.belt := by
  unfold State.acceptFrame
  cases p with
  | control => simp
  | head h =>
    dsimp only
    split
    · simp
    · split <;> simp

@[simp] theorem State.takeByte_belt (s : State) (p : Port) (e : ByteEffect) (coils : Coils) :
    (s.takeByte p e coils).belt = s.belt := by
  cases e <;> simp [State.takeByte]

@[simp] theorem State.pressureLow_belt (s : State) : s.pressureLow.belt = s.belt := by
  unfold State.pressureLow
  split <;> simp

@[simp] theorem State.lowTest_belt (s : State) (reading : Nat) : (s.lowTest reading).belt = s.belt := by
  unfold State.lowTest
  repeat' split
  all_goals simp

@[simp] theorem State.raise_belt (s : State) (k : NoticeKind) : (s.raise k).belt = s.belt := by
  obtain ⟨l, fl, h⟩ := State.raise_eq s k
  rw [h]

@[simp] theorem State.passDrain_belt (s : State) : s.passDrain.belt = s.belt := by
  unfold State.passDrain
  split <;> simp

@[simp] theorem State.clearFlagsOf_belt (s : State) (mask : FlagMask) :
    (s.clearFlagsOf mask).belt = s.belt := by
  unfold State.clearFlagsOf
  dsimp only
  split <;> rfl

@[simp] theorem State.startRun_belt (s : State) (coils : Coils) : (s.startRun coils).belt = s.belt := by
  have hfold : BankSide s (allBanks.foldl (State.conditionDark coils) s) :=
    BankSide.foldl (BankSide.conditionDark coils) allBanks s
  simp only [State.startRun, hfold.belt]

@[simp] theorem State.unfenceBank_belt (s : State) (b : BankId) (coils : Coils) :
    (s.unfenceBank b coils).belt = s.belt := by
  have hbegin := (BankSide.beginConditioning coils (s.modBank b Bank.unfenced) b).belt
  unfold State.unfenceBank
  dsimp only
  split
  · exact hbegin
  · exact hbegin
  · rfl
  · rfl
  · rfl

@[simp] theorem State.addRecord_belt (s : State) (make : TrackId → Nat → Record) (coils : Coils) :
    (s.addRecord make coils).belt = s.belt := (BankSide.addRecord s make coils).belt

@[simp] theorem State.readRequest_belt (s : State) (payload : List Byte) :
    (s.readRequest payload).2.belt = s.belt := by
  unfold State.readRequest
  split
  · rfl
  · unfold State.readFrom
    split
    · rfl
    · split
      · rfl
      · unfold State.readCollection
        dsimp only
        split <;> rfl

@[simp] theorem State.writeRoute_belt (s : State) (l : Locator) (bs : List Byte) :
    (s.writeRoute l bs).2.belt = s.belt := by
  unfold State.writeRoute
  split
  · rfl
  · split <;> rfl

@[simp] theorem State.writeNozzle_belt (s : State) (l : Locator) (grade : Byte) :
    (s.writeNozzle l grade).2.belt = s.belt := by
  unfold State.writeNozzle
  dsimp only
  split
  · rfl
  · dsimp only
    split
    · rfl
    · exact (BankSide.autoFence _ _).belt
  · rfl

@[simp] theorem State.writeRequest_belt (s : State) (payload : List Byte) :
    (s.writeRequest payload).2.belt = s.belt := by
  unfold State.writeRequest
  dsimp only
  split
  · rfl
  · split
    · rfl
    · split
      · rfl
      · split <;> simp

/-- A request taken into service finds the belt as it was (R169). -/
theorem State.takeRequest_belt {s t : State} {f : Frame} (h : s.takeRequest f = some t) :
    t.belt = s.belt := by
  obtain ⟨-, -, q, rfl, -⟩ := State.takeRequest_eq h
  rfl

/-! ### What leaves TC and HW where they stand -/

/-- TC and HW stand in `t` where they stand in `s`. -/
structure SamePlace (s t : State) : Prop where
  tc : t.belt.tc = s.belt.tc
  hw : t.belt.hw = s.belt.hw

namespace SamePlace

theorem of_belt {s t : State} (h : t.belt = s.belt) : SamePlace s t := ⟨by rw [h], by rw [h]⟩

theorem refl (s : State) : SamePlace s s := ⟨rfl, rfl⟩

theorem trans {s t u : State} (h : SamePlace s t) (k : SamePlace t u) : SamePlace s u :=
  ⟨k.tc.trans h.tc, k.hw.trans h.hw⟩

/-- RX is HW minus TC, so it stands where they stand (R6). -/
theorem rx {s t : State} (h : SamePlace s t) : t.belt.rx = s.belt.rx := by
  unfold Belt.rx
  rw [h.tc, h.hw]

theorem reverseTest (s : State) (forward : Bool) : SamePlace s (s.reverseTest forward) := by
  unfold State.reverseTest
  split
  · split
    · exact ⟨rfl, rfl⟩
    · exact refl s
  · split
    · constructor <;> simp
    · exact refl s

theorem takeSample (s : State) : SamePlace s s.takeSample := ⟨rfl, rfl⟩

theorem overspeedTest (s : State) : SamePlace s s.overspeedTest := by
  unfold State.overspeedTest
  split
  · exact refl s
  · split
    · split
      · exact ⟨rfl, rfl⟩
      · exact refl s
    · split
      · constructor <;> simp
      · exact refl s

theorem slipCheck (s : State) (loop : Int) : SamePlace s (s.slipCheck loop) := by
  unfold State.slipCheck
  split
  · exact refl s
  · split <;> exact ⟨rfl, rfl⟩

theorem markCapture (s : State) (position : Pos) : SamePlace s (s.markCapture position) := by
  unfold State.markCapture
  split
  · exact ⟨rfl, rfl⟩
  · rename_i previous _
    have hcheck := slipCheck { s with belt := { s.belt with
        lastLoop := some (serialDiff position previous), prevMark := some position } }
      (serialDiff position previous)
    exact ⟨hcheck.tc, hcheck.hw⟩

theorem lineCapture (s : State) (line : Line) (position : Pos) (time : Time) :
    SamePlace s (s.lineCapture line position time) := by
  have hcapture : SamePlace s (s.capture (channelOfLine line) position time) :=
    of_belt (State.capture_belt _ _ _ _)
  unfold State.lineCapture
  cases line with
  | sa => exact hcapture
  | sb => exact hcapture
  | bm =>
    dsimp only
    split
    · exact hcapture.trans (markCapture _ _)
    · exact hcapture

theorem startWatch (s : State) (c : Channel) : SamePlace s (s.startWatch c) := by
  cases c <;> exact ⟨rfl, rfl⟩

theorem settingTaken (s before : State) (n : SettingName) (coils : Coils) :
    SamePlace s (s.settingTaken before n coils) := by
  unfold State.settingTaken
  split
  · split
    · exact ⟨rfl, rfl⟩
    · exact refl s
  · split
    · exact ⟨rfl, rfl⟩
    · exact refl s
  · split
    · exact ⟨rfl, rfl⟩
    · exact refl s
  · exact of_belt ((BankSide.modBank _ _ _).trans (BankSide.purgeTest _ _ _)).belt
  · exact of_belt (BankSide.afterShed _ _ _).belt
  · exact refl s

theorem putSetting (s : State) (n : SettingName) (v : Int) (coils : Coils) :
    SamePlace s (s.putSetting n v coils) := by
  have htaken := settingTaken { s with settings := s.settings.put n v } s n coils
  exact ⟨htaken.tc, htaken.hw⟩

theorem warmReset (s : State) : SamePlace s s.warmReset := by
  constructor <;> simp [State.warmReset, Belt.reset]

end SamePlace

/-! ### How a command is carried out -/

/-- What an event leaves: the closed event, or on a part without supply the state as it was. -/
theorem event_next {s t : State} {f : State → State} (h : event s f = .next t) :
    t = closeEvent s (f s) ∨ t = s := by
  cases hp : s.powered with
  | true =>
    rw [event_powered hp] at h
    exact .inl (Host.Outcome.next.inj h).symm
  | false =>
    rw [event_unpowered hp] at h
    exact .inr (Host.Outcome.next.inj h).symm

/-- What a request leaves: nothing changed, the refusal of its LEN, or its effect (R169, R170). -/
theorem serveAfter_next {prepare : State → State} {kind tag : Byte} {payload : List Byte}
    {lens : List Nat} {act : State → Answer × State} {s t : State}
    (h : serveAfter prepare kind tag payload lens act s = .next t) :
    t = s ∨ ∃ s0 reply thenReset,
      s.takeRequest { kind := kind, tag := tag, payload := payload } = some s0 ∧
      (t = closeEvent s0 (s0.handReply reply thenReset) ∨
        t = closeEvent (prepare s0) ((act (prepare s0)).2.handReply reply thenReset)) := by
  have ht := (Host.Outcome.next.inj h).symm
  split at ht
  · exact .inl ht
  · rename_i s0 htake
    split at ht
    · exact .inr ⟨s0, _, _, htake, .inr ht⟩
    · exact .inr ⟨s0, _, _, htake, .inl ht⟩

namespace SamePlace

theorem event {f : State → State} (hf : ∀ s, SamePlace s (f s)) {s t : State}
    (h : event s f = .next t) : SamePlace s t := by
  rcases event_next h with rfl | rfl
  · exact (hf s).trans (of_belt (closeEvent_belt _ _))
  · exact refl _

theorem serveAfter {prepare : State → State} {kind tag : Byte} {payload : List Byte} {lens : List Nat}
    {act : State → Answer × State} (hp : ∀ s, SamePlace s (prepare s))
    (ha : ∀ s, SamePlace s (act s).2) {s t : State}
    (h : serveAfter prepare kind tag payload lens act s = .next t) : SamePlace s t := by
  rcases serveAfter_next h with rfl | ⟨s0, reply, thenReset, htake, rfl | rfl⟩
  · exact refl _
  · exact of_belt (by simp [State.takeRequest_belt htake])
  · have htaken : SamePlace s s0 := of_belt (State.takeRequest_belt htake)
    exact ((htaken.trans (hp s0)).trans (ha _)).trans (of_belt (by simp))

theorem serve {kind tag : Byte} {payload : List Byte} {lens : List Nat} {act : State → Answer × State}
    (ha : ∀ s, SamePlace s (act s).2) {s t : State}
    (h : serve kind tag payload lens act s = .next t) : SamePlace s t :=
  serveAfter refl ha h

end SamePlace

end Sys2Proof.Machine

/-!
SUPPORT. Every command but ENCODER_EDGE and POWER_ON leaves TC and HW where they stand (R4, R6), one lemma
for each command whose meaning branches, and the rule over all commands.
-/

namespace Sys2Proof.Machine.SamePlace

variable {s t : State}

/-! ### The belt, the strobes and the heads (chapters 1 and 2) -/

theorem execSpeedSample {coils : Coils} (h : execSpeedSample coils s = .next t) : SamePlace s t := by
  refine event (fun u => ?_) h
  exact ((takeSample u).trans (overspeedTest _)).trans
    (of_belt ((BankSide.planHeld _).trans (BankSide.purgeTests _ coils)).belt)

theorem execStallTimerExpiry {coils : Coils} (h : execStallTimerExpiry coils s = .next t) :
    SamePlace s t := by
  refine event (fun u => ?_) h
  split
  · exact refl u
  · constructor <;> simp [(BankSide.purgeTests _ coils).belt]

theorem execActiveEdge {line : Line} {high : Bool} (h : execActiveEdge line high s = .next t) :
    SamePlace s t := by
  refine event (fun u => ?_) h
  split <;> exact ⟨rfl, rfl⟩

theorem execStrobeReturn {line : Line} {high : Bool} (h : execStrobeReturn line high s = .next t) :
    SamePlace s t := by
  refine event (fun u => ?_) h
  split <;> exact ⟨rfl, rfl⟩

theorem execFilterExpiry {line : Line} (h : execFilterExpiry line s = .next t) : SamePlace s t := by
  refine event (fun u => ?_) h
  split
  · exact refl u
  · exact (of_belt (by simp)).trans (lineCapture _ _ _ _)

theorem execDeadlineExpiry {head : Head} {seq : Byte} (h : execDeadlineExpiry head seq s = .next t) :
    SamePlace s t := by
  refine event (fun u => of_belt ?_) h
  dsimp only
  split
  · rfl
  · split <;> simp

theorem execReport {head : Head} {payload : List Byte} {coils : Coils}
    (h : execReport head payload coils s = .next t) : SamePlace s t :=
  event (fun u => of_belt ((u.huntHead head).takeReport_belt head payload coils)) h

theorem execHeadState {head : Head} {payload : List Byte} {coils : Coils}
    (h : execHeadState head payload coils s = .next t) : SamePlace s t :=
  event (fun u => of_belt ((u.huntHead head).takeHeadState_belt head payload coils)) h

theorem execSilenceTimerExpiry {head : Head} {coils : Coils}
    (h : execSilenceTimerExpiry head coils s = .next t) : SamePlace s t := by
  refine event (fun u => of_belt ?_) h
  split <;> simp

theorem execLatchWatch {tag : Byte} {payload : List Byte} (h : execLatchWatch tag payload s = .next t) :
    SamePlace s t := by
  refine serve (fun u => ?_) h
  split
  · exact of_belt (State.stopWatch_belt _ _)
  · exact startWatch _ _
  · exact refl u

theorem execLatchNow {tag : Byte} {payload : List Byte} (h : execLatchNow tag payload s = .next t) :
    SamePlace s t := by
  refine serve (fun u => of_belt ?_) h
  exact u.capture_belt .mx _ _

/-! ### The link (chapter 10) -/

theorem execFrameAccepted {kind tag : Byte} {payload : List Byte}
    (h : execFrameAccepted kind tag payload s = .next t) : SamePlace s t := by
  refine event (fun u => of_belt ?_) h
  exact (u.setReceiver .control {}).acceptRequest_belt _

theorem execByteReceived {p : Port} {byte : Byte} {stopBit : Bool} {coils : Coils}
    (h : execByteReceived p byte stopBit coils s = .next t) : SamePlace s t := by
  refine event (fun u => of_belt ?_) h
  exact u.takeByte_belt p _ coils

theorem execStatus {tag : Byte} {payload : List Byte} (h : execStatus tag payload s = .next t) :
    SamePlace s t := by
  refine serve (fun u => ?_) h
  exact refl u

theorem execFrameTimerExpiry {p : Port} (h : execFrameTimerExpiry p s = .next t) : SamePlace s t := by
  refine event (fun u => of_belt ?_) h
  split <;> simp

theorem execFrameSent (h : execFrameSent s = .next t) : SamePlace s t := by
  refine event (fun u => of_belt ?_) h
  split <;> rfl

theorem execUnknownKind {kind tag : Byte} {payload : List Byte}
    (h : execUnknownKind kind tag payload s = .next t) : SamePlace s t := by
  have ht := (Host.Outcome.next.inj h).symm
  split at ht
  · exact ht ▸ refl s
  · rename_i s0 htake
    split at ht
    · exact ht ▸ refl s
    · exact of_belt (by simp [ht, State.takeRequest_belt htake])

/-! ### The banks (chapters 6 and 7) -/

theorem execWave {b : BankId} {id : TrackId} {coils : Coils} (h : execWave b id coils s = .next t) :
    SamePlace s t := by
  refine event (fun u => of_belt ?_) h
  split
  · rfl
  · split
    · rfl
    · split
      · exact (BankSide.openWave _ b id coils).belt
      · rfl

theorem execNozzleClosing {b : BankId} {m : Member} (h : execNozzleClosing b m s = .next t) :
    SamePlace s t := by
  refine event (fun u => of_belt ?_) h
  split <;> rfl

theorem execPulseExpiry {b : BankId} {id : TrackId} (h : execPulseExpiry b id s = .next t) :
    SamePlace s t := by
  refine event (fun u => of_belt ?_) h
  split
  · rfl
  · split
    · rfl
    · split
      · exact (BankSide.pulseEnds _ b _).belt
      · rfl

theorem execRechargeExpiry {b : BankId} {coils : Coils} (h : execRechargeExpiry b coils s = .next t) :
    SamePlace s t := by
  refine event (fun u => of_belt ?_) h
  split
  · exact (BankSide.rechargeDone _ b coils).belt
  · rfl

theorem execSwitchExpiry {b : BankId} {coils : Coils} (h : execSwitchExpiry b coils s = .next t) :
    SamePlace s t := by
  refine event (fun u => of_belt ?_) h
  split
  · exact (BankSide.switchDone _ b _ coils).belt
  · rfl

theorem execFireEnableFall (h : execFireEnableFall s = .next t) : SamePlace s t := by
  refine event (fun u => of_belt ?_) h
  split
  · exact (BankSide.foldl BankSide.cutBank allBanks _).belt
  · rfl

theorem execFireEnableRise {coils : Coils} (h : execFireEnableRise coils s = .next t) :
    SamePlace s t := by
  refine event (fun u => of_belt ?_) h
  split
  · rfl
  · exact ((BankSide.foldl (BankSide.retryStep coils) allBanks _).trans
      (BankSide.purgeTests _ coils)).belt

theorem execPurgeTimerExpiry {b : BankId} {coils : Coils}
    (h : execPurgeTimerExpiry b coils s = .next t) : SamePlace s t := by
  refine event (fun u => of_belt ?_) h
  split
  · rfl
  · exact (BankSide.purgeTest coils _ b).belt

theorem execPurgeExpiry {b : BankId} (h : execPurgeExpiry b s = .next t) : SamePlace s t := by
  refine event (fun u => of_belt ?_) h
  split <;> rfl

theorem execConditioningStepExpiry {b : BankId} {coils : Coils}
    (h : execConditioningStepExpiry b coils s = .next t) : SamePlace s t := by
  refine event (fun u => of_belt ?_) h
  split
  · exact (BankSide.stepDone _ b _ coils).belt
  · rfl

theorem execFence {tag : Byte} {payload : List Byte} (h : execFence tag payload s = .next t) :
    SamePlace s t := by
  refine serve (fun u => of_belt ?_) h
  split
  · rfl
  · exact (BankSide.fenceBank u _).belt

theorem execUnfence {tag : Byte} {payload : List Byte} {coils : Coils}
    (h : execUnfence tag payload coils s = .next t) : SamePlace s t := by
  refine serve (fun u => of_belt ?_) h
  split
  · rfl
  · split
    · rfl
    · split <;> simp

theorem execSetLevel {tag : Byte} {payload : List Byte} (h : execSetLevel tag payload s = .next t) :
    SamePlace s t := by
  refine serve (fun u => of_belt ?_) h
  split
  · repeat' split
    all_goals rfl
  · rfl

/-! ### Settings, pressure and power (8.1, 9.5 to 9.7) -/

theorem execGet {tag : Byte} {payload : List Byte} (h : execGet tag payload s = .next t) :
    SamePlace s t := by
  refine serve (fun u => of_belt ?_) h
  split <;> rfl

theorem execSet {tag : Byte} {payload : List Byte} {coils : Coils}
    (h : execSet tag payload coils s = .next t) : SamePlace s t := by
  refine serve (fun u => ?_) h
  split
  · exact refl u
  · exact refl u
  · split
    · exact refl u
    · split
      · exact refl u
      · split
        · exact refl u
        · exact putSetting _ _ _ _

theorem execSave {tag : Byte} {payload : List Byte} (h : execSave tag payload s = .next t) :
    SamePlace s t := by
  have ht := (Host.Outcome.next.inj h).symm
  split at ht
  · exact ht ▸ refl s
  · rename_i s0 htake
    split at ht <;> exact of_belt (by simp [ht, State.takeRequest_belt htake])

theorem execSaveComplete (h : execSaveComplete s = .next t) : SamePlace s t := by
  refine event (fun u => of_belt ?_) h
  split <;> rfl

theorem execPressureSample {microamps : Nat} (h : execPressureSample microamps s = .next t) :
    SamePlace s t := by
  refine event (fun u => of_belt ?_) h
  simp

theorem execPowerFailure (h : execPowerFailure s = .next t) : SamePlace s t := by
  cases h
  exact ⟨rfl, rfl⟩

/-! ### Run Control and the store (chapters 3 and 9) -/

theorem execStart {tag : Byte} {payload : List Byte} {coils : Coils}
    (h : execStart tag payload coils s = .next t) : SamePlace s t := by
  refine serve (fun u => of_belt ?_) h
  repeat' split
  all_goals simp

theorem execStop {tag : Byte} {payload : List Byte} (h : execStop tag payload s = .next t) :
    SamePlace s t := by
  refine serveAfter (fun u => of_belt (State.passDrain_belt u)) (fun u => of_belt ?_) h
  repeat' split
  all_goals rfl

theorem execAbortRun {tag : Byte} {payload : List Byte} (h : execAbortRun tag payload s = .next t) :
    SamePlace s t := by
  refine serve (fun u => of_belt ?_) h
  split <;> simp

theorem execResume {tag : Byte} {payload : List Byte} (h : execResume tag payload s = .next t) :
    SamePlace s t := by
  refine serve (fun u => of_belt ?_) h
  split <;> rfl

theorem execReset {tag : Byte} {payload : List Byte} (h : execReset tag payload s = .next t) :
    SamePlace s t := by
  refine serve (fun u => ?_) h
  exact refl u

theorem execWarmReset (h : execWarmReset s = .next t) : SamePlace s t := by
  have ht := (Host.Outcome.next.inj h).symm
  split at ht
  · exact ht ▸ warmReset s
  · exact ht ▸ refl s

theorem execInject {tag : Byte} {payload : List Byte} {coils : Coils}
    (h : execInject tag payload coils s = .next t) : SamePlace s t := by
  refine serve (fun u => of_belt ?_) h
  dsimp only
  split
  · rfl
  · split
    · rfl
    · split
      · rfl
      · simp

theorem execClearTallies {tag : Byte} {payload : List Byte}
    (h : execClearTallies tag payload s = .next t) : SamePlace s t := by
  refine serve (fun u => ?_) h
  exact ⟨rfl, rfl⟩

theorem execClearFlags {tag : Byte} {payload : List Byte} {coils : Coils}
    (h : execClearFlags tag payload coils s = .next t) : SamePlace s t :=
  serveAfter (fun u => of_belt (State.clearFlagsOf_belt u _))
    (fun u => of_belt (BankSide.afterShed u _ coils).belt) h

end Sys2Proof.Machine.SamePlace

namespace Sys2Proof.Machine

/-- Encoder counts and POWER_ON alone move TC and HW (R4, R6, R162). -/
theorem exec_samePlace {c : Instr} {s t : State} (h : exec c s = .next t)
    (hpower : ∀ a b f, c ≠ .powerOn a b f) (hedge : ∀ a b k, c ≠ .encoderEdge a b k) :
    SamePlace s t := by
  cases c with
  | powerOn a b f => exact absurd rfl (hpower a b f)
  | encoderEdge a b k => exact absurd rfl (hedge a b k)
  | speedSample coils => exact .execSpeedSample h
  | stallTimerExpiry coils => exact .execStallTimerExpiry h
  | activeEdge line high => exact .execActiveEdge h
  | strobeReturn line high => exact .execStrobeReturn h
  | filterExpiry line => exact .execFilterExpiry h
  | deadlineExpiry head seq => exact .execDeadlineExpiry h
  | frameAccepted kind tag payload => exact .execFrameAccepted h
  | frameFault port => exact .event (fun u => .of_belt (u.frameFault_belt port)) h
  | frameTimerExpiry port => exact .execFrameTimerExpiry h
  | report head payload coils => exact .execReport h
  | headState head payload coils => exact .execHeadState h
  | silenceTimerExpiry head coils => exact .execSilenceTimerExpiry h
  | wave b id coils => exact .execWave h
  | nozzleClosing b m => exact .execNozzleClosing h
  | pulseExpiry b id => exact .execPulseExpiry h
  | rechargeExpiry b coils => exact .execRechargeExpiry h
  | switchExpiry b coils => exact .execSwitchExpiry h
  | fireEnableFall => exact .execFireEnableFall h
  | fireEnableRise coils => exact .execFireEnableRise h
  | purgeTimerExpiry b coils => exact .execPurgeTimerExpiry h
  | purgeExpiry b => exact .execPurgeExpiry h
  | conditioningStepExpiry b coils => exact .execConditioningStepExpiry h
  | pressureSample microamps => exact .execPressureSample h
  | status tag payload => exact .execStatus h
  | clearFlags tag payload coils => exact .execClearFlags h
  | get tag payload => exact .execGet h
  | set tag payload coils => exact .execSet h
  | save tag payload => exact .execSave h
  | saveComplete => exact .execSaveComplete h
  | start tag payload coils => exact .execStart h
  | stop tag payload => exact .execStop h
  | abortRun tag payload => exact .execAbortRun h
  | resume tag payload => exact .execResume h
  | reset tag payload => exact .execReset h
  | warmReset => exact .execWarmReset h
  | read tag payload => exact .serve (fun u => .of_belt (u.readRequest_belt payload)) h
  | shortRead tag payload => exact .serve (fun u => .of_belt (u.readRequest_belt payload)) h
  | writeRoute tag payload => exact .serve (fun u => .of_belt (u.writeRequest_belt payload)) h
  | writeNozzle tag payload => exact .serve (fun u => .of_belt (u.writeRequest_belt payload)) h
  | fence tag payload => exact .execFence h
  | unfence tag payload coils => exact .execUnfence h
  | setLevel tag payload => exact .execSetLevel h
  | latchWatch tag payload => exact .execLatchWatch h
  | latchNow tag payload => exact .execLatchNow h
  | inject tag payload coils => exact .execInject h
  | clearTallies tag payload => exact .execClearTallies h
  | unknownKind kind tag payload => exact .execUnknownKind h
  | frameSent => exact .execFrameSent h
  | byteReceived port byte stopBit coils => exact .execByteReceived h
  | powerFailure => exact .execPowerFailure h

/-! ### The counting command (R2, R4) -/

/-- A count moves TC and HW as R6 states, from where they stood; the tests it brings leave them. -/
theorem State.count_place (s : State) (forward : Bool) (coils : Coils) :
    (s.count forward coils).belt.tc = (s.belt.counted forward).tc ∧
      (s.count forward coils).belt.hw = (s.belt.counted forward).hw := by
  have hhand := (BankSide.handCount (s.beltCount forward) forward coils).belt
  unfold State.count
  rw [hhand]
  unfold State.beltCount
  dsimp only
  constructor
  · rw [(SamePlace.reverseTest _ forward).tc]
  · rw [(SamePlace.reverseTest _ forward).hw]

theorem State.reverseTest_levels (s : State) (forward : Bool) :
    (s.reverseTest forward).belt.refA = s.belt.refA ∧
      (s.reverseTest forward).belt.refB = s.belt.refB := by
  unfold State.reverseTest
  split
  · split <;> exact ⟨rfl, rfl⟩
  · split
    · constructor <;> simp
    · exact ⟨rfl, rfl⟩

theorem Belt.counted_levels (b : Belt) (forward : Bool) :
    (b.counted forward).refA = b.refA ∧ (b.counted forward).refB = b.refB := by
  cases forward <;> exact ⟨rfl, rfl⟩

/-- A count leaves the reference levels as the change that made it set them. -/
theorem State.count_levels (s : State) (forward : Bool) (coils : Coils) :
    (s.count forward coils).belt.refA = s.belt.refA ∧
      (s.count forward coils).belt.refB = s.belt.refB := by
  have hhand := (BankSide.handCount (s.beltCount forward) forward coils).belt
  have hlevels := Belt.counted_levels s.belt forward
  unfold State.count
  rw [hhand]
  unfold State.beltCount
  dsimp only
  constructor
  · rw [(State.reverseTest_levels _ forward).1]
    exact hlevels.1
  · rw [(State.reverseTest_levels _ forward).2]
    exact hlevels.2

theorem State.count_rxKept {s : State} (h : s.RxKept) (forward : Bool) (coils : Coils) :
    (s.count forward coils).RxKept := by
  obtain ⟨htc, hhw⟩ := State.count_place s forward coils
  unfold State.RxKept Belt.rx
  rw [htc, hhw]
  exact Belt.rx_counted_nonneg h forward

end Sys2Proof.Machine

/-!
SUPPORT. The two statements of the Belt Position Unit's decoding and excursion, settled (R2, R3, R6).
-/

namespace Sys2Proof.Machine

/-- POWER_ON starts the belt anew, at the levels of the lines (R162). -/
theorem execPowerOn_belt {encA encB fireEn : Bool} {s t : State}
    (h : execPowerOn encA encB fireEn s = .next t) : t.belt = { refA := encA, refB := encB } := by
  rw [← Host.Outcome.next.inj h]
  simp

/-- A change on the lines keeps RX from below 0 (R6): only a count moves TC and HW. -/
theorem execEncoderEdge_rxKept {a b : Bool} {coils : Coils} {s t : State} (hrx : s.RxKept)
    (h : execEncoderEdge a b coils s = .next t) : t.RxKept := by
  rcases event_next h with rfl | rfl
  · unfold State.RxKept
    rw [closeEvent_belt]
    split
    · exact hrx
    · exact hrx
    · exact hrx
    · exact State.count_rxKept (s := s.takeLevels a b) hrx _ coils
  · exact hrx

/-- The invariant of R6 over every command. -/
theorem exec_rxKept {c : Instr} {s t : State} (hrx : s.RxKept) (h : exec c s = .next t) : t.RxKept := by
  by_cases hpower : ∃ a b f, c = .powerOn a b f
  · obtain ⟨a, b, f, rfl⟩ := hpower
    unfold State.RxKept
    rw [execPowerOn_belt h]
    simp [Belt.rx, serialDiff]
  by_cases hedge : ∃ a b k, c = .encoderEdge a b k
  · obtain ⟨a, b, k, rfl⟩ := hedge
    exact execEncoderEdge_rxKept hrx h
  have hplace : SamePlace s t :=
    exec_samePlace h (fun a b f e => hpower ⟨a, b, f, e⟩) fun a b k e => hedge ⟨a, b, k, e⟩
  exact hrx.trans_eq hplace.rx.symm

theorem step_rxKept {s t : State} (hrx : s.RxKept) (h : step s = .next t) : t.RxKept := by
  unfold step at h
  split at h
  · rw [← Host.Outcome.next.inj h]
    unfold State.idle
    split <;> exact hrx
  · rename_i c rest _
    exact exec_rxKept (s := { s with pending := rest }) hrx h

/-- Every change on a powered part leaves the levels it carries as the reference levels (R2, R3). -/
theorem execEncoderEdge_levels (a b : Bool) (coils : Coils) {s : State} (hs : s.powered = true) :
    ∃ t : State, execEncoderEdge a b coils s = .next t ∧ t.belt.refA = a ∧ t.belt.refB = b := by
  refine ⟨_, event_powered hs _, ?_⟩
  rw [closeEvent_belt]
  split
  · rename_i hsame
    obtain ⟨ha, hb⟩ := eq_of_decodeEdge_unchanged hsame
    exact ⟨ha.symm, hb.symm⟩
  · exact ⟨rfl, rfl⟩
  · exact ⟨rfl, rfl⟩
  · exact State.count_levels _ _ coils

end Sys2Proof.Machine

namespace Sys2Proof.Laws.BeltPosition

open Sys2Proof Sys2Proof.Machine

/-- Settles O8: only a count moves TC and HW on a running part, and a count moves HW with TC as R6
states, so RX is never taken below 0. -/
theorem reverseExcursionLaw : Obligations.ReverseExcursionLaw := by
  unfold Obligations.ReverseExcursionLaw
  refine ⟨fun s t => step_rxKept, fun b => ⟨rfl, b.rx_le⟩, fun b hpast => ?_, fun b hbehind => ?_,
    fun b hrx hne => ?_, fun b hmax => ?_⟩
  · rw [Belt.counted_forward_past hpast]
    exact ⟨rfl, rfl⟩
  · rw [Belt.counted_forward_behind hbehind]
    exact ⟨rfl, rfl⟩
  · rw [Belt.counted_reverse_below hrx hne]
    exact ⟨rfl, rfl⟩
  · refine ⟨?_, ?_, Belt.rx_counted_reverse_max hmax⟩ <;> rw [Belt.counted_reverse_max hmax]

/-- Settles O5: the four changes of two levels decoded one by one, and the reference levels after each. -/
theorem encoderDecoding : Obligations.EncoderDecoding := by
  unfold Obligations.EncoderDecoding
  refine ⟨fun mode d refA refB => ⟨?_, ?_, decodeEdge_same mode d refA refB,
    decodeEdge_both mode d refA refB⟩, fun a b coils s hs => execEncoderEdge_levels a b coils hs⟩
  · simp only [decodeEdge_edgeA, senseOf_decide, ne_eq, Decidable.not_not]
  · rw [decodeEdge_edgeB, senseOf_decide]

end Sys2Proof.Laws.BeltPosition

/-!
SUPPORT. The Strobe Latch Unit's operations (2.2 to 2.4): what an entry's removal, a capture and a watch's
start and stop leave of a channel, and what binding a report does to the flags.
-/

namespace Sys2Proof.Machine

/-! ### A channel's FIFO (R27, R29) -/

@[simp] theorem Latches.put_get (l : Latches) (c : Channel) : l.put c (l.get c) = l := by
  cases c <;> rfl

@[simp] theorem Latches.put_put (l : Latches) (c : Channel) (v w : Latch) :
    (l.put c v).put c w = l.put c w := by cases c <;> rfl

/-- The oldest entry's removal leaves the channel's tail and may move its cursor, nothing else (R176). -/
theorem State.popOldest_eq (s : State) (c : Channel) :
    ∃ k, s.popOldest c =
      { s.setLatch c { s.latch c with fifo := (s.latch c).fifo.tail } with cursors := k } := by
  unfold State.popOldest
  split
  · rename_i hempty
    have hsame : { s.latch c with fifo := (s.latch c).fifo.tail } = s.latch c := by
      rw [hempty, List.tail_nil, ← hempty]
    rw [hsame]
    exact ⟨s.cursors, by simp [State.setLatch, State.latch]⟩
  · rename_i hfifo
    exact ⟨_, by rw [hfifo]; rfl⟩

@[simp] theorem State.popOldest_flag (s : State) (c : Channel) (f : Flag) :
    (s.popOldest c).flag f = s.flag f := by
  obtain ⟨k, h⟩ := s.popOldest_eq c
  rw [h]
  rfl

@[simp] theorem State.popOldest_run (s : State) (c : Channel) : (s.popOldest c).run = s.run := by
  obtain ⟨k, h⟩ := s.popOldest_eq c
  rw [h]
  rfl

theorem State.flag_setFlag? (s : State) (f : Option Flag) (g : Flag) :
    (s.setFlag? f).flag g = (s.flag g || decide (f = some g)) := by
  cases f with
  | none => simp [State.setFlag?]
  | some f => simp [State.setFlag?, State.flag_setFlag, eq_comm]

@[simp] theorem State.setFlag?_run (s : State) (f : Option Flag) : (s.setFlag? f).run = s.run := by
  cases f <;> rfl

/-- A removal as UNREPORTED sets the channel's UNREPORTED flag and no other (R29). -/
theorem State.removeUnreported_flag (s : State) (c : Channel) {f : Flag}
    (hf : unreportedFlag c ≠ some f) : (s.removeUnreported c).flag f = s.flag f := by
  unfold State.removeUnreported
  rw [State.flag_setFlag?, decide_eq_false hf, Bool.or_false]
  exact s.popOldest_flag c f

@[simp] theorem State.removeUnreported_run (s : State) (c : Channel) :
    (s.removeUnreported c).run = s.run := by simp [State.removeUnreported]

theorem State.removeOldest_flag (s : State) (c : Channel) (n : Nat) {f : Flag}
    (hf : unreportedFlag c ≠ some f) : (s.removeOldest c n).flag f = s.flag f := by
  induction n generalizing s with
  | zero => rfl
  | succ n ih => exact (ih _).trans (s.removeUnreported_flag c hf)

@[simp] theorem State.removeOldest_run (s : State) (c : Channel) (n : Nat) :
    (s.removeOldest c n).run = s.run := by
  induction n generalizing s with
  | zero => rfl
  | succ n ih => exact (ih _).trans (s.removeUnreported_run c)

/-! ### Captures (R26, R27) -/

/-- A capture's marks while watching, written as the status it leaves on every channel (R26). -/
theorem Latch.marked_while_watching (l : Latch) (mode : LatchMode) :
    (if l.watch then l.marked mode else l) =
      { l with
        watch := l.watch && decide (mode = .every)
        captured := l.captured || l.watch
        toggle := xor l.toggle l.watch } := by
  obtain ⟨watch, captured, toggle, seq, fifo, edge⟩ := l
  cases watch with
  | false => simp
  | true => cases mode <;> simp [Latch.marked]

/-- A capture on any channel: room made, the numbered entry appended, the counter moved on and the marks
left (R26, R27). -/
theorem State.capture_eq (s : State) (c : Channel) (position : Pos) (time : Time) :
    s.capture c position time = (s.makeRoom c).modLatch c fun l =>
      { watch := l.watch && decide (s.settings.mode c = .every)
        captured := l.captured || l.watch
        toggle := xor l.toggle l.watch
        seq := l.seq + 1
        fifo := l.fifo ++
          [{ seq := l.seq, position := position, time := time, deadline := s.deadlineOf c time }]
        edge := l.edge } :=
  congrArg ((s.makeRoom c).modLatch c) (funext fun l => Latch.marked_while_watching
    { l with
      seq := l.seq + 1
      fifo := l.fifo ++
        [{ seq := l.seq, position := position, time := time, deadline := s.deadlineOf c time }] } _)

/-- BM and MX hold one entry: a capture takes the place of the one held (R27), and the status follows
only while the channel is watching (R26). -/
theorem State.capture_single {s : State} {c : Channel} (hc : c = .bm ∨ c = .mx)
    (hdepth : (s.latch c).fifo.length ≤ 1) (position : Pos) (time : Time) :
    ∃ k, s.capture c position time =
      { s.setLatch c
          { watch := (s.latch c).watch && decide (s.settings.mode c = .every)
            captured := (s.latch c).captured || (s.latch c).watch
            toggle := xor (s.latch c).toggle (s.latch c).watch
            seq := (s.latch c).seq + 1
            fifo := [{ seq := (s.latch c).seq, position := position, time := time, deadline := none }]
            edge := (s.latch c).edge } with
        cursors := k } := by
  have hroom : s.makeRoom c = s.popOldest c := by rcases hc with rfl | rfl <;> rfl
  have hdeadline : s.deadlineOf c time = none := by rcases hc with rfl | rfl <;> rfl
  have htail : (s.latch c).fifo.tail = [] := List.eq_nil_of_length_eq_zero (by simp; omega)
  obtain ⟨k, hpop⟩ := s.popOldest_eq c
  refine ⟨k, ?_⟩
  rw [State.capture_eq, hroom, hpop, htail, hdeadline]
  simp [State.modLatch, State.setLatch, State.latch]

/-! ### The requests LATCH-WATCH and LATCH-NOW (R23, R28) -/

theorem execLatchWatch_on {s : State} (hs : s.ready) (tag : Byte) {n : Byte} {c : Channel}
    (hc : channelOfCode n.toNat = some c) :
    execLatchWatch tag [n, 1] s =
      .next (closeEvent s ((s.startWatch c).replied 0x90 tag [0x00])) := by
  unfold execLatchWatch
  rw [serve_ready hs rfl]
  simp only [byteAt, List.getD_cons_zero, List.getD_cons_succ, hc]
  rfl

theorem execLatchWatch_off {s : State} (hs : s.ready) (tag : Byte) {n : Byte} {c : Channel}
    (hc : channelOfCode n.toNat = some c) :
    execLatchWatch tag [n, 0] s =
      .next (closeEvent s ((s.stopWatch c).replied 0x90 tag [0x00])) := by
  unfold execLatchWatch
  rw [serve_ready hs rfl]
  simp only [byteAt, List.getD_cons_zero, List.getD_cons_succ, hc]
  rfl

theorem channelOfCode_eq_none {n : Nat} (h : 3 < n) : channelOfCode n = none := by
  unfold channelOfCode
  split
  all_goals first | rfl | omega

theorem execLatchWatch_range {s : State} (hs : s.ready) (tag : Byte) {n x : Byte}
    (h : 3 < n.toNat ∨ 1 < x.toNat) :
    execLatchWatch tag [n, x] s = .next (closeEvent s (s.replied 0x90 tag [0x20])) := by
  unfold execLatchWatch
  rw [serve_ready hs rfl]
  simp only [byteAt, List.getD_cons_zero, List.getD_cons_succ]
  cases hc : channelOfCode n.toNat with
  | none => rfl
  | some c =>
    have hx : 1 < x.toNat := h.resolve_left fun hn => by simp [channelOfCode_eq_none hn] at hc
    obtain ⟨k, hk⟩ := Nat.exists_eq_add_of_le' hx
    rw [hk]
    rfl

theorem State.startWatch_of_ne {c : Channel} (hc : c ≠ .bm) (s : State) :
    s.startWatch c = (s.setLatch c { watch := true }).setLatchCursor c .atEnd := by
  cases c with
  | bm => exact absurd rfl hc
  | sa => rfl
  | sb => rfl
  | mx => rfl

theorem execLatchNow_ready {s : State} (hs : s.ready) (tag : Byte) :
    execLatchNow tag [] s =
      .next (closeEvent s ((s.capture .mx s.belt.tc s.timeBase).replied 0x91 tag
        (0x00 :: (s.latch .mx).seq :: (bytes4 s.belt.tc ++ bytes4 s.timeBase)))) := by
  unfold execLatchNow
  rw [serve_ready hs rfl]
  rfl

/-! ### Clamping (R32) -/

/-- A first column that the clamping leaves at or before the last stays first. -/
theorem ReportFields.clamped_columns_ordered {r : ReportFields} (h : min r.first 63 ≤ min r.last 63) :
    r.clamped.first = min r.first 63 ∧ r.clamped.last = min r.last 63 :=
  ⟨min_eq_left h, max_eq_right h⟩

/-- A first column that the clamping leaves after the last is swapped with it. -/
theorem ReportFields.clamped_columns_swapped {r : ReportFields} (h : min r.last 63 ≤ min r.first 63) :
    r.clamped.first = min r.last 63 ∧ r.clamped.last = min r.first 63 :=
  ⟨min_eq_right h, max_eq_left h⟩

theorem ReportFields.clamped_columns_le (r : ReportFields) :
    r.clamped.first ≤ r.clamped.last ∧ r.clamped.last ≤ 63 := by
  show min (min r.first 63) (min r.last 63) ≤ max (min r.first 63) (min r.last 63) ∧
    max (min r.first 63) (min r.last 63) ≤ 63
  omega

theorem ReportFields.clamped_length (r : ReportFields) :
    r.clamped.length = if r.length = 0 then 1 else r.length := by
  show max r.length 1 = _
  split <;> omega

theorem ReportFields.clamped_cls (r : ReportFields) :
    r.clamped.cls = if 31 < r.cls then 0 else r.cls := by
  show (if r.cls < 32 then r.cls else 0) = _
  split <;> split <;> omega

theorem ReportFields.clamped_confidence (r : ReportFields) :
    r.clamped.confidence = if 15 < r.confidence then 15 else r.confidence := by
  show min r.confidence 15 = _
  split <;> omega

/-! ### Binding (R35) -/

/-- A report binds to nothing and is an orphan, or it takes its entry and the older ones out of the FIFO
and is handed on (R35). -/
theorem State.bind_cases (s : State) (h : Head) (r : ReportFields) (coils : Coils) :
    s.bind h r coils = s.setFlag (orphanFlag h) ∨
      ∃ n p, s.bind h r coils =
        (((s.removeOldest (channelOfLine (lineOfHead h)) n).popOldest
          (channelOfLine (lineOfHead h))).handReport h p coils) := by
  unfold State.bind
  dsimp only
  split
  · exact .inr ⟨_, _, rfl⟩
  · exact .inl rfl

/-- Outside RUN a bound report is discarded (R36). -/
theorem State.handReport_of_ne_run {s : State} (hrun : s.run ≠ .run) (h : Head) (p : HeadPart)
    (coils : Coils) : s.handReport h p coils = s := if_neg hrun

/-- A flag that is set stays set through the work of the bank side. -/
theorem BankSide.flag_of_flag {s t : State} (h : BankSide s t) {f : Flag} (hf : s.flag f = true) :
    t.flag f = true := h.grow _ hf

theorem unreportedFlag_ne_reportClamped (h : Head) :
    unreportedFlag (channelOfLine (lineOfHead h)) ≠ some .reportClamped := by cases h <;> decide

theorem reportClamped_ne_orphanFlag (h : Head) : Flag.reportClamped ≠ orphanFlag h := by cases h <;> decide

theorem State.bind_keeps_reportClamped {s : State} (hset : s.flag .reportClamped = true) (h : Head)
    (r : ReportFields) (coils : Coils) : (s.bind h r coils).flag .reportClamped = true := by
  rcases s.bind_cases h r coils with horphan | ⟨n, p, hbound⟩
  · simp [horphan, State.flag_setFlag, hset]
  · rw [hbound]
    refine (BankSide.handReport _ h p coils).flag_of_flag ?_
    rw [State.popOldest_flag, State.removeOldest_flag _ _ _ (unreportedFlag_ne_reportClamped h), hset]

/-- Outside RUN binding sets ORPHAN and UNREPORTED flags alone (R35, R36). -/
theorem State.bind_reportClamped_of_ne_run {s : State} (hrun : s.run ≠ .run) (h : Head)
    (r : ReportFields) (coils : Coils) :
    (s.bind h r coils).flag .reportClamped = s.flag .reportClamped := by
  rcases s.bind_cases h r coils with horphan | ⟨n, p, hbound⟩
  · simp [horphan, State.flag_setFlag, reportClamped_ne_orphanFlag]
  · rw [hbound, State.handReport_of_ne_run (by simpa using hrun), State.popOldest_flag,
      State.removeOldest_flag _ _ _ (unreportedFlag_ne_reportClamped h)]

theorem State.takeReport_seven (s : State) (h : Head) {payload : List Byte} (hlen : payload.length = 7)
    (coils : Coils) :
    s.takeReport h payload coils =
      ((s.restartSilence h).setFlagIf (decide (readReport payload ≠ (readReport payload).clamped))
        .reportClamped).bind h (readReport payload).clamped coils := if_pos hlen

theorem execReport_powered {s : State} (hs : s.powered = true) (h : Head) (payload : List Byte)
    (coils : Coils) :
    execReport h payload coils s =
      .next (closeEvent s ((s.huntHead h).takeReport h payload coils)) := event_powered hs _

/-- A REPORT of which a field is out of range sets REPORT_CLAMPED, whatever becomes of it (R32). -/
theorem State.takeReport_sets_reportClamped (s : State) (h : Head) {payload : List Byte}
    (hlen : payload.length = 7) (hout : readReport payload ≠ (readReport payload).clamped)
    (coils : Coils) : (s.takeReport h payload coils).flag .reportClamped = true := by
  rw [State.takeReport_seven s h hlen, decide_eq_true hout]
  exact State.bind_keeps_reportClamped (by simp [State.setFlagIf, State.flag_setFlag]) h _ coils

/-- Outside RUN a REPORT within its ranges leaves REPORT_CLAMPED (R32, R36). -/
theorem State.takeReport_leaves_reportClamped {s : State} (hrun : s.run ≠ .run) (h : Head)
    {payload : List Byte} (hlen : payload.length = 7)
    (hin : readReport payload = (readReport payload).clamped) (coils : Coils) :
    (s.takeReport h payload coils).flag .reportClamped = s.flag .reportClamped := by
  rw [State.takeReport_seven s h hlen, decide_eq_false (not_not_intro hin)]
  exact State.bind_reportClamped_of_ne_run (s := s.restartSilence h) hrun h _ coils

end Sys2Proof.Machine

/-!
SUPPORT. The statements of the latch requests and of the clamping of reports, settled (R23, R28, R32).
-/

namespace Sys2Proof.Laws.StrobeLatches

open Sys2Proof Sys2Proof.Machine

/-- Settles O20: the ranges field by field, and REPORT_CLAMPED followed through the binding and the close
of the event. -/
theorem reportClamping : Obligations.ReportClamping := by
  unfold Obligations.ReportClamping
  refine ⟨fun r => ?_, fun h payload coils s hs hlen => ?_⟩
  · obtain ⟨hordered, hlast⟩ := r.clamped_columns_le
    refine ⟨rfl, hordered, hlast, fun hf hl hle => ?_, fun hf hl hlt => ?_, fun hf hl => ?_,
      fun hl => ?_, r.clamped_length, r.clamped_cls, r.clamped_confidence⟩
    · obtain ⟨hfirst, hlast⟩ := r.clamped_columns_ordered (by omega)
      omega
    · obtain ⟨hfirst, hlast⟩ := r.clamped_columns_swapped (by omega)
      omega
    · obtain ⟨hfirst, hlast⟩ := r.clamped_columns_swapped (by omega)
      omega
    · obtain ⟨hfirst, hlast⟩ := r.clamped_columns_ordered (by omega)
      omega
  · refine ⟨_, execReport_powered hs h payload coils, fun hout => ?_, fun hin hrun => ?_⟩
    · rw [closeEvent_flag _ _ (by decide)]
      exact (s.huntHead h).takeReport_sets_reportClamped h hlen hout coils
    · rw [closeEvent_flag _ _ (by decide)]
      exact State.takeReport_leaves_reportClamped (s := s.huntHead h) hrun h hlen hin coils

/-- Settles O18: LATCH-WATCH by its second byte and its channel, and LATCH-NOW as a capture on MX. -/
theorem latchRequests : Obligations.LatchRequests := by
  unfold Obligations.LatchRequests
  refine ⟨fun tag n c s hs hc => ⟨fun hne => ?_, fun heq => ?_, execLatchWatch_off hs tag hc⟩,
    fun tag n x s hs => execLatchWatch_range hs tag, fun tag s hs hdepth => ?_⟩
  · rw [← s.startWatch_of_ne hne]
    exact execLatchWatch_on hs tag hc
  · subst heq
    exact execLatchWatch_on hs tag hc
  · obtain ⟨k, hcapture⟩ := s.capture_single (.inr rfl) hdepth s.belt.tc s.timeBase
    refine ⟨_, execLatchNow_ready hs tag, ?_, ?_⟩ <;> rw [hcapture] <;> rfl

end Sys2Proof.Laws.StrobeLatches

/-!
SUPPORT. What a command can make of the Track Store (chapter 3), said once: `StoreMove` lists the ways the
store changes, each a creation, a change in place, a new place, a leave or a count, and every law of the
store is proved over this list.
-/

namespace Sys2Proof.Machine

/-! ### The store's operations (R40, R41, R57, R58) -/

theorem State.mem_of_record? {s : State} {id : TrackId} {r : Record} (h : s.record? id = some r) :
    r ∈ s.store.records ∧ r.id = id :=
  ⟨List.mem_of_find?_eq_some h, by simpa using List.find?_some h⟩

@[simp] theorem State.dropEntries_store (s : State) (id : TrackId) (b : BankId) :
    (s.dropEntries id b).store = s.store := by
  unfold State.dropEntries
  split <;> rfl

@[simp] theorem State.drainEnd_store (s : State) : s.drainEnd.store = s.store := by
  unfold State.drainEnd
  split <;> rfl

/-- A record's leave takes the records of its id out of the store, and nothing else (R57). -/
theorem State.removeRecord_store (s : State) (id : TrackId) :
    (s.removeRecord id).store =
      { s.store with records := s.store.records.filter fun r => decide (r.id ≠ id) } := by
  have hdrop : ∀ (l : List BankId) (t : State),
      (l.foldl (fun t b => t.dropEntries id b) t).store = t.store := by
    intro l
    induction l with
    | nil => exact fun t => rfl
    | cons b l ih => exact fun t => (ih _).trans (t.dropEntries_store id b)
  unfold State.removeRecord
  rw [State.drainEnd_store, hdrop]

/-- One record of a flush counted under its class (R58). -/
def Store.countFlushed (st : Store) (r : Record) : Store :=
  { st with
    classTallies := st.classTallies.set r.tallyClass
      { st.classTallies[r.tallyClass] with
        flushed := satInc st.classTallies[r.tallyClass].flushed } }

theorem State.flush_store (s : State) :
    s.flush.store = { s.store.records.foldl Store.countFlushed s.store with records := [] } := by
  have hfold : ∀ (l : List Record) (t : State),
      (l.foldl (fun t r => t.modTally r.tallyClass fun k => { k with flushed := satInc k.flushed })
        t).store = l.foldl Store.countFlushed t.store := by
    intro l
    induction l with
    | nil => exact fun t => rfl
    | cons r l ih => exact fun t => ih _
  unfold State.flush
  rw [← hfold]

/-- A record put in its place joins the records of the list (R40). -/
theorem place_perm (r : Record) (l : List Record) : (place r l).Perm (r :: l) := by
  induction l with
  | nil => exact .refl _
  | cons x xs ih =>
    unfold place
    split
    · exact .refl _
    · exact (ih.cons x).trans (.swap r x xs)

/-- The search for an id passes only ids that records hold, and stops at a free one unless it has passed
as many as its fuel (R41). -/
theorem freeId_eq (records : List Record) (fuel : Nat) (id : TrackId) :
    ∃ k ≤ fuel, freeId records id fuel = id + BitVec.ofNat 16 k ∧
      (∀ j < k, id + BitVec.ofNat 16 j ∈ records.map fun r => r.id) ∧
      (k < fuel → id + BitVec.ofNat 16 k ∉ records.map fun r => r.id) := by
  induction fuel generalizing id with
  | zero => exact ⟨0, le_rfl, by simp [freeId], by simp, by simp⟩
  | succ fuel ih =>
    unfold freeId
    split
    · rename_i hheld
      obtain ⟨k, hk, heq, hpassed, hstop⟩ := ih (id + 1)
      have hshift : ∀ j, id + BitVec.ofNat 16 (j + 1) = id + 1 + BitVec.ofNat 16 j := by
        intro j
        rw [BitVec.ofNat_add]
        ac_rfl
      refine ⟨k + 1, by omega, by rw [heq, hshift], fun j hj => ?_, fun hlt => ?_⟩
      · cases j with
        | zero => simpa using hheld
        | succ j => rw [hshift]; exact hpassed j (by omega)
      · rw [hshift]; exact hstop (by omega)
    · rename_i hfree
      exact ⟨0, by omega, by simp, by simp, fun _ => by simpa using hfree⟩

/-- The next record's id is one that no record holds (R41): 512 records cannot hold 513 ids. -/
theorem Store.idToUse_fresh {st : Store} (h : st.records.length ≤ 512) :
    st.idToUse ∉ st.records.map fun r => r.id := by
  obtain ⟨k, hk, heq, hpassed, hstop⟩ := freeId_eq st.records st.records.length st.nextId
  unfold Store.idToUse
  rw [heq]
  intro hheld
  have hall : k = st.records.length := by
    by_contra hne
    exact hstop (by omega) hheld
  have hsub : (Finset.range (k + 1)).image (fun j => st.nextId + BitVec.ofNat 16 j) ⊆
      (st.records.map fun r => r.id).toFinset := by
    intro x hx
    obtain ⟨j, hj, rfl⟩ := Finset.mem_image.mp hx
    rw [List.mem_toFinset]
    rcases Nat.lt_succ_iff_lt_or_eq.mp (Finset.mem_range.mp hj) with hlt | rfl
    · exact hpassed j hlt
    · exact hheld
  have hinj : Set.InjOn (fun j => st.nextId + BitVec.ofNat 16 j) (Finset.range (k + 1)) := by
    intro i hi j hj hij
    have hi' := Finset.mem_range.mp (Finset.mem_coe.mp hi)
    have hj' := Finset.mem_range.mp (Finset.mem_coe.mp hj)
    have := congrArg BitVec.toNat ((BitVec.add_right_inj _).mp hij)
    simp only [BitVec.toNat_ofNat] at this
    omega
  have hcard := (Finset.card_le_card hsub).trans (List.toFinset_card_le _)
  rw [Finset.card_image_of_injOn hinj, Finset.card_range, List.length_map] at hcard
  omega

/-! ### The ways the store changes -/

/-- One change of the Track Store. -/
inductive StoreMove : Store → Store → Prop
  /-- Records change where they stand and keep their ids. -/
  | change (st : Store) (f : Record → Record) (hf : ∀ r, (f r).id = r.id) :
      StoreMove st { st with records := st.records.map f }
  /-- A global tally other than CREATED counts (R55, R61). -/
  | countGlobal (st : Store) (g : GlobalTally) (hg : g.created = st.globals.created) :
      StoreMove st { st with globals := g }
  /-- A report is dropped (R44). -/
  | countDropped (st : Store) (c : ClassCode) (n : Nat) :
      StoreMove st { st with
        classTallies := st.classTallies.set c { st.classTallies[c] with dropped := n } }
  /-- A record in a terminal state is counted and leaves (R56). -/
  | retire (st : Store) (r : Record) (hr : r ∈ st.records) (hterminal : r.state.terminal = true) :
      StoreMove st { st with
        classTallies := st.classTallies.set r.tallyClass
          (st.classTallies[r.tallyClass].countOutcome r.state)
        records := st.records.filter fun q => decide (q.id ≠ r.id) }
  /-- A record is created in a store that is not full (R41, R43, R47, R60). -/
  | create (st : Store) (r : Record) (hid : r.id = st.idToUse) (hroom : st.full = false) :
      StoreMove st { st with
        records := place r st.records
        nextId := st.idToUse + 1
        births := st.births + 1
        globals := { st.globals with created := satInc st.globals.created } }
  /-- A record changes and takes a new place (R46). -/
  | replace (st : Store) (r q : Record) (hr : r ∈ st.records) (hid : q.id = r.id) :
      StoreMove st { st with
        records := place q (st.records.filter fun x => decide (x.id ≠ r.id)) }
  /-- Every record leaves, counted FLUSHED (R58). -/
  | flush (st : Store) :
      StoreMove st { st.records.foldl Store.countFlushed st with records := [] }
  /-- CLEAR-TALLIES (R63). -/
  | clearTallies (st : Store) : StoreMove st st.clearTallies
  /-- The store of a reset or of POWER_ON (R59, R61). -/
  | reset (st : Store) : StoreMove st {}

/-! ### Ids stay distinct (R41) -/

/-- A leave takes one record: where ids are distinct, no other record has its id. -/
theorem Store.IdsDistinct.length_filter {st : Store} (h : st.IdsDistinct) {r : Record}
    (hr : r ∈ st.records) :
    (st.records.filter fun q => decide (q.id ≠ r.id)).length + 1 = st.records.length := by
  have hmem : r.id ∈ st.records.map fun q => q.id := List.mem_map_of_mem hr
  have herase : (st.records.filter fun q => decide (q.id ≠ r.id)).map (fun q => q.id) =
      (st.records.map fun q => q.id).erase r.id := by
    rw [h.2.erase_eq_filter, List.filter_map]
    congr 1
    exact List.filter_congr fun q _ => by simp [bne, beq_eq_decide]
  have hlen := congrArg List.length herase
  rw [List.length_map, List.length_erase_of_mem hmem, List.length_map] at hlen
  have := List.length_pos_of_mem hr
  omega

theorem nodup_map_filter {l : List Record} (h : (l.map fun r => r.id).Nodup) (p : Record → Bool) :
    ((l.filter p).map fun r => r.id).Nodup :=
  h.sublist (List.filter_sublist.map _)

theorem nodup_map_place {r : Record} {l : List Record} (h : (l.map fun q => q.id).Nodup)
    (hr : r.id ∉ l.map fun q => q.id) : ((place r l).map fun q => q.id).Nodup :=
  ((place_perm r l).map _).nodup_iff.mpr (List.nodup_cons.mpr ⟨hr, h⟩)

theorem length_place (r : Record) (l : List Record) : (place r l).length = l.length + 1 :=
  (place_perm r l).length_eq

theorem Store.length_of_not_full {st : Store} (h : st.full = false) : st.records.length < 512 := by
  have hnot : ¬Config.storeCapacity ≤ st.records.length := of_decide_eq_false h
  exact Nat.lt_of_not_le hnot

/-- No move of the store makes two records share an id, or more than 512 of them (R40, R41). -/
theorem StoreMove.idsDistinct {st st' : Store} (h : StoreMove st st') (hids : st.IdsDistinct) :
    st'.IdsDistinct := by
  cases h with
  | change f hf =>
    have hsame : (st.records.map f).map (fun r => r.id) = st.records.map fun r => r.id := by
      rw [List.map_map]
      exact List.map_congr_left fun r _ => hf r
    exact ⟨by simpa using hids.1, by simpa [hsame] using hids.2⟩
  | countGlobal g hg => exact hids
  | countDropped c n => exact hids
  | retire r hr hterminal =>
    exact ⟨(List.length_filter_le _ _).trans hids.1, nodup_map_filter hids.2 _⟩
  | create r hid hroom =>
    have hlen := Store.length_of_not_full hroom
    refine ⟨?_, nodup_map_place hids.2 ?_⟩
    · show (place r st.records).length ≤ 512
      rw [length_place]
      omega
    · rw [hid]
      exact st.idToUse_fresh hids.1
  | replace r q hr hid =>
    have hlen := hids.length_filter hr
    refine ⟨?_, nodup_map_place (nodup_map_filter hids.2 _) (by simp [hid])⟩
    show (place q _).length ≤ 512
    rw [length_place, hlen]
    exact hids.1
  | flush => exact ⟨by simp, by simp⟩
  | clearTallies => exact hids
  | reset => exact ⟨by simp, by simp⟩

/-! ### The balance of the tallies (R61, R62) -/

/-- None of the six outcome tallies stands at its maximum. -/
def ClassTally.Below (t : ClassTally) : Prop :=
  t.fired < Config.tallyMax ∧ t.degraded < Config.tallyMax ∧ t.partHit < Config.tallyMax ∧
    t.missed < Config.tallyMax ∧ t.passed < Config.tallyMax ∧ t.flushed < Config.tallyMax

/-- The outcome tallies of all classes. -/
def Store.outcomeTotal (st : Store) : Nat := (st.classTallies.toList.map ClassTally.outcomes).sum

/-- While no tally has saturated, CREATED is the sum of the outcome tallies and `n`: the balance of a store
of `n` records, stated apart from the records it holds. -/
def Store.BalancedAt (st : Store) (n : Nat) : Prop :=
  st.globals.created < Config.tallyMax → (∀ c : ClassCode, st.classTallies[c].Below) →
    st.globals.created = st.outcomeTotal + n

theorem Store.saturated_eq_false_iff {st : Store} :
    st.saturated = false ↔
      st.globals.created < Config.tallyMax ∧ ∀ c : ClassCode, st.classTallies[c].Below := by
  have hmem : (∀ c : ClassCode, st.classTallies[c].Below) ↔
      ∀ t ∈ st.classTallies.toList, t.Below := by
    refine ⟨fun h t ht => ?_, fun h c => h _ (by simp)⟩
    obtain ⟨i, hi, rfl⟩ := Vector.mem_iff_getElem.mp (Vector.mem_toList_iff.mp ht)
    exact h ⟨i, hi⟩
  rw [hmem]
  simp only [Store.saturated, Bool.or_eq_false_iff, decide_eq_false_iff_not, List.any_eq_false,
    decide_eq_true_eq, not_or, Nat.not_le, ClassTally.Below]

theorem Store.balanced_iff {st : Store} : st.Balanced ↔ st.BalancedAt st.records.length := by
  unfold Store.Balanced
  rw [Store.saturated_eq_false_iff, and_imp]
  rfl

/-- A count below the maximum has gone up by one, from below the maximum. -/
theorem satInc_lt_max {n : Nat} (h : satInc n < Config.tallyMax) :
    n < Config.tallyMax ∧ satInc n = n + 1 := by
  unfold satInc at *
  split at h
  · rename_i hn
    exact ⟨hn, if_pos hn⟩
  · contradiction

/-- `u` is `t` with one outcome more, unless a tally saturates. -/
def ClassTally.CountsOne (t u : ClassTally) : Prop := u.Below → t.Below ∧ u.outcomes = t.outcomes + 1

theorem ClassTally.countsOne_flushed (t : ClassTally) :
    t.CountsOne { t with flushed := satInc t.flushed } := by
  rintro ⟨hfired, hdegraded, hpartHit, hmissed, hpassed, hflushed⟩
  obtain ⟨hlt, heq⟩ := satInc_lt_max hflushed
  exact ⟨⟨hfired, hdegraded, hpartHit, hmissed, hpassed, hlt⟩, by simp [ClassTally.outcomes, heq]; omega⟩

/-- A retiring record is counted once, in the tally of its terminal state (R56). -/
theorem ClassTally.countsOne_outcome (t : ClassTally) {st : RecState} (h : st.terminal = true) :
    t.CountsOne (t.countOutcome st) := by
  intro hbelow
  cases st with
  | joining | ready | planned | firing => cases h
  | fired =>
    obtain ⟨hfired, hrest⟩ := hbelow
    obtain ⟨hlt, heq⟩ := satInc_lt_max hfired
    exact ⟨⟨hlt, hrest⟩, by simp [ClassTally.outcomes, ClassTally.countOutcome, heq]; omega⟩
  | degraded =>
    obtain ⟨hfired, hdegraded, hrest⟩ := hbelow
    obtain ⟨hlt, heq⟩ := satInc_lt_max hdegraded
    exact ⟨⟨hfired, hlt, hrest⟩, by simp [ClassTally.outcomes, ClassTally.countOutcome, heq]; omega⟩
  | partHit =>
    obtain ⟨hfired, hdegraded, hpartHit, hrest⟩ := hbelow
    obtain ⟨hlt, heq⟩ := satInc_lt_max hpartHit
    exact ⟨⟨hfired, hdegraded, hlt, hrest⟩,
      by simp [ClassTally.outcomes, ClassTally.countOutcome, heq]; omega⟩
  | missed =>
    obtain ⟨hfired, hdegraded, hpartHit, hmissed, hrest⟩ := hbelow
    obtain ⟨hlt, heq⟩ := satInc_lt_max hmissed
    exact ⟨⟨hfired, hdegraded, hpartHit, hlt, hrest⟩,
      by simp [ClassTally.outcomes, ClassTally.countOutcome, heq]; omega⟩
  | passed =>
    obtain ⟨hfired, hdegraded, hpartHit, hmissed, hpassed, hflushed⟩ := hbelow
    obtain ⟨hlt, heq⟩ := satInc_lt_max hpassed
    exact ⟨⟨hfired, hdegraded, hpartHit, hmissed, hlt, hflushed⟩,
      by simp [ClassTally.outcomes, ClassTally.countOutcome, heq]; omega⟩

theorem sum_map_set {α : Type} (f : α → Nat) (l : List α) (i : Nat) (h : i < l.length) (a : α) :
    ((l.set i a).map f).sum + f l[i] = (l.map f).sum + f a := by
  induction l generalizing i with
  | nil => simp at h
  | cons x xs ih =>
    cases i with
    | zero => simp; omega
    | succ i =>
      have := ih i (by simpa using h)
      simp only [List.set_cons_succ, List.map_cons, List.sum_cons, List.getElem_cons_succ]
      omega

/-- The total after one class's tallies are replaced, against the total before. -/
theorem Store.outcomeTotal_set (st : Store) (c : ClassCode) (u : ClassTally) :
    ({ st with classTallies := st.classTallies.set c u } : Store).outcomeTotal +
      st.classTallies[c].outcomes = st.outcomeTotal + u.outcomes := by
  have h := sum_map_set ClassTally.outcomes st.classTallies.toList c.val (by simp) u
  simpa [Store.outcomeTotal, Vector.toList_set] using h

theorem Store.below_of_set {st : Store} {c : ClassCode} {u : ClassTally}
    (h : ∀ d : ClassCode, (st.classTallies.set c u)[d].Below) :
    u.Below ∧ ∀ d : ClassCode, d ≠ c → st.classTallies[d].Below := by
  refine ⟨by simpa using h c, fun d hd => ?_⟩
  have hval : c.val ≠ d.val := fun e => hd (Fin.ext e.symm)
  simpa [Vector.getElem_set, hval] using h d

/-- A store of one record more than `n` balances at `n` once an outcome is counted. -/
theorem Store.BalancedAt.set {st : Store} {n : Nat} (h : st.BalancedAt (n + 1)) {c : ClassCode}
    {u : ClassTally} (hu : st.classTallies[c].CountsOne u) :
    ({ st with classTallies := st.classTallies.set c u } : Store).BalancedAt n := by
  intro hcreated hbelow
  obtain ⟨hnew, hothers⟩ := Store.below_of_set hbelow
  obtain ⟨hold, hcount⟩ := hu hnew
  have hbefore := h hcreated fun d => by
    by_cases hd : d = c
    · exact hd ▸ hold
    · exact hothers d hd
  have htotal := st.outcomeTotal_set c u
  show st.globals.created = _
  omega

theorem Store.BalancedAt.foldl_countFlushed {l : List Record} {st : Store} {n : Nat}
    (h : st.BalancedAt (n + l.length)) : (l.foldl Store.countFlushed st).BalancedAt n := by
  induction l generalizing st with
  | nil => exact h
  | cons r l ih =>
    have hcounted : (st.countFlushed r).BalancedAt (n + l.length) :=
      Store.BalancedAt.set h (st.classTallies[r.tallyClass].countsOne_flushed)
    exact ih hcounted

theorem Store.outcomeTotal_of_replicate {st : Store} (h : st.classTallies = Vector.replicate 32 {}) :
    st.outcomeTotal = 0 := by
  simp [Store.outcomeTotal, h, ClassTally.outcomes]

/-- Every move of a store of distinct ids keeps the balance (R62): a creation counts one record in
CREATED, a leave counts one record in an outcome tally, and nothing else moves either side. -/
theorem StoreMove.balanced {st st' : Store} (h : StoreMove st st') (hids : st.IdsDistinct)
    (hbal : st.Balanced) : st'.Balanced := by
  rw [Store.balanced_iff] at *
  cases h with
  | change f hf =>
    show st.BalancedAt (st.records.map f).length
    rwa [List.length_map]
  | countGlobal g hg =>
    unfold Store.BalancedAt
    dsimp only
    rw [hg]
    exact hbal
  | countDropped c n =>
    intro hcreated hbelow
    obtain ⟨hnew, hothers⟩ := Store.below_of_set hbelow
    have hbefore := hbal hcreated fun d => by
      by_cases hd : d = c
      · exact hd ▸ hnew
      · exact hothers d hd
    have htotal := st.outcomeTotal_set c { st.classTallies[c] with dropped := n }
    have hsame : ClassTally.outcomes { st.classTallies[c] with dropped := n } =
      st.classTallies[c].outcomes := rfl
    show st.globals.created = _ + st.records.length
    omega
  | retire r hr hterminal =>
    rw [← hids.length_filter hr] at hbal
    exact hbal.set (ClassTally.countsOne_outcome _ hterminal)
  | create r hid hroom =>
    intro hcreated hbelow
    obtain ⟨hlt, heq⟩ := satInc_lt_max hcreated
    have hbefore := hbal hlt hbelow
    show satInc st.globals.created = st.outcomeTotal + (place r st.records).length
    rw [heq, length_place]
    omega
  | replace r q hr hid =>
    show st.BalancedAt (place q _).length
    rw [length_place, hids.length_filter hr]
    exact hbal
  | flush =>
    have hflushed := Store.BalancedAt.foldl_countFlushed (l := st.records) (n := 0) (by simpa using hbal)
    exact hflushed
  | clearTallies =>
    intro _ _
    rw [Store.outcomeTotal_of_replicate rfl]
    exact (Nat.zero_add _).symm
  | reset =>
    intro _ _
    rw [Store.outcomeTotal_of_replicate rfl]
    rfl

end Sys2Proof.Machine

/-!
SUPPORT. Every shared operation of the store, the planner, the banks and the purge logic leaves a store that
moves of the store lead to, in the order of the definitions.
-/

namespace Sys2Proof.Machine

/-- The better of two candidates is one of them (R45). -/
theorem betterCandidate_cases (pArrB : Pos) (x y : Record) :
    betterCandidate pArrB x y = x ∨ betterCandidate pArrB x y = y := by
  unfold betterCandidate
  split
  · exact .inr rfl
  · split
    · exact .inr rfl
    · exact .inl rfl

theorem foldl_betterCandidate_mem (pArrB : Pos) (l : List Record) (r : Record) :
    l.foldl (betterCandidate pArrB) r ∈ r :: l := by
  induction l generalizing r with
  | nil => simp
  | cons x l ih =>
    rw [List.foldl_cons]
    rcases betterCandidate_cases pArrB r x with h | h
    · rw [h]
      exact List.cons_subset_cons r (List.subset_cons_self x l) (ih r)
    · rw [h]
      exact List.mem_cons_of_mem r (ih x)

/-- The record a report joins is one that the store holds (R45). -/
theorem State.mem_of_joinChoice {s : State} {p : HeadPart} {pArrB : Pos} {r : Record}
    (h : s.joinChoice p pArrB = some r) : r ∈ s.store.records := by
  unfold State.joinChoice at h
  split at h
  · cases h
  · rename_i x rest hcandidates
    have hmem := foldl_betterCandidate_mem pArrB rest x
    rw [Option.some.inj h, ← hcandidates] at hmem
    exact List.mem_of_mem_filter hmem

/-- Moves of the store lead from the store of `s` to that of `t`. -/
structure StoreSteps (s t : State) : Prop where
  moves : Relation.ReflTransGen StoreMove s.store t.store

namespace StoreSteps

theorem of_store {s t : State} (h : t.store = s.store) : StoreSteps s t := ⟨h ▸ .refl⟩

theorem refl (s : State) : StoreSteps s s := of_store rfl

theorem trans {s t u : State} (h : StoreSteps s t) (k : StoreSteps t u) : StoreSteps s u :=
  ⟨h.moves.trans k.moves⟩

/-- An update off the store goes ahead of the steps of an operation. -/
theorem after {s t u : State} (h : StoreSteps t u) (hstore : t.store = s.store) : StoreSteps s u :=
  (of_store hstore).trans h

theorem of_move {s t : State} (h : StoreMove s.store t.store) : StoreSteps s t := ⟨.single h⟩

theorem foldl {α : Type} {f : State → α → State} (h : ∀ t a, StoreSteps t (f t a)) (l : List α)
    (s : State) : StoreSteps s (l.foldl f s) := by
  induction l generalizing s with
  | nil => exact refl s
  | cons a l ih => exact (h s a).trans (ih (f s a))

/-! ### The Track Store (chapter 3) -/

theorem modRecord (s : State) (id : TrackId) {f : Record → Record}
    (hf : ∀ r, (f r).id = r.id) : StoreSteps s (s.modRecord id f) := by
  refine of_move (.change s.store (fun r => if r.id = id then f r else r) fun r => ?_)
  split
  · exact hf r
  · rfl

theorem modGlobals (s : State) {f : GlobalTally → GlobalTally}
    (hf : ∀ g, (f g).created = g.created) : StoreSteps s (s.modGlobals f) :=
  of_move (.countGlobal s.store _ (hf _))

theorem countCause (s : State) (c : Cause) : StoreSteps s (s.countCause c) := by
  refine modGlobals s fun g => ?_
  cases c <;> rfl

theorem retireTest (s : State) (id : TrackId) : StoreSteps s (s.retireTest id) := by
  unfold State.retireTest
  split
  · exact refl s
  · rename_i r hfound
    obtain ⟨hmem, rfl⟩ := State.mem_of_record? hfound
    split
    · rename_i hdue
      refine of_move ?_
      rw [State.removeRecord_store]
      exact .retire s.store r hmem (Bool.and_eq_true_iff.mp hdue).1
    · exact refl s

theorem retireAll (s : State) : StoreSteps s s.retireAll := by
  unfold State.retireAll
  exact foldl (fun t (r : Record) => retireTest t r.id) _ s

theorem endRecord (s : State) (id : TrackId) (st : RecState) (miss : Option Cause) :
    StoreSteps s (s.endRecord id st miss) := by
  refine StoreSteps.trans ?_ (retireTest _ id)
  exact modRecord s id fun _ => rfl

theorem outcomeRule (s : State) (id : TrackId) : StoreSteps s (s.outcomeRule id) := by
  unfold State.outcomeRule
  split
  · exact refl s
  · split
    · exact refl s
    · split
      · exact endRecord _ _ _ _
      · exact refl s

theorem reportPart (s : State) (id : TrackId) (b : BankId) (result : PartResult) (level : Option Level) :
    StoreSteps s (s.reportPart id b result level) := by
  unfold State.reportPart
  split
  · exact refl s
  · split
    · have hwritten : StoreSteps s (s.modRecord id fun q => q.report b result level) :=
        modRecord s id fun _ => rfl
      dsimp only
      split
      · exact (hwritten.trans (countCause _ _)).trans (outcomeRule _ _)
      · exact hwritten.trans (outcomeRule _ _)
    · exact refl s

theorem flush (s : State) : StoreSteps s s.flush := by
  refine of_move ?_
  rw [State.flush_store]
  exact .flush s.store

theorem resolveJoining (s : State) : StoreSteps s s.resolveJoining := by
  refine of_move (.change s.store
    (fun r => if r.state = .joining then s.resolveReady r r.aPart none else r) fun r => ?_)
  split <;> rfl

theorem createRecord {s : State} {make : TrackId → Nat → Record}
    (hid : ∀ id born, (make id born).id = id) (hroom : s.store.full = false) :
    StoreSteps s (s.createRecord make) :=
  of_move (.create s.store _ (hid _ _) hroom)

theorem dropReport (s : State) (p : HeadPart) : StoreSteps s (s.dropReport p) :=
  of_move (.countDropped s.store _ _)

/-! ### Health, fence and the drive of a nozzle (chapter 8) -/

theorem readinessTest (s : State) : StoreSteps s s.readinessTest := by
  unfold State.readinessTest
  split <;> exact of_store rfl

theorem fenceBank (s : State) (b : BankId) : StoreSteps s (s.fenceBank b) := by
  unfold State.fenceBank
  split
  · exact refl s
  · exact ((foldl (fun t e => reportPart t _ _ _ _) _ _).trans (readinessTest _)).after rfl

theorem autoFence (s : State) (b : BankId) : StoreSteps s (s.autoFence b) := by
  unfold State.autoFence
  split
  · exact (fenceBank s b).trans (of_store rfl)
  · exact refl s

theorem badCheck (s : State) (b : BankId) (m : Member) : StoreSteps s (s.badCheck b m) := by
  unfold State.badCheck
  dsimp only
  split
  · exact (autoFence _ b).after rfl
  · exact of_store rfl

theorem drive (s : State) (b : BankId) (m : Member) (closing : Time) (coils : Coils) :
    StoreSteps s (s.drive b m closing coils) := by
  unfold State.drive
  split
  · split
    · exact of_store rfl
    · exact badCheck _ _ _
  · exact refl s

/-! ### Purges (chapter 7) -/

theorem purgeMember (b : BankId) (closing : Time) (coils : Coils) (s : State) (m : Member) :
    StoreSteps s (State.purgeMember b closing coils s m) := by
  unfold State.purgeMember
  split
  · exact refl s
  · split
    · exact (drive _ _ _ _ _).trans (of_store rfl)
    · exact drive _ _ _ _ _

theorem startPurge (s : State) (b : BankId) (kind : PurgeKind) (coils : Coils) :
    StoreSteps s (s.startPurge b kind coils) := by
  unfold State.startPurge
  cases kind <;> exact (foldl (purgeMember _ _ _) _ _).after rfl

theorem purgeTest (coils : Coils) (s : State) (b : BankId) :
    StoreSteps s (State.purgeTest coils s b) := by
  unfold State.purgeTest
  dsimp only
  split
  · split
    · exact startPurge _ _ _ _
    · split
      · exact startPurge _ _ _ _
      · exact refl s
  · exact refl s

theorem purgeTests (s : State) (coils : Coils) : StoreSteps s (s.purgeTests coils) :=
  foldl (purgeTest coils) _ s

theorem settle (s : State) (b : BankId) : StoreSteps s (s.settle b) := of_store rfl

/-! ### The pulse queue (chapter 6) -/

theorem finishEntry (s : State) (b : BankId) (id : TrackId) (result : PartResult) :
    StoreSteps s (s.finishEntry b id result) := (reportPart _ _ _ _ _).after rfl

theorem setFlagIf (s : State) (c : Bool) (f : Flag) : StoreSteps s (s.setFlagIf c f) := by
  unfold State.setFlagIf
  split <;> exact of_store rfl

theorem loseEntry (s : State) (b : BankId) (id : TrackId) (cause : Cause) :
    StoreSteps s (s.loseEntry b id cause) := (finishEntry _ _ _ _).trans (setFlagIf _ _ _)

theorem headTest (s : State) (b : BankId) : StoreSteps s (s.headTest b) := by
  unfold State.headTest
  split
  · split <;> exact of_store rfl
  · exact refl s

theorem waveMember (b : BankId) (id : TrackId) (closing : Time) (coils : Coils) (s : State)
    (m : Member) : StoreSteps s (State.waveMember b id closing coils s m) := by
  unfold State.waveMember
  split
  · exact refl s
  · split
    · exact of_store rfl
    · split
      · exact (drive _ _ _ _ _).trans (of_store rfl)
      · exact drive _ _ _ _ _

theorem openWave (s : State) (b : BankId) (id : TrackId) (coils : Coils) :
    StoreSteps s (s.openWave b id coils) := by
  unfold State.openWave
  split
  · exact refl s
  · split
    · exact refl s
    · exact (foldl (waveMember _ _ _ _) _ _).after rfl

theorem openEntry (s : State) (b : BankId) (id : TrackId) (duration : Nat) (coils : Coils) :
    StoreSteps s (s.openEntry b id duration coils) := by
  unfold State.openEntry
  split
  · exact refl s
  · exact ((reportPart _ _ _ _ _).trans (openWave _ _ _ _)).after rfl

theorem offer (s : State) (b : BankId) (o : Offer) : StoreSteps s (s.offer b o) := by
  unfold State.offer
  split
  · exact ((reportPart _ _ _ _ _).trans (headTest _ _)).after rfl
  · exact reportPart _ _ _ _ _

theorem trigger (b : BankId) (coils : Coils) (s : State) (id : TrackId) :
    StoreSteps s (State.trigger b coils s id) := by
  unfold State.trigger
  split
  · exact refl s
  · split
    · dsimp only
      split
      · exact ((loseEntry _ _ _ _).trans (headTest _ _)).after rfl
      · exact (openEntry _ _ _ _ _).after rfl
      · exact (openEntry _ _ _ _ _).after rfl
      · exact of_store rfl
    · exact refl s

theorem triggerTest (coils : Coils) (s : State) (b : BankId) :
    StoreSteps s (State.triggerTest coils s b) := foldl (trigger b coils) _ s

theorem lateStart (b : BankId) (coils : Coils) (s : State) (id : TrackId) :
    StoreSteps s (State.lateStart b coils s id) := by
  have hlose : ∀ cause, StoreSteps s (s.loseEntry b id cause) := loseEntry s b id
  unfold State.lateStart
  split
  · exact refl s
  · split
    · split
      · exact hlose _
      · split
        · exact hlose _
        · split
          · exact hlose _
          · split
            · exact openEntry _ _ _ _ _
            · exact hlose _
    · exact refl s

theorem freeBankWork (s : State) (b : BankId) (coils : Coils) :
    StoreSteps s (s.freeBankWork b coils) := by
  unfold State.freeBankWork
  dsimp only
  split
  · exact (((headTest _ _).trans (foldl (lateStart b coils) _ _)).trans (headTest _ _)).trans
      (purgeTest _ _ _)
  · exact headTest _ _

theorem rechargeDone (s : State) (b : BankId) (coils : Coils) :
    StoreSteps s (s.rechargeDone b coils) := by
  unfold State.rechargeDone
  split
  · exact of_store rfl
  · exact (freeBankWork _ _ _).after rfl

theorem switchDone (s : State) (b : BankId) (target : Level) (coils : Coils) :
    StoreSteps s (s.switchDone b target coils) := (freeBankWork _ _ _).after rfl

theorem pulseEnds (s : State) (b : BankId) (e : Entry) : StoreSteps s (s.pulseEnds b e) := by
  unfold State.pulseEnds
  dsimp only
  split
  · exact ((finishEntry _ _ _ _).trans (settle _ _)).after rfl
  · exact (finishEntry _ _ _ _).after rfl

theorem cutEntry (b : BankId) (s : State) (e : Entry) : StoreSteps s (State.cutEntry b s e) := by
  unfold State.cutEntry
  split
  · exact refl s
  · exact loseEntry _ _ _ _
  · split
    · exact loseEntry _ _ _ _
    · exact finishEntry _ _ _ _

theorem cutBank (s : State) (b : BankId) : StoreSteps s (s.cutBank b) :=
  ((foldl (cutEntry b) _ _).trans (headTest _ _)).after rfl

/-! ### Conditioning (7.4) -/

theorem beginStep7 (b : BankId) (coils : Coils) (s : State) :
    StoreSteps s (State.beginStep7 b coils s) :=
  ((freeBankWork _ _ _).trans (readinessTest _)).after rfl

theorem beginStep5 (b : BankId) (s : State) : StoreSteps s (State.beginStep5 b s) := by
  unfold State.beginStep5
  split <;> exact of_store rfl

theorem stepMember (b : BankId) (closing : Time) (coils : Coils) (s : State) (m : Member) :
    StoreSteps s (State.stepMember b closing coils s m) := by
  unfold State.stepMember
  split
  · exact refl s
  · exact drive _ _ _ _ _

theorem purgeStep (b : BankId) (coils : Coils) (step : Nat) (s : State) :
    StoreSteps s (State.purgeStep b coils step s) := by
  unfold State.purgeStep
  split
  · exact of_store rfl
  · exact (foldl (stepMember b _ coils) _ _).after rfl

theorem beginStep3 (b : BankId) (coils : Coils) (s : State) :
    StoreSteps s (State.beginStep3 b coils s) := by
  unfold State.beginStep3
  split
  · exact purgeStep _ _ _ _
  · exact of_store rfl

theorem beginStep1 (b : BankId) (coils : Coils) (s : State) :
    StoreSteps s (State.beginStep1 b coils s) := by
  unfold State.beginStep1
  split
  · exact of_store rfl
  · split
    · exact purgeStep _ _ _ _
    · split <;> exact of_store rfl

theorem retryStep (coils : Coils) (s : State) (b : BankId) :
    StoreSteps s (State.retryStep coils s b) := by
  unfold State.retryStep
  split
  · exact beginStep1 _ _ _
  · exact purgeStep _ _ _ _
  · exact purgeStep _ _ _ _
  · exact refl s

theorem stepDone (s : State) (b : BankId) (step : Nat) (coils : Coils) :
    StoreSteps s (s.stepDone b step coils) := by
  unfold State.stepDone
  split
  · exact (purgeStep _ _ _ _).after rfl
  · exact (beginStep3 _ _ _).after rfl
  · exact purgeStep _ _ _ _
  · exact (beginStep5 _ _).after rfl
  · exact of_store rfl
  · exact (beginStep7 _ _ _).after rfl
  · exact refl s

theorem beginConditioning (coils : Coils) (s : State) (b : BankId) :
    StoreSteps s (State.beginConditioning coils s b) := (beginStep1 _ _ _).after rfl

theorem afterShed (s : State) (was : Bool) (coils : Coils) : StoreSteps s (s.afterShed was coils) := by
  unfold State.afterShed
  split
  · exact (foldl (fun t b => (headTest t b).trans (retryStep coils _ b)) allBanks s).trans
      (purgeTests _ coils)
  · exact refl s

/-! ### The Planner (chapter 5) -/

theorem missRecord (s : State) (id : TrackId) (cause : Cause) : StoreSteps s (s.missRecord id cause) :=
  (countCause _ _).trans (endRecord _ _ _ _)

theorem planPass (s : State) (r : Record) (route : Route) (bar : Bar) :
    StoreSteps s (s.planPass r route bar) := by
  unfold State.planPass
  split
  · split
    · exact missRecord _ _ _
    · exact refl s
  · dsimp only
    split
    · exact missRecord _ _ _
    · split
      · refine StoreSteps.trans ?_ (missRecord _ _ _)
        exact modRecord s r.id fun _ => rfl
      · refine StoreSteps.trans ?_ (foldl (fun t p => offer t _ _) _ _)
        exact modRecord s r.id fun _ => rfl

theorem dealReady (s : State) (id : TrackId) : StoreSteps s (s.dealReady id) := by
  unfold State.dealReady
  split
  · exact refl s
  · split
    · split
      · exact endRecord _ _ _ _
      · exact planPass _ _ _ _
    · exact refl s

theorem planningEvent (s : State) (id : TrackId) : StoreSteps s (s.planningEvent id) := by
  refine StoreSteps.trans (modRecord s id fun r => ?_) (dealReady _ id)
  split <;> rfl

theorem horizonTest (s : State) (id : TrackId) : StoreSteps s (s.horizonTest id) := by
  unfold State.horizonTest
  split
  · exact refl s
  · split
    · exact planningEvent _ _
    · exact refl s

theorem horizonAll (s : State) : StoreSteps s s.horizonAll := by
  unfold State.horizonAll
  exact foldl (fun t (r : Record) => planningEvent t r.id) _ s

theorem planHeld (s : State) : StoreSteps s s.planHeld := by
  unfold State.planHeld
  exact foldl (fun t (r : Record) => dealReady t r.id) _ s

theorem addRecord {s : State} {make : TrackId → Nat → Record}
    (hid : ∀ id born, (make id born).id = id) (hroom : s.store.full = false) (coils : Coils) :
    StoreSteps s (s.addRecord make coils) :=
  ((createRecord hid hroom).trans (horizonTest _ _)).trans (purgeTests _ _)

/-! ### The belt and the heads (chapters 1 and 2) -/

theorem enterHalted (s : State) (cause : HaltCause) : StoreSteps s (s.enterHalted cause) :=
  (flush s).trans (of_store rfl)

theorem haltRequest (s : State) (cause : HaltCause) : StoreSteps s (s.haltRequest cause) := by
  unfold State.haltRequest
  split
  · exact enterHalted s cause
  · exact enterHalted s cause
  · exact enterHalted s cause
  · exact refl s
  · exact refl s

theorem limitCrossed (s : State) (cause : HaltCause) : StoreSteps s (s.limitCrossed cause) := by
  unfold State.limitCrossed
  split
  · exact refl s
  · exact refl s
  · exact haltRequest s cause

theorem reverseTest (s : State) (forward : Bool) : StoreSteps s (s.reverseTest forward) := by
  unfold State.reverseTest
  split
  · split <;> exact of_store rfl
  · split
    · exact (limitCrossed _ _).after rfl
    · exact refl s

theorem handCount (s : State) (forward : Bool) (coils : Coils) :
    StoreSteps s (s.handCount forward coils) := by
  unfold State.handCount
  refine StoreSteps.trans (((horizonAll s).trans (retireAll _)).trans ?_) (purgeTests _ coils)
  split
  · exact foldl (triggerTest coils) _ _
  · exact refl _

theorem count (s : State) (forward : Bool) (coils : Coils) : StoreSteps s (s.count forward coils) :=
  ((reverseTest _ forward).trans (handCount _ forward coils)).after rfl

theorem overspeedTest (s : State) : StoreSteps s s.overspeedTest := by
  unfold State.overspeedTest
  split
  · exact refl s
  · split
    · split <;> exact of_store rfl
    · split
      · exact (limitCrossed _ _).after rfl
      · exact refl s

theorem markCapture (s : State) (position : Pos) : StoreSteps s (s.markCapture position) := by
  unfold State.markCapture
  split
  · exact of_store rfl
  · dsimp only [State.slipCheck]
    split
    · exact of_store rfl
    · split <;> exact of_store rfl

theorem popOldest (s : State) (c : Channel) : StoreSteps s (s.popOldest c) := by
  unfold State.popOldest
  split <;> exact of_store rfl

theorem setFlag? (s : State) (f : Option Flag) : StoreSteps s (s.setFlag? f) := by
  cases f <;> exact of_store rfl

/-- An entry found UNREPORTED counts in its global tally, which is not CREATED (R29). -/
theorem removeUnreported (s : State) (c : Channel) : StoreSteps s (s.removeUnreported c) := by
  refine StoreSteps.trans ?_ (setFlag? _ _)
  exact (popOldest s c).trans (modGlobals _ fun _ => rfl)

theorem removeOldest (s : State) (c : Channel) (n : Nat) : StoreSteps s (s.removeOldest c n) := by
  induction n generalizing s with
  | zero => exact refl s
  | succ n ih => exact (removeUnreported s c).trans (ih _)

theorem makeRoom (s : State) (c : Channel) : StoreSteps s (s.makeRoom c) := by
  have hlost : StoreSteps s ((s.removeUnreported c).setFlag? (overrunFlag c)) :=
    (removeUnreported s c).trans (setFlag? _ _)
  unfold State.makeRoom
  split
  · split
    · exact hlost
    · exact refl s
  · split
    · exact hlost
    · exact refl s
  · exact popOldest _ _
  · exact popOldest _ _

theorem capture (s : State) (c : Channel) (position : Pos) (time : Time) :
    StoreSteps s (s.capture c position time) := (makeRoom s c).trans (of_store rfl)

theorem lineCapture (s : State) (line : Line) (position : Pos) (time : Time) :
    StoreSteps s (s.lineCapture line position time) := by
  have hcapture : StoreSteps s (s.capture (channelOfLine line) position time) := capture _ _ _ _
  unfold State.lineCapture
  cases line with
  | sa => exact hcapture
  | sb => exact hcapture
  | bm =>
    dsimp only
    split
    · exact hcapture.trans (markCapture _ _)
    · exact hcapture

theorem headLost (s : State) (h : Head) (coils : Coils) : StoreSteps s (s.headLost h coils) := by
  unfold State.headLost
  split
  · cases h with
    | a => exact of_store rfl
    | b =>
      dsimp only [State.joiningLost]
      split
      · exact ((resolveJoining _).trans (purgeTests _ _)).after rfl
      · exact of_store rfl
  · exact refl s

theorem takeHeadState (s : State) (h : Head) (payload : List Byte) (coils : Coils) :
    StoreSteps s (s.takeHeadState h payload coils) := by
  unfold State.takeHeadState
  split
  · dsimp only
    split
    · exact of_store rfl
    · exact (headLost _ h coils).after rfl
  · exact of_store rfl

theorem createOrDrop {s : State} {make : TrackId → Nat → Record}
    (hid : ∀ id born, (make id born).id = id) (p : HeadPart) (coils : Coils) :
    StoreSteps s (s.createOrDrop p make coils) := by
  unfold State.createOrDrop
  split
  · exact dropReport s p
  · rename_i hroom
    exact addRecord hid (Bool.eq_false_of_not_eq_true hroom) coils

theorem join {s : State} {r : Record} (hr : r ∈ s.store.records) (p : HeadPart) (pArrB : Pos)
    (coils : Coils) : StoreSteps s (s.join r p pArrB coils) :=
  ((of_move (.replace s.store r (s.joined r p pArrB) hr rfl)).trans (horizonTest _ r.id)).trans
    (purgeTests _ coils)

theorem handReport (s : State) (h : Head) (p : HeadPart) (coils : Coils) :
    StoreSteps s (s.handReport h p coils) := by
  unfold State.handReport
  split
  · cases h with
    | a =>
      refine createOrDrop (fun id born => ?_) p coils
      dsimp only
      split <;> rfl
    | b =>
      dsimp only [State.reportB]
      split
      · rename_i r hchosen
        exact join (State.mem_of_joinChoice hchosen) p _ coils
      · exact createOrDrop (fun id born => rfl) p coils
  · exact refl s

theorem bind (s : State) (h : Head) (r : ReportFields) (coils : Coils) :
    StoreSteps s (s.bind h r coils) := by
  rcases s.bind_cases h r coils with hbind | ⟨n, p, hbind⟩
  · rw [hbind]
    exact of_store rfl
  · rw [hbind]
    exact ((removeOldest _ _ n).trans (popOldest _ _)).trans (handReport _ h p coils)

theorem takeReport (s : State) (h : Head) (payload : List Byte) (coils : Coils) :
    StoreSteps s (s.takeReport h payload coils) := by
  unfold State.takeReport
  split
  · exact ((setFlagIf (s.restartSilence h) _ _).trans (bind _ h _ coils)).after rfl
  · exact of_store rfl

end StoreSteps

end Sys2Proof.Machine

/-!
SUPPORT. Every command leaves a store that moves of the store lead to (chapter 3): one lemma for each command
whose meaning branches, and the rule over all commands and steps.
-/

namespace Sys2Proof.Machine.StoreSteps

variable {s t : State}

/-! ### How a command is carried out -/

theorem event {f : State → State} (hf : ∀ s, StoreSteps s (f s)) (h : event s f = .next t) :
    StoreSteps s t := by
  rcases event_next h with rfl | rfl
  · exact (hf s).trans (of_store (closeEvent_store _ _))
  · exact refl _

theorem of_takeRequest {s0 : State} {f : Frame} (h : s.takeRequest f = some s0) : StoreSteps s s0 := by
  obtain ⟨-, -, q, rfl, -⟩ := State.takeRequest_eq h
  exact of_store rfl

theorem close_reply (before u : State) (reply : Frame) (thenReset : Bool) :
    StoreSteps u (closeEvent before (u.handReply reply thenReset)) :=
  of_store (closeEvent_store _ _)

theorem serveAfter {prepare : State → State} {kind tag : Byte} {payload : List Byte} {lens : List Nat}
    {act : State → Answer × State} (hp : ∀ s, StoreSteps s (prepare s))
    (ha : ∀ s, StoreSteps s (act s).2) (h : serveAfter prepare kind tag payload lens act s = .next t) :
    StoreSteps s t := by
  rcases serveAfter_next h with rfl | ⟨s0, reply, thenReset, htake, rfl | rfl⟩
  · exact refl _
  · exact (of_takeRequest htake).trans (close_reply _ _ _ _)
  · exact (((of_takeRequest htake).trans (hp s0)).trans (ha _)).trans (close_reply _ _ _ _)

theorem serve {kind tag : Byte} {payload : List Byte} {lens : List Nat} {act : State → Answer × State}
    (ha : ∀ s, StoreSteps s (act s).2) (h : serve kind tag payload lens act s = .next t) :
    StoreSteps s t := serveAfter refl ha h

/-! ### The belt, the strobes and the heads (chapters 1 and 2) -/

theorem execPowerOn {a b f : Bool} (h : execPowerOn a b f s = .next t) : StoreSteps s t := by
  refine of_move ?_
  have hstore : t.store = {} := by
    rw [← Host.Outcome.next.inj h, closeEvent_store]
    unfold State.setFlagIf
    split <;> rfl
  rw [hstore]
  exact .reset s.store

theorem execEncoderEdge {a b : Bool} {coils : Coils} (h : execEncoderEdge a b coils s = .next t) :
    StoreSteps s t := by
  refine event (fun u => ?_) h
  split
  · exact refl u
  · exact of_store rfl
  · exact of_store rfl
  · exact (count (u.takeLevels a b) _ coils).after rfl

theorem execSpeedSample {coils : Coils} (h : execSpeedSample coils s = .next t) : StoreSteps s t := by
  refine event (fun u => ?_) h
  exact (((overspeedTest u.takeSample).trans (planHeld _)).trans (purgeTests _ coils)).after rfl

theorem execStallTimerExpiry {coils : Coils} (h : execStallTimerExpiry coils s = .next t) :
    StoreSteps s t := by
  refine event (fun u => ?_) h
  split
  · exact refl u
  · exact (purgeTests _ coils).after rfl

theorem execActiveEdge {line : Line} {high : Bool} (h : execActiveEdge line high s = .next t) :
    StoreSteps s t := by
  refine event (fun u => ?_) h
  split <;> exact of_store rfl

theorem execStrobeReturn {line : Line} {high : Bool} (h : execStrobeReturn line high s = .next t) :
    StoreSteps s t := by
  refine event (fun u => ?_) h
  split <;> exact of_store rfl

theorem execFilterExpiry {line : Line} (h : execFilterExpiry line s = .next t) : StoreSteps s t := by
  refine event (fun u => ?_) h
  split
  · exact refl u
  · exact (lineCapture _ line _ _).after rfl

theorem execDeadlineExpiry {head : Head} {seq : Byte} (h : execDeadlineExpiry head seq s = .next t) :
    StoreSteps s t := by
  refine event (fun u => ?_) h
  dsimp only
  split
  · exact refl u
  · split
    · exact (removeOldest _ _ _).after rfl
    · exact refl u

theorem execReport {head : Head} {payload : List Byte} {coils : Coils}
    (h : execReport head payload coils s = .next t) : StoreSteps s t :=
  event (fun u => (takeReport (u.huntHead head) head payload coils).after rfl) h

theorem execHeadState {head : Head} {payload : List Byte} {coils : Coils}
    (h : execHeadState head payload coils s = .next t) : StoreSteps s t :=
  event (fun u => (takeHeadState (u.huntHead head) head payload coils).after rfl) h

theorem execSilenceTimerExpiry {head : Head} {coils : Coils}
    (h : execSilenceTimerExpiry head coils s = .next t) : StoreSteps s t := by
  refine event (fun u => ?_) h
  split
  · exact refl u
  · exact (headLost _ head coils).after rfl

theorem execLatchWatch {tag : Byte} {payload : List Byte} (h : execLatchWatch tag payload s = .next t) :
    StoreSteps s t := by
  refine serve (fun u => ?_) h
  split
  · exact of_store rfl
  · rename_i c _ _
    cases c <;> exact of_store rfl
  · exact refl u

theorem execLatchNow {tag : Byte} {payload : List Byte} (h : execLatchNow tag payload s = .next t) :
    StoreSteps s t := by
  refine serve (fun u => ?_) h
  exact capture u .mx _ _

/-! ### The link (chapter 10) -/

theorem acceptRequest (s : State) (f : Frame) : StoreSteps s (s.acceptRequest f) := by
  unfold State.acceptRequest
  split <;> exact of_store rfl

theorem frameFault (s : State) (p : Port) : StoreSteps s (s.frameFault p) := by
  cases p <;> exact of_store rfl

theorem acceptFrame (s : State) (p : Port) (f : Frame) (coils : Coils) :
    StoreSteps s (s.acceptFrame p f coils) := by
  unfold State.acceptFrame
  cases p with
  | control => exact (acceptRequest (s.setReceiver .control {}) f).after rfl
  | head h =>
    dsimp only
    split
    · exact (takeReport (s.setReceiver (.head h) {}) h f.payload coils).after rfl
    · split
      · exact (takeHeadState (s.setReceiver (.head h) {}) h f.payload coils).after rfl
      · exact of_store rfl

theorem execFrameAccepted {kind tag : Byte} {payload : List Byte}
    (h : execFrameAccepted kind tag payload s = .next t) : StoreSteps s t :=
  event (fun u => (acceptRequest (u.setReceiver .control {}) _).after rfl) h

theorem execByteReceived {p : Port} {byte : Byte} {stopBit : Bool} {coils : Coils}
    (h : execByteReceived p byte stopBit coils s = .next t) : StoreSteps s t := by
  refine event (fun u => ?_) h
  dsimp only [State.takeByte]
  split
  · exact of_store rfl
  · exact of_store rfl
  · exact acceptFrame u p _ coils
  · exact frameFault u p

theorem execStatus {tag : Byte} {payload : List Byte} (h : execStatus tag payload s = .next t) :
    StoreSteps s t := by
  refine serve (fun u => ?_) h
  exact refl u

theorem execFrameTimerExpiry {p : Port} (h : execFrameTimerExpiry p s = .next t) : StoreSteps s t := by
  refine event (fun u => ?_) h
  split
  · exact refl u
  · exact (frameFault _ p).after rfl

theorem execFrameSent (h : execFrameSent s = .next t) : StoreSteps s t := by
  refine event (fun u => ?_) h
  split <;> exact of_store rfl

theorem execUnknownKind {kind tag : Byte} {payload : List Byte}
    (h : execUnknownKind kind tag payload s = .next t) : StoreSteps s t := by
  have ht := (Host.Outcome.next.inj h).symm
  split at ht
  · exact ht ▸ refl s
  · rename_i s0 htake
    split at ht
    · exact ht ▸ refl s
    · exact ht ▸ (of_takeRequest htake).trans (close_reply _ _ _ _)

theorem readRequest (s : State) (payload : List Byte) : StoreSteps s (s.readRequest payload).2 := by
  unfold State.readRequest
  split
  · exact refl s
  · unfold State.readFrom
    split
    · exact refl s
    · split
      · exact of_store rfl
      · unfold State.readCollection
        dsimp only
        split <;> exact of_store rfl

theorem writeNozzle (s : State) (l : Locator) (grade : Byte) :
    StoreSteps s (s.writeNozzle l grade).2 := by
  unfold State.writeNozzle
  dsimp only
  split
  · exact of_store rfl
  · dsimp only
    split
    · exact of_store rfl
    · exact (autoFence _ _).after rfl
  · exact refl s

theorem writeRequest (s : State) (payload : List Byte) : StoreSteps s (s.writeRequest payload).2 := by
  unfold State.writeRequest
  dsimp only
  split
  · exact refl s
  · split
    · exact refl s
    · split
      · exact refl s
      · split
        · unfold State.writeRoute
          split
          · exact refl s
          · split <;> exact of_store rfl
        · exact writeNozzle s _ _

/-! ### The banks (chapters 6 and 7) -/

theorem execWave {b : BankId} {id : TrackId} {coils : Coils} (h : execWave b id coils s = .next t) :
    StoreSteps s t := by
  refine event (fun u => ?_) h
  split
  · exact refl u
  · split
    · exact refl u
    · split
      · exact (openWave _ b id coils).after rfl
      · exact refl u

theorem execNozzleClosing {b : BankId} {m : Member} (h : execNozzleClosing b m s = .next t) :
    StoreSteps s t := by
  refine event (fun u => ?_) h
  split <;> exact of_store rfl

theorem execPulseExpiry {b : BankId} {id : TrackId} (h : execPulseExpiry b id s = .next t) :
    StoreSteps s t := by
  refine event (fun u => ?_) h
  split
  · exact refl u
  · split
    · exact refl u
    · split
      · exact (pulseEnds _ b _).after rfl
      · exact refl u

theorem execRechargeExpiry {b : BankId} {coils : Coils} (h : execRechargeExpiry b coils s = .next t) :
    StoreSteps s t := by
  refine event (fun u => ?_) h
  split
  · exact (rechargeDone _ b coils).after rfl
  · exact refl u

theorem execSwitchExpiry {b : BankId} {coils : Coils} (h : execSwitchExpiry b coils s = .next t) :
    StoreSteps s t := by
  refine event (fun u => ?_) h
  split
  · exact (switchDone _ b _ coils).after rfl
  · exact refl u

theorem execFireEnableFall (h : execFireEnableFall s = .next t) : StoreSteps s t := by
  refine event (fun u => ?_) h
  split
  · exact (foldl cutBank allBanks _).after rfl
  · exact refl u

theorem execFireEnableRise {coils : Coils} (h : execFireEnableRise coils s = .next t) :
    StoreSteps s t := by
  refine event (fun u => ?_) h
  split
  · exact refl u
  · exact ((foldl (retryStep coils) allBanks _).trans (purgeTests _ coils)).after rfl

theorem execPurgeTimerExpiry {b : BankId} {coils : Coils}
    (h : execPurgeTimerExpiry b coils s = .next t) : StoreSteps s t := by
  refine event (fun u => ?_) h
  split
  · exact refl u
  · exact (purgeTest coils _ b).after rfl

theorem execPurgeExpiry {b : BankId} (h : execPurgeExpiry b s = .next t) : StoreSteps s t := by
  refine event (fun u => ?_) h
  split <;> exact of_store rfl

theorem execConditioningStepExpiry {b : BankId} {coils : Coils}
    (h : execConditioningStepExpiry b coils s = .next t) : StoreSteps s t := by
  refine event (fun u => ?_) h
  split
  · exact (stepDone _ b _ coils).after rfl
  · exact refl u

theorem execFence {tag : Byte} {payload : List Byte} (h : execFence tag payload s = .next t) :
    StoreSteps s t := by
  refine serve (fun u => ?_) h
  split
  · exact refl u
  · exact fenceBank u _

theorem unfenceBank (s : State) (b : BankId) (coils : Coils) : StoreSteps s (s.unfenceBank b coils) := by
  have hbegins : StoreSteps s (State.beginConditioning coils (s.modBank b Bank.unfenced) b) :=
    (beginConditioning coils _ b).after rfl
  unfold State.unfenceBank
  dsimp only
  split
  · exact hbegins
  · exact hbegins
  · exact of_store rfl
  · exact of_store rfl
  · exact of_store rfl

theorem execUnfence {tag : Byte} {payload : List Byte} {coils : Coils}
    (h : execUnfence tag payload coils s = .next t) : StoreSteps s t := by
  refine serve (fun u => ?_) h
  split
  · exact refl u
  · split
    · exact refl u
    · split
      · exact refl u
      · exact unfenceBank u _ coils

theorem execSetLevel {tag : Byte} {payload : List Byte} (h : execSetLevel tag payload s = .next t) :
    StoreSteps s t := by
  refine serve (fun u => ?_) h
  split
  · split
    · exact refl u
    · split
      · exact refl u
      · split <;> exact of_store rfl
  · exact refl u

/-! ### Settings, pressure and power (8.1, 9.5 to 9.7) -/

theorem execGet {tag : Byte} {payload : List Byte} (h : execGet tag payload s = .next t) :
    StoreSteps s t := by
  refine serve (fun u => ?_) h
  split <;> exact refl u

theorem settingTaken (s before : State) (n : SettingName) (coils : Coils) :
    StoreSteps s (s.settingTaken before n coils) := by
  unfold State.settingTaken
  split
  · split <;> exact of_store rfl
  · split <;> exact of_store rfl
  · split <;> exact of_store rfl
  · exact (purgeTest coils _ _).after rfl
  · exact afterShed _ _ _
  · exact refl s

theorem execSet {tag : Byte} {payload : List Byte} {coils : Coils}
    (h : execSet tag payload coils s = .next t) : StoreSteps s t := by
  refine serve (fun u => ?_) h
  split
  · exact refl u
  · exact refl u
  · split
    · exact refl u
    · split
      · exact refl u
      · split
        · exact refl u
        · exact (settingTaken _ u _ coils).after rfl

theorem execSave {tag : Byte} {payload : List Byte} (h : execSave tag payload s = .next t) :
    StoreSteps s t := by
  have ht := (Host.Outcome.next.inj h).symm
  split at ht
  · exact ht ▸ refl s
  · rename_i s0 htake
    have htaken : StoreSteps s s0 := of_takeRequest htake
    split at ht
    · exact ht ▸ htaken.trans (of_store (closeEvent_store _ _))
    · exact ht ▸ htaken.trans (close_reply _ _ _ _)

theorem execSaveComplete (h : execSaveComplete s = .next t) : StoreSteps s t := by
  refine event (fun u => ?_) h
  split <;> exact of_store rfl

theorem pressureLow (s : State) : StoreSteps s s.pressureLow := by
  unfold State.pressureLow
  split
  · exact of_store rfl
  · exact of_store rfl
  · exact (haltRequest _ .pressure).after rfl

theorem lowTest (s : State) (reading : Nat) : StoreSteps s (s.lowTest reading) := by
  unfold State.lowTest
  split
  · split
    · split
      · exact of_store rfl
      · exact (pressureLow _).after rfl
    · exact of_store rfl
  · exact refl s

theorem execPressureSample {microamps : Nat} (h : execPressureSample microamps s = .next t) :
    StoreSteps s t := by
  refine event (fun u => ?_) h
  exact (lowTest _ _).after rfl

theorem execPowerFailure (h : execPowerFailure s = .next t) : StoreSteps s t := by
  cases h
  exact of_store rfl

/-! ### Run Control and the store (chapters 3 and 9) -/

theorem conditionDark (coils : Coils) (s : State) (b : BankId) :
    StoreSteps s (State.conditionDark coils s b) := by
  unfold State.conditionDark
  split
  · exact beginConditioning coils s b
  · exact refl s

theorem startRun (s : State) (coils : Coils) : StoreSteps s (s.startRun coils) := by
  have hstore : (s.startRun coils).store = (allBanks.foldl (State.conditionDark coils) s).store := by
    simp only [State.startRun]
  exact (foldl (conditionDark coils) allBanks s).trans (of_store hstore)

theorem execStart {tag : Byte} {payload : List Byte} {coils : Coils}
    (h : execStart tag payload coils s = .next t) : StoreSteps s t := by
  refine serve (fun u => ?_) h
  split
  · exact refl u
  · split
    · exact refl u
    · split
      · exact refl u
      · exact startRun u coils

theorem passDrain (s : State) : StoreSteps s s.passDrain := by
  unfold State.passDrain
  split
  · obtain ⟨l, fl, h⟩ := State.raise_eq s (.state .drain)
    rw [h]
    exact of_store rfl
  · exact refl s

theorem execStop {tag : Byte} {payload : List Byte} (h : execStop tag payload s = .next t) :
    StoreSteps s t := by
  refine serveAfter passDrain (fun u => ?_) h
  split
  · split <;> exact of_store rfl
  · exact of_store rfl
  · exact refl u
  · exact refl u
  · exact refl u

theorem execAbortRun {tag : Byte} {payload : List Byte} (h : execAbortRun tag payload s = .next t) :
    StoreSteps s t := by
  refine serve (fun u => ?_) h
  split
  · exact enterHalted u .host
  · exact enterHalted u .host
  · exact enterHalted u .host
  · exact enterHalted u .host
  · exact refl u

theorem execResume {tag : Byte} {payload : List Byte} (h : execResume tag payload s = .next t) :
    StoreSteps s t := by
  refine serve (fun u => ?_) h
  split <;> exact of_store rfl

theorem execWarmReset (h : execWarmReset s = .next t) : StoreSteps s t := by
  have ht := (Host.Outcome.next.inj h).symm
  split at ht
  · rw [ht]
    exact of_move (.reset s.store)
  · exact ht ▸ refl s

theorem execReset {tag : Byte} {payload : List Byte} (h : execReset tag payload s = .next t) :
    StoreSteps s t := by
  refine serve (fun u => ?_) h
  exact refl u

theorem execClearTallies {tag : Byte} {payload : List Byte}
    (h : execClearTallies tag payload s = .next t) : StoreSteps s t := by
  refine serve (fun u => ?_) h
  exact of_move (.clearTallies u.store)

theorem execInject {tag : Byte} {payload : List Byte} {coils : Coils}
    (h : execInject tag payload coils s = .next t) : StoreSteps s t := by
  refine serve (fun u => ?_) h
  dsimp only
  split
  · exact refl u
  · split
    · exact refl u
    · split
      · exact refl u
      · rename_i hroom
        have hid : ∀ id born, (u.injected (readInject payload) id born).id = id := fun _ _ => rfl
        dsimp only
        exact addRecord hid (Bool.eq_false_of_not_eq_true hroom) coils

theorem execClearFlags {tag : Byte} {payload : List Byte} {coils : Coils}
    (h : execClearFlags tag payload coils s = .next t) : StoreSteps s t := by
  refine serveAfter (fun u => ?_) (fun u => afterShed u _ coils) h
  dsimp only [State.clearFlagsOf]
  split <;> exact of_store rfl

/-! ### Every command -/

theorem exec {c : Instr} (h : exec c s = .next t) : StoreSteps s t := by
  cases c with
  | powerOn a b f => exact execPowerOn h
  | encoderEdge a b coils => exact execEncoderEdge h
  | speedSample coils => exact execSpeedSample h
  | stallTimerExpiry coils => exact execStallTimerExpiry h
  | activeEdge line high => exact execActiveEdge h
  | strobeReturn line high => exact execStrobeReturn h
  | filterExpiry line => exact execFilterExpiry h
  | deadlineExpiry head seq => exact execDeadlineExpiry h
  | frameAccepted kind tag payload => exact execFrameAccepted h
  | frameFault port => exact event (fun u => frameFault u port) h
  | frameTimerExpiry port => exact execFrameTimerExpiry h
  | report head payload coils => exact execReport h
  | headState head payload coils => exact execHeadState h
  | silenceTimerExpiry head coils => exact execSilenceTimerExpiry h
  | wave b id coils => exact execWave h
  | nozzleClosing b m => exact execNozzleClosing h
  | pulseExpiry b id => exact execPulseExpiry h
  | rechargeExpiry b coils => exact execRechargeExpiry h
  | switchExpiry b coils => exact execSwitchExpiry h
  | fireEnableFall => exact execFireEnableFall h
  | fireEnableRise coils => exact execFireEnableRise h
  | purgeTimerExpiry b coils => exact execPurgeTimerExpiry h
  | purgeExpiry b => exact execPurgeExpiry h
  | conditioningStepExpiry b coils => exact execConditioningStepExpiry h
  | pressureSample microamps => exact execPressureSample h
  | status tag payload => exact execStatus h
  | clearFlags tag payload coils => exact execClearFlags h
  | get tag payload => exact execGet h
  | set tag payload coils => exact execSet h
  | save tag payload => exact execSave h
  | saveComplete => exact execSaveComplete h
  | start tag payload coils => exact execStart h
  | stop tag payload => exact execStop h
  | abortRun tag payload => exact execAbortRun h
  | resume tag payload => exact execResume h
  | reset tag payload => exact execReset h
  | warmReset => exact execWarmReset h
  | read tag payload => exact serve (fun u => readRequest u payload) h
  | shortRead tag payload => exact serve (fun u => readRequest u payload) h
  | writeRoute tag payload => exact serve (fun u => writeRequest u payload) h
  | writeNozzle tag payload => exact serve (fun u => writeRequest u payload) h
  | fence tag payload => exact execFence h
  | unfence tag payload coils => exact execUnfence h
  | setLevel tag payload => exact execSetLevel h
  | latchWatch tag payload => exact execLatchWatch h
  | latchNow tag payload => exact execLatchNow h
  | inject tag payload coils => exact execInject h
  | clearTallies tag payload => exact execClearTallies h
  | unknownKind kind tag payload => exact execUnknownKind h
  | frameSent => exact execFrameSent h
  | byteReceived port byte stopBit coils => exact execByteReceived h
  | powerFailure => exact execPowerFailure h

/-- Whatever a step does, the store has changed by moves of the store alone. -/
theorem of_step (h : step s = .next t) : StoreSteps s t := by
  unfold step at h
  split at h
  · rw [← Host.Outcome.next.inj h]
    unfold State.idle
    split <;> exact of_store rfl
  · exact (exec h).after rfl

/-- The laws of R41 and R62 together, over every step: the balance counts on distinct ids. -/
theorem idsDistinct_balanced (h : StoreSteps s t) (hids : s.store.IdsDistinct)
    (hbal : s.store.Balanced) : t.store.IdsDistinct ∧ t.store.Balanced := by
  obtain ⟨hmoves⟩ := h
  generalize t.store = st at hmoves
  induction hmoves with
  | refl => exact ⟨hids, hbal⟩
  | tail _ hmove ih =>
    obtain ⟨hids', hbal'⟩ := ih
    exact ⟨hmove.idsDistinct hids', hmove.balanced hids' hbal'⟩

end Sys2Proof.Machine.StoreSteps

namespace Sys2Proof.Laws.TrackStore

open Sys2Proof Sys2Proof.Machine

/-- Settles O25: every step changes the store by moves, each of which keeps ids distinct and, on a store of
distinct ids, the balance. -/
theorem talliesBalance : Obligations.TalliesBalance := by
  unfold Obligations.TalliesBalance
  intro s t hids hbal hstep
  exact ((StoreSteps.of_step hstep).idsDistinct_balanced hids hbal).2

/-- Settles O27: the request's effect is the store with its tallies cleared. -/
theorem clearTallies : Obligations.ClearTallies := by
  unfold Obligations.ClearTallies
  intro tag s hs
  refine ⟨{ s with store := s.store.clearTallies }, ?_, rfl, fun c => ?_, rfl⟩
  · show execClearTallies tag [] s = _
    unfold execClearTallies
    rw [serve_ready hs rfl]
    rfl
  · show (Vector.replicate 32 ({} : ClassTally))[c] = _
    simp

end Sys2Proof.Laws.TrackStore

/-!
SUPPORT. The WRITE of a route entry in its order (R68, R69, R172, R173): the entry a locator of the ROUTE
table names, the codes of the enumerated fields, the clamping, and what the request leaves.
-/

namespace Sys2Proof.Machine

/-! ### Clamping (R65, R68) -/

theorem clampNat_eq_max_min {lo hi : Nat} (h : lo ≤ hi) (x : Nat) :
    clampNat lo hi x = max lo (min hi x) := by
  unfold clampNat
  split
  · omega
  · split <;> omega

theorem Route.clamped_eq (r : Route) :
    r.clamped =
      { r with
        dmin := max 1 (min 200 r.dmin), dmax := max 1 (min 200 r.dmax)
        leadPad := min 4095 r.leadPad, spanPad := min 3 r.spanPad
        precedence := min 7 r.precedence, minConfidence := min 15 r.minConfidence } := by
  simp [Route.clamped, clampNat_eq_max_min]

/-- The clamping leaves an entry exactly when every numeric field lies in its range. -/
theorem Route.clamped_eq_self_iff (r : Route) :
    r.clamped = r ↔ max 1 (min 200 r.dmin) = r.dmin ∧ max 1 (min 200 r.dmax) = r.dmax ∧
      r.leadPad ≤ 4095 ∧ r.spanPad ≤ 3 ∧ r.precedence ≤ 7 ∧ r.minConfidence ≤ 15 := by
  rw [Route.clamped_eq]
  cases r
  simp

/-! ### The enumerated fields (10.9.6) -/

theorem destinationOfCode_eq_none {n : Nat} (h : 2 < n) : destinationOfCode n = none := by
  obtain ⟨k, rfl⟩ := Nat.exists_eq_add_of_le' h
  rfl

theorem levelOfCode_eq_none {n : Nat} (h : 1 < n) : levelOfCode n = none := by
  obtain ⟨k, rfl⟩ := Nat.exists_eq_add_of_le' h
  rfl

theorem policyOfCode_eq_none {n : Nat} (h : 1 < n) : policyOfCode n = none := by
  obtain ⟨k, rfl⟩ := Nat.exists_eq_add_of_le' h
  rfl

section
variable {d lv dmin dmax p1 p0 sp pr mc po : Byte}

/-- One enumerated field outside its set is enough for no entry to be read (R68). -/
theorem readRoute_eq_none (h : 2 < d.toNat ∨ 1 < lv.toNat ∨ 1 < po.toNat) :
    readRoute [d, lv, dmin, dmax, p1, p0, sp, pr, mc, po] = none := by
  unfold readRoute
  rcases h with h | h | h
  · simp [byteAt, destinationOfCode_eq_none h]
  · simp [byteAt, levelOfCode_eq_none h]
  · simp [byteAt, policyOfCode_eq_none h]

theorem readRoute_eq_some {dest : Destination} {level : Level} {policy : Policy}
    (hdest : destinationOfCode d.toNat = some dest) (hlevel : levelOfCode lv.toNat = some level)
    (hpolicy : policyOfCode po.toNat = some policy) :
    readRoute [d, lv, dmin, dmax, p1, p0, sp, pr, mc, po] = some
      { destination := dest, level := level, dmin := dmin.toNat, dmax := dmax.toNat
        leadPad := read2 p1 p0, spanPad := sp.toNat, precedence := pr.toNat
        minConfidence := mc.toNat, policy := policy } := by
  simp [readRoute, byteAt, hdest, hlevel, hpolicy]

end

/-! ### The locator (R173) -/

/-- A mode that the ROUTE table has not, or an operand past entry 31 in a mode that reads it. -/
theorem readLocator_route_eq_none {m hi lo : Byte}
    (h : 3 < m.toNat ∨ ((m = 0 ∨ m = 3) ∧ 31 < read2 hi lo)) (q : Byte) :
    readLocator 1 q m hi lo = none := by
  have htable : tableOfCode 1 q = some .route := rfl
  unfold readLocator
  rw [htable]
  rcases h with hmode | ⟨rfl | rfl, hpast⟩
  · obtain ⟨k, hk⟩ := Nat.exists_eq_add_of_le' hmode
    unfold modeOfCode
    rw [hk]
    cases k <;> rfl
  · exact if_neg fun hvalid => Nat.not_lt.mpr hpast (of_decide_eq_true hvalid)
  · exact if_neg fun hvalid => Nat.not_lt.mpr hpast (of_decide_eq_true hvalid)

theorem readLocator_route {s : State} {m hi lo : Byte} {n : Nat}
    (h : namesEntry m (read2 hi lo) s.cursors.route n) (hn : n < 32) (q : Byte) :
    ∃ l, readLocator 1 q m hi lo = some l ∧ s.fixedStart l = n := by
  rcases h with ⟨rfl, rfl⟩ | ⟨rfl, rfl⟩ | ⟨rfl, rfl⟩ | ⟨rfl, rfl⟩
  · exact ⟨⟨.route, .direct, read2 hi lo⟩, if_pos (decide_eq_true hn), rfl⟩
  · exact ⟨⟨.route, .cursor, read2 hi lo⟩, rfl, rfl⟩
  · exact ⟨⟨.route, .first, read2 hi lo⟩, rfl, rfl⟩
  · exact ⟨⟨.route, .offset, read2 hi lo⟩, if_pos (decide_eq_true hn), rfl⟩

/-! ### The effect of the WRITE (R68, R69) -/

theorem State.writeRoute_unread {bs : List Byte} (h : readRoute bs = none) (s : State) (l : Locator) :
    s.writeRoute l bs = (refusal .range, s) := by
  unfold State.writeRoute
  rw [h]

theorem State.writeRoute_crossed {bs : List Byte} {r : Route} (h : readRoute bs = some r)
    (hcross : r.clamped.dmax < r.clamped.dmin) (s : State) (l : Locator) :
    s.writeRoute l bs = (refusal .range, s) := by
  unfold State.writeRoute
  rw [h]
  exact if_pos hcross

theorem State.writeRoute_stored {bs : List Byte} {r : Route} (h : readRoute bs = some r)
    (hpair : r.clamped.dmin ≤ r.clamped.dmax) (s : State) (l : Locator) :
    s.writeRoute l bs =
      ({ status := if r.clamped = r then .ok else .okClamped, data := r.clamped.bytes },
        s.putRoute (s.fixedStart l) r.clamped) := by
  unfold State.writeRoute
  rw [h]
  exact if_neg (Nat.not_lt.mpr hpair)

/-! ### The tests of the WRITE, in their order (R172) -/

theorem State.writeRequest_otherTable {p : List Byte} (hroute : byteAt p 0 ≠ 1) (hnozzle : byteAt p 0 ≠ 4)
    (s : State) : s.writeRequest p = (refusal .range, s) :=
  if_pos ⟨fun h => hroute (BitVec.eq_of_toNat_eq h), fun h => hnozzle (BitVec.eq_of_toNat_eq h)⟩

theorem State.writeRequest_routeLength {p : List Byte} (hroute : byteAt p 0 = 1) (hlen : p.length ≠ 15)
    (s : State) : s.writeRequest p = (refusal .length, s) := by
  simp [State.writeRequest, hroute, hlen]

theorem State.writeRequest_unlocated {q m hi lo : Byte} (h : Machine.readLocator 1 q m hi lo = none)
    {bs : List Byte} (hbs : bs.length = 10) (s : State) :
    s.writeRequest (1 :: q :: m :: hi :: lo :: bs) = (refusal .range, s) := by
  simp only [BitVec.ofNat_eq_ofNat] at h
  simp [State.writeRequest, byteAt, hbs, h]

theorem State.writeRequest_route {q m hi lo : Byte} {l : Locator}
    (h : Machine.readLocator 1 q m hi lo = some l) {bs : List Byte} (hbs : bs.length = 10) (s : State) :
    s.writeRequest (1 :: q :: m :: hi :: lo :: bs) = s.writeRoute l bs := by
  simp only [BitVec.ofNat_eq_ofNat] at h
  simp [State.writeRequest, byteAt, hbs, h]

theorem exec_writeRoute_ready {s : State} (hs : s.ready) (tag : Byte) {p : List Byte}
    (hlen : p.length = 15 ∨ p.length = 6) {a : Answer} {t : State} (h : s.writeRequest p = (a, t)) :
    exec (.writeRoute tag p) s =
      .next (closeEvent s (t.handReply (a.reply 0x0C tag) a.thenReset)) := by
  show execWriteRoute tag p s = _
  unfold execWriteRoute
  rw [serve_ready hs (by rcases hlen with hlen | hlen <;> rw [hlen] <;> rfl), h]

theorem refusal_reply (status : Status) (kind tag : Byte) :
    (refusal status).reply kind tag =
      { kind := kind + 0x80, tag := tag, payload := [status.code] } := by
  unfold Answer.reply
  rw [show (refusal status).data = [] from rfl, ite_self]
  rfl

/-- A refused WRITE changes nothing but the transmitter, and its reply carries the status alone (R170). -/
theorem exec_writeRoute_refused {s : State} (hs : s.ready) (tag : Byte) {p : List Byte}
    (hlen : p.length = 15 ∨ p.length = 6) {status : Status}
    (h : s.writeRequest p = (refusal status, s)) :
    exec (.writeRoute tag p) s = .next (closeEvent s (s.replied 0x8C tag [status.code])) := by
  rw [exec_writeRoute_ready hs tag hlen h, refusal_reply]
  rfl

/-- A WRITE that stores replies with the entry, under OK or OK_CLAMPED as a field changed (R69). -/
theorem exec_writeRoute_stored {s : State} (hs : s.ready) (tag : Byte) {p : List Byte}
    (hlen : p.length = 15) {r : Route} {t : State}
    (h : s.writeRequest p =
      ({ status := if r.clamped = r then .ok else .okClamped, data := r.clamped.bytes }, t)) :
    exec (.writeRoute tag p) s = .next (closeEvent s (t.replied 0x8C tag
      ((if r.clamped = r then 0x00 else 0x01) :: r.clamped.bytes))) := by
  rw [exec_writeRoute_ready hs tag (.inl hlen) h]
  by_cases hsame : r.clamped = r <;> simp only [hsame, if_true, if_false] <;> rfl

end Sys2Proof.Machine

/-!
SUPPORT. The statement of the WRITE of a route entry, settled (R68, R69).
-/

namespace Sys2Proof.Laws.RouteWrite

open Sys2Proof Sys2Proof.Machine

/-- Settles O58: the tests of the request one after another, and past them the clamped entry stored. -/
theorem writeRoute : Obligations.WriteRoute := by
  unfold Obligations.WriteRoute
  refine ⟨fun tag q m hi lo d lv dmin dmax p1 p0 sp pr mc po n s hs => ⟨fun hloc => ?_,
    fun hname hn => ?_⟩, fun tag p s hs => ⟨fun hlen hroute hnozzle => ?_, fun hlen hroute => ?_⟩⟩
  · exact exec_writeRoute_refused hs tag (.inl rfl) (status := .range)
      (State.writeRequest_unlocated (readLocator_route_eq_none hloc q) rfl s)
  · obtain ⟨l, hl, hstart⟩ := readLocator_route hname hn q
    have hreq := State.writeRequest_route hl (bs := [d, lv, dmin, dmax, p1, p0, sp, pr, mc, po]) rfl s
    refine ⟨fun hcode => ?_, fun dest level policy hdest hlevel hpolicy =>
      ⟨fun hcross => ?_, fun hpair => ?_⟩⟩
    · exact exec_writeRoute_refused hs tag (.inl rfl) (status := .range)
        (hreq.trans (State.writeRoute_unread (readRoute_eq_none hcode) s l))
    · refine exec_writeRoute_refused hs tag (.inl rfl) (status := .range)
        (hreq.trans (State.writeRoute_crossed (readRoute_eq_some hdest hlevel hpolicy) ?_ s l))
      rw [Route.clamped_eq]
      exact hcross
    · have hstored := exec_writeRoute_stored hs tag rfl (hreq.trans
        (State.writeRoute_stored (readRoute_eq_some hdest hlevel hpolicy)
          (by rw [Route.clamped_eq]; exact hpair) s l))
      simp only [Route.clamped_eq_self_iff] at hstored
      rw [hstart, Route.clamped_eq] at hstored
      exact hstored
  · exact exec_writeRoute_refused hs tag hlen (status := .range)
      (State.writeRequest_otherTable hroute hnozzle s)
  · exact exec_writeRoute_refused hs tag (.inr hlen) (status := .length)
      (State.writeRequest_routeLength hroute (by omega) s)

end Sys2Proof.Laws.RouteWrite

/-!
SUPPORT. SET-LEVEL in its order (R121): what the request leaves when it names no bank or no level, and what
it leaves once both are named.
-/

namespace Sys2Proof.Machine

theorem bankOfCode_eq_none {n : Byte} (h : 15 < n.toNat) : bankOfCode n = none :=
  dif_neg (by omega)

/-- A bank above 15 or a level that is not one is RANGE, before any other test (R121). -/
theorem exec_setLevel_unnamed {s : State} (hs : s.ready) (tag : Byte) {n x : Byte}
    (h : bankOfCode n = none ∨ levelOfCode x.toNat = none) :
    exec (.setLevel tag [n, x]) s = .next (closeEvent s (s.replied 0x8F tag [0x20])) := by
  show execSetLevel tag [n, x] s = _
  unfold execSetLevel
  rw [serve_ready hs rfl]
  rcases h with hbank | hlevel
  · simp only [byteAt, List.getD_cons_zero, hbank]
    rfl
  · simp only [byteAt, List.getD_cons_succ, List.getD_cons_zero, hlevel]
    cases bankOfCode n <;> rfl

/-- What a SET-LEVEL that names a bank and a level leaves, its tests in their order (R121). -/
theorem exec_setLevel_named {s : State} (hs : s.ready) (tag : Byte) {n x : Byte} {b : BankId}
    {level : Level} (hbank : bankOfCode n = some b) (hlevel : levelOfCode x.toNat = some level) :
    exec (.setLevel tag [n, x]) s = .next (closeEvent s
      (if s.shed = true ∧ level = .high then s.replied 0x8F tag [0x10]
      else if (s.bank b).state ≠ .idle then s.replied 0x8F tag [0x11]
      else if level = (s.bank b).level then s.replied 0x8F tag [0x00]
      else (s.startSwitch b level).replied 0x8F tag [0x00])) := by
  show execSetLevel tag [n, x] s = _
  unfold execSetLevel
  rw [serve_ready hs rfl]
  simp only [byteAt, List.getD_cons_succ, List.getD_cons_zero, hbank, hlevel]
  split
  · rfl
  · split
    · rfl
    · split <;> rfl

end Sys2Proof.Machine

/-!
SUPPORT. The statement of SET-LEVEL, settled (R121).
-/

namespace Sys2Proof.Laws.ValveBanks

open Sys2Proof Sys2Proof.Machine

/-- Settles O37: the request that names no bank or no level, then the tests of a named one in turn. -/
theorem setLevel : Obligations.SetLevel := by
  unfold Obligations.SetLevel
  refine fun tag n x s hs => ⟨fun hout => ?_, fun b level hbank hlevel => ?_⟩
  · exact exec_setLevel_unnamed hs tag (hout.imp bankOfCode_eq_none levelOfCode_eq_none)
  · rw [exec_setLevel_named hs tag hbank hlevel]
    refine ⟨fun hshed hhigh => ?_, fun hair hbusy => ?_, fun hair hidle hother => ?_,
      fun hair hidle hsame => ?_⟩
    · rw [if_pos ⟨hshed, hhigh⟩]
    · rw [if_neg hair, if_pos hbusy]
    · rw [if_neg hair, if_neg (not_not_intro hidle), if_neg hother]
      rfl
    · rw [if_neg hair, if_neg (not_not_intro hidle), if_pos hsame]

end Sys2Proof.Laws.ValveBanks

/-!
SUPPORT. RESUME in HALTED and elsewhere (R160), and what an event that changes the run state leaves of the
notice queue and the reply in hand (R153, R171, R180).
-/

namespace Sys2Proof.Machine

/-! ### A notice that finds room, and the reply at the transmitter (R171, R180) -/

/-- A notice with room takes its number and joins the queue as its newest; all else stands (R180). -/
theorem State.raise_room {s : State} (h : s.link.notices.length < 8) (k : NoticeKind) :
    s.raise k = { s with link := { s.link with
      notices := s.link.notices ++ [{ number := s.link.noticeNumber, kind := k }]
      noticeNumber := s.link.noticeNumber + 1 } } :=
  if_pos h

/-- A change of run state that sets no flag raises its STATE notice alone (R153, R180). -/
theorem closeEvent_stateNotice {b a : State} (hf : a.flags = b.flags) (hr : b.run ≠ a.run) :
    closeEvent b a = (a.raise (.state a.run)).transmit := by
  have hset : newlySet b.flags a.flags = 0 := by rw [hf]; simp [newlySet]
  simp [closeEvent, raiseNotices, hset, hr]

/-- A reply handed on goes before every notice: it waits at the transmitter or is being sent, and the
notice queue stands (R171). -/
theorem State.transmit_replying {s : State} {reply : Frame} {thenReset : Bool}
    (h : s.link.service = .replying reply thenReset) :
    s.transmit.link.notices = s.link.notices ∧ s.transmit.replyFrame? = some reply := by
  cases htransmitter : s.link.transmitter with
  | some x =>
    have hbusy : s.transmit = s := by simp [State.transmit, htransmitter]
    rw [hbusy]
    exact ⟨rfl, by simp [State.replyFrame?, h]⟩
  | none => simp [State.transmit, State.replyFrame?, htransmitter, h]

/-- A request that changes the run state and sets no flag, with room for its notice: the STATE notice joins
behind those that wait, and the reply is in hand (R153, R169, R171). -/
theorem closeEvent_replied_stateNotice {b u : State} (hf : u.flags = b.flags) (hr : b.run ≠ u.run)
    (hroom : u.link.notices.length < 8) (kind tag : Byte) (payload : List Byte) :
    (closeEvent b (u.replied kind tag payload)).link.notices =
        u.link.notices ++ [{ number := u.link.noticeNumber, kind := .state u.run }] ∧
      (closeEvent b (u.replied kind tag payload)).replyFrame? =
        some { kind := kind, tag := tag, payload := payload } := by
  have hraise := State.raise_room (s := u.replied kind tag payload) hroom (.state u.run)
  rw [closeEvent_stateNotice (a := u.replied kind tag payload) hf hr]
  obtain ⟨hnotices, hreply⟩ := State.transmit_replying
    (s := (u.replied kind tag payload).raise (.state u.run))
    (reply := { kind := kind, tag := tag, payload := payload }) (thenReset := false)
    (State.raise_link _ _).2.2.2.2.1
  exact ⟨hnotices.trans (by rw [hraise]; rfl), hreply⟩

/-! ### RESUME (R160) -/

theorem exec_resume_halted {s : State} (hs : s.ready) (tag : Byte) {cause : HaltCause}
    (hr : s.run = .halted cause) :
    exec (.resume tag []) s =
      .next (closeEvent s (({ s with run := .setup } : State).replied 0x89 tag [0x00])) := by
  show execResume tag [] s = _
  unfold execResume
  rw [serve_ready hs rfl]
  simp only [hr]
  rfl

theorem exec_resume_refused {s : State} (hs : s.ready) (tag : Byte)
    (hr : ∀ cause, s.run ≠ .halted cause) :
    exec (.resume tag []) s = .next (closeEvent s (s.replied 0x89 tag [0x10])) := by
  show execResume tag [] s = _
  unfold execResume
  rw [serve_ready hs rfl]
  cases hrun : s.run with
  | halted cause => exact absurd hrun (hr cause)
  | setup => rfl
  | conditioning => rfl
  | run => rfl
  | drain => rfl

end Sys2Proof.Machine

/-!
SUPPORT. The statement of RESUME, settled (R160).
-/

namespace Sys2Proof.Laws.RunControl

open Sys2Proof Sys2Proof.Machine

/-- Settles O12: HALTED and the other run states apart, then the STATE notice that joins behind the reply. -/
theorem resume : Obligations.Resume := by
  unfold Obligations.Resume
  refine ⟨fun tag cause s hs hr => exec_resume_halted hs tag hr,
    fun tag s hs hr => exec_resume_refused hs tag hr, fun tag cause s hs hr hroom => ?_⟩
  have hleaves : s.run ≠ .setup := by simp [hr]
  exact ⟨_, exec_resume_halted hs tag hr,
    closeEvent_replied_stateNotice (b := s) (u := { s with run := .setup }) rfl hleaves hroom
      0x89 tag [0x00]⟩

end Sys2Proof.Laws.RunControl

/-!
SUPPORT. What the store's operations leave of a bank and of the health map: a record that leaves takes its
entries with it (R57, R124), and nothing else of a bank changes.
-/

namespace Sys2Proof.Machine

/-! ### Banks by index -/

theorem State.bank_setBank_eq (s : State) (b c : BankId) (v : Bank) :
    (s.setBank b v).bank c = if c = b then v else s.bank c := by
  split
  · rename_i h
    rw [h, State.bank_setBank]
  · rename_i h
    exact State.bank_setBank_ne s v h

theorem State.bank_modBank_eq (s : State) (b c : BankId) (f : Bank → Bank) :
    (s.modBank b f).bank c = if c = b then f (s.bank b) else s.bank c := State.bank_setBank_eq s b c _

theorem State.bank_of_banks {s t : State} (h : t.banks = s.banks) (b : BankId) : t.bank b = s.bank b := by
  unfold State.bank
  rw [h]

@[simp] theorem State.bank_setPulsesCursor (s : State) (b c : BankId) (v : Cursor) :
    (s.setPulsesCursor b v).bank c = s.bank c := rfl

@[simp] theorem State.bank_drainEnd (s : State) (b : BankId) : s.drainEnd.bank b = s.bank b := by
  unfold State.drainEnd
  split <;> rfl

theorem allBanks_eq_finRange : allBanks = List.finRange 16 := by decide

theorem allMembers_eq_finRange : allMembers = List.finRange 8 := by decide

@[simp] theorem mem_allBanks (b : BankId) : b ∈ allBanks := by simp [allBanks_eq_finRange]

theorem nodup_allBanks : allBanks.Nodup := by simp [allBanks_eq_finRange, List.nodup_finRange]

@[simp] theorem mem_allMembers (m : Member) : m ∈ allMembers := by simp [allMembers_eq_finRange]

/-- A fold whose steps each change their own bank alone leaves the banks it does not visit. -/
theorem foldl_bank_of_not_mem {f : State → BankId → State}
    (hf : ∀ s b c, c ≠ b → (f s b).bank c = s.bank c) {l : List BankId} {c : BankId} (hc : c ∉ l)
    (s : State) : (l.foldl f s).bank c = s.bank c := by
  induction l generalizing s with
  | nil => rfl
  | cons b l ih =>
    obtain ⟨hne, hrest⟩ := List.ne_and_not_mem_of_not_mem_cons hc
    exact (ih hrest _).trans (hf s b c hne)

/-- A fold over all banks whose steps each change their own bank alone makes of a bank what its own step
does, on a state that the fold has led to and that holds this bank as it was. -/
theorem foldl_bank_of_mem {f : State → BankId → State}
    (hf : ∀ s b c, c ≠ b → (f s b).bank c = s.bank c) (c : BankId) (s : State) :
    ∃ earlier : List BankId, (earlier.foldl f s).bank c = s.bank c ∧
      (allBanks.foldl f s).bank c = (f (earlier.foldl f s) c).bank c := by
  obtain ⟨earlier, later, hsplit⟩ := List.append_of_mem (mem_allBanks c)
  have hnodup := nodup_allBanks
  rw [hsplit] at hnodup
  obtain ⟨-, hlater, hapart⟩ := List.nodup_append.mp hnodup
  have hearlier : c ∉ earlier := fun h => hapart c h c List.mem_cons_self rfl
  refine ⟨earlier, foldl_bank_of_not_mem hf hearlier s, ?_⟩
  rw [hsplit, List.foldl_append, List.foldl_cons]
  exact foldl_bank_of_not_mem hf (List.nodup_cons.mp hlater).1 _

/-! ### A record's entries leave a bank (R57, R124) -/

/-- `v` is the bank `k` with entries gone, and what their leaving brings: nozzles closed, and a recharge
to `recharged` in the place of OPEN. -/
structure Bank.Dropped (recharged : Time) (k v : Bank) : Prop where
  level : v.level = k.level
  debt : v.debt = k.debt
  due : v.due = k.due
  purgeTimer : v.purgeTimer = k.purgeTimer
  state : v.state = k.state ∨ (k.state = .opened ∧ v.state = .settling recharged)
  queue : v.queue.Sublist k.queue
  nozzles : ∀ m : Member, v.nozzles[m].isSome = true → k.nozzles[m].isSome = true

namespace Bank.Dropped

variable {recharged : Time}

theorem refl (k : Bank) : Dropped recharged k k := ⟨rfl, rfl, rfl, rfl, .inl rfl, .refl _, fun _ h => h⟩

theorem trans {j k v : Bank} (h : Dropped recharged j k) (g : Dropped recharged k v) :
    Dropped recharged j v where
  level := g.level.trans h.level
  debt := g.debt.trans h.debt
  due := g.due.trans h.due
  purgeTimer := g.purgeTimer.trans h.purgeTimer
  queue := g.queue.trans h.queue
  nozzles := fun m x => h.nozzles m (g.nozzles m x)
  state := by
    rcases g.state with hv | ⟨hk, hv⟩
    · rcases h.state with hk | ⟨hj, hk⟩
      · exact .inl (hv.trans hk)
      · exact .inr ⟨hj, hv.trans hk⟩
    · rcases h.state with hk' | ⟨hj, hk'⟩
      · exact .inr ⟨hk'.symm.trans hk, hv⟩
      · simp [hk'] at hk

end Bank.Dropped

theorem Bank.withoutTrack_dropped (k : Bank) (id : TrackId) (recharged : Time) :
    Dropped recharged k (k.withoutTrack id recharged) where
  level := rfl
  debt := rfl
  due := rfl
  purgeTimer := rfl
  state := by
    unfold Bank.withoutTrack
    dsimp only
    split
    · rename_i h
      exact .inr ⟨h.1, rfl⟩
    · exact .inl rfl
  queue := List.filter_sublist
  nozzles := fun m => by
    simp only [Bank.withoutTrack, closeMask, Fin.getElem_fin, Vector.getElem_ofFn]
    split <;> simp

/-- The end of a recharge of a bank that begins now (R114). -/
def State.recharged (s : State) (b : BankId) : Time := timePlus s.timeBase (halfMs (s.bankSettings b).tRC)

/-- What reports, outcomes and retirements can change of the banks and of the flags. -/
structure StoreSide (s t : State) : Prop where
  timeBase : t.timeBase = s.timeBase
  settings : t.settings = s.settings
  health : t.health = s.health
  flags : t.flags = s.flags
  bank : ∀ b, Bank.Dropped (s.recharged b) (s.bank b) (t.bank b)

theorem State.recharged_of_eq {s t : State} (htime : t.timeBase = s.timeBase)
    (hsettings : t.settings = s.settings) (b : BankId) : t.recharged b = s.recharged b := by
  unfold State.recharged State.bankSettings
  rw [htime, hsettings]

namespace StoreSide

theorem of_banks {s t : State} (ht : t.timeBase = s.timeBase) (hs : t.settings = s.settings)
    (hb : t.banks = s.banks) (hh : t.health = s.health) (hf : t.flags = s.flags) : StoreSide s t :=
  ⟨ht, hs, hh, hf, fun b => State.bank_of_banks hb b ▸ .refl _⟩

theorem refl (s : State) : StoreSide s s := of_banks rfl rfl rfl rfl rfl

theorem trans {s t u : State} (h : StoreSide s t) (k : StoreSide t u) : StoreSide s u where
  timeBase := k.timeBase.trans h.timeBase
  settings := k.settings.trans h.settings
  health := k.health.trans h.health
  flags := k.flags.trans h.flags
  bank := fun b => (h.bank b).trans (State.recharged_of_eq h.timeBase h.settings b ▸ k.bank b)

theorem foldl {α : Type} {f : State → α → State} (h : ∀ t a, StoreSide t (f t a)) (l : List α)
    (s : State) : StoreSide s (l.foldl f s) := by
  induction l generalizing s with
  | nil => exact refl s
  | cons a l ih => exact (h s a).trans (ih (f s a))

theorem modRecord (s : State) (id : TrackId) (f : Record → Record) : StoreSide s (s.modRecord id f) :=
  of_banks rfl rfl rfl rfl rfl

theorem modTally (s : State) (c : ClassCode) (f : ClassTally → ClassTally) :
    StoreSide s (s.modTally c f) := of_banks rfl rfl rfl rfl rfl

theorem countCause (s : State) (c : Cause) : StoreSide s (s.countCause c) := of_banks rfl rfl rfl rfl rfl

theorem dropEntries (s : State) (id : TrackId) (b : BankId) : StoreSide s (s.dropEntries id b) := by
  unfold State.dropEntries
  split
  · refine ⟨rfl, rfl, rfl, rfl, fun c => ?_⟩
    rw [State.bank_setPulsesCursor, State.bank_modBank_eq]
    split
    · rename_i h
      exact h ▸ Bank.withoutTrack_dropped _ _ _
    · exact .refl _
  · exact refl s

theorem drainEnd (s : State) : StoreSide s s.drainEnd := by
  unfold State.drainEnd
  split <;> exact of_banks rfl rfl rfl rfl rfl

theorem removeRecord (s : State) (id : TrackId) : StoreSide s (s.removeRecord id) := by
  unfold State.removeRecord
  refine trans (trans ?_ (foldl (fun t b => dropEntries t id b) allBanks _)) (drainEnd _)
  exact of_banks rfl rfl rfl rfl rfl

theorem retireTest (s : State) (id : TrackId) : StoreSide s (s.retireTest id) := by
  unfold State.retireTest
  split
  · exact refl s
  · split
    · exact (modTally _ _ _).trans (removeRecord _ _)
    · exact refl s

theorem endRecord (s : State) (id : TrackId) (st : RecState) (miss : Option Cause) :
    StoreSide s (s.endRecord id st miss) :=
  (modRecord _ _ _).trans (retireTest _ _)

theorem outcomeRule (s : State) (id : TrackId) : StoreSide s (s.outcomeRule id) := by
  unfold State.outcomeRule
  split
  · exact refl s
  · split
    · exact refl s
    · split
      · exact endRecord _ _ _ _
      · exact refl s

theorem reportPart (s : State) (id : TrackId) (b : BankId) (result : PartResult) (level : Option Level) :
    StoreSide s (s.reportPart id b result level) := by
  unfold State.reportPart
  split
  · exact refl s
  · split
    · dsimp only
      split
      · exact ((modRecord _ _ _).trans (countCause _ _)).trans (outcomeRule _ _)
      · exact (modRecord _ _ _).trans (outcomeRule _ _)
    · exact refl s

end StoreSide

/-- Where a record leaves, no entry of its id is left in any bank (R57). -/
theorem State.removeRecord_unqueued (s : State) (id : TrackId) (b : BankId) :
    ∀ e ∈ ((s.removeRecord id).bank b).queue, e.track ≠ id := by
  have hlocal : ∀ (t : State) (b c : BankId), c ≠ b → (t.dropEntries id b).bank c = t.bank c := by
    intro t b c hne
    unfold State.dropEntries
    split
    · rw [State.bank_setPulsesCursor]
      exact State.bank_modBank_ne t _ hne
    · rfl
  unfold State.removeRecord
  obtain ⟨earlier, -, hbank⟩ := foldl_bank_of_mem hlocal b { s with
    store := { s.store with records := s.store.records.filter fun r => decide (r.id ≠ id) }
    cursors := { s.cursors with track := s.cursors.track.leave s.store.keys id.toNat } }
  rw [State.bank_drainEnd, hbank]
  generalize earlier.foldl _ _ = w
  unfold State.dropEntries
  split
  · intro e he
    rw [State.bank_setPulsesCursor, State.bank_modBank] at he
    simpa using (List.mem_filter.mp he).2
  · rename_i hnone
    intro e he heq
    exact hnone (List.any_eq_true.mpr ⟨e, he, by simpa using heq⟩)

end Sys2Proof.Machine

/-!
SUPPORT. The laws of the plant: that no nozzle opens without FIRE-ENABLE (R118), that banks out of service
stay empty and closed (R98), the bounds of debts and queues (R101, R127), the grades of the nozzles (R145)
and the tie between entries and records (R101, R102). `PlantLaws` says them of two states at once, and
every shared operation of the store, the planner, the banks and the purge logic keeps them.
-/

namespace Sys2Proof.Machine

/-! ### The laws of one bank -/

/-- The law of R127 for one bank and its maximum debt. -/
def Bank.DebtFits (k : Bank) (max : Nat) : Prop :=
  1 ≤ max ∧ k.debt ≤ max ∧ (k.due = true ↔ k.debt = max)

theorem Bank.debtFits_zero {k v : Bank} {max : Nat} (h : k.DebtFits max) (hdebt : v.debt = 0)
    (hdue : v.due = false) : v.DebtFits max := by
  obtain ⟨hpos, -, -⟩ := h
  refine ⟨hpos, by omega, ?_⟩
  simp [hdue, hdebt]
  omega

/-- `v` may follow `k` in a bank: no nozzle opens without FIRE-ENABLE, an empty and closed bank stays one,
the debt keeps its bounds, and the queue takes no entry. -/
structure Bank.Follows (fire : Bool) (max : Nat) (k v : Bank) : Prop where
  nozzles : ∀ m : Member, v.nozzles[m].isSome = true → k.nozzles[m].isSome = true ∨ fire = true
  service : k.OutOfService → v.OutOfService
  debts : k.DebtFits max → v.DebtFits max
  fits : v.queue.length ≤ k.queue.length
  tracks : ∀ e ∈ v.queue, ∃ x ∈ k.queue, x.track = e.track

/-- A state in which a bank may hold work. -/
def BankState.serves : BankState → Bool
  | .dark | .conditioning _ _ | .fenced => false
  | .idle | .opened | .settling _ | .switching _ _ | .purging _ _ _ => true

theorem Bank.outOfService_of_serves {k : Bank} (h : k.state.serves = true) : k.OutOfService := by
  unfold Bank.OutOfService
  cases hs : k.state <;> simp_all [BankState.serves]

theorem eq_noNozzleOpen {v : Vector (Option Time) 8} (h : ∀ m : Member, v[m].isSome = false) :
    v = noNozzleOpen := by
  ext i hi
  have := h ⟨i, hi⟩
  simp only [Fin.getElem_fin, Option.isSome_eq_false_iff, Option.isNone_iff_eq_none] at this
  simp [noNozzleOpen, this]

@[simp] theorem getElem_noNozzleOpen (m : Member) : noNozzleOpen[m] = none := by simp [noNozzleOpen]

namespace Bank.Follows

variable {fire : Bool} {max : Nat} {k v : Bank}

theorem refl (k : Bank) : Follows fire max k k :=
  ⟨fun _ h => .inl h, id, id, le_rfl, fun e he => ⟨e, he, rfl⟩⟩

/-- A bank changed in its state and level alone, to a state in which it may hold work. -/
theorem serve (st : BankState) (level : Level) (h : st.serves = true) :
    Follows fire max k { k with state := st, level := level } :=
  ⟨fun _ h => .inl h, fun _ => outOfService_of_serves h, id, le_rfl, fun e he => ⟨e, he, rfl⟩⟩

/-- A bank that a record's entries leave. -/
theorem of_dropped {recharged : Time} (h : Bank.Dropped recharged k v) : Follows fire max k v where
  nozzles := fun m hm => .inl (h.nozzles m hm)
  debts := by
    unfold Bank.DebtFits
    rw [h.debt, h.due]
    exact id
  fits := h.queue.length_le
  tracks := fun e he => ⟨e, h.queue.subset he, rfl⟩
  service := by
    have hempty : k.queue = [] → v.queue = [] := fun hk => List.sublist_nil.mp (hk ▸ h.queue)
    have hclosed : k.nozzles = noNozzleOpen → v.nozzles = noNozzleOpen := fun hk =>
      eq_noNozzleOpen fun m => by
        have := h.nozzles m
        rw [hk, getElem_noNozzleOpen] at this
        simpa using this
    unfold Bank.OutOfService
    rcases h.state with hsame | ⟨hopened, hsettling⟩
    · rw [hsame]
      cases k.state <;> simp_all
    · simp [hsettling]

/-- A bank emptied and closed, without debt. -/
theorem emptied (hqueue : v.queue = []) (hnozzles : v.nozzles = noNozzleOpen) (hdebt : v.debt = 0)
    (hdue : v.due = false) : Follows fire max k v where
  nozzles := fun m h => by simp [hnozzles, noNozzleOpen] at h
  service := fun _ => by
    unfold Bank.OutOfService
    cases v.state <;> simp [hqueue, hnozzles]
  debts := fun h => Bank.debtFits_zero h hdebt hdue
  fits := by simp [hqueue]
  tracks := fun e he => by simp [hqueue] at he

/-- A bank at a step of conditioning, whose queue the law says is empty. -/
theorem atStep (h : k.state.awaited = true) (step : Nat) (ends : Option Time) :
    Follows fire max k { k with state := .conditioning step ends } where
  nozzles := fun _ h => .inl h
  debts := id
  fits := le_rfl
  tracks := fun e he => ⟨e, he, rfl⟩
  service := by
    unfold Bank.OutOfService
    cases hs : k.state <;> simp_all [BankState.awaited]

/-- A nozzle opens, with FIRE-ENABLE or open already, in a bank that may drive. -/
theorem openNozzle (hdrive : (k.state ≠ .dark ∧ k.state ≠ .fenced) ∨ k.queue ≠ []) {m : Member}
    (hfire : k.nozzles[m].isSome = true ∨ fire = true) (closing : Time) :
    Follows fire max k { k with nozzles := k.nozzles.set m (some closing) } where
  nozzles := fun i hi => by
    by_cases him : m.val = i.val
    · have hsame : m = i := Fin.ext him
      exact hsame ▸ hfire
    · simp [him] at hi
      exact .inl hi
  service := by
    unfold Bank.OutOfService
    cases hs : k.state <;> simp_all
  debts := id
  fits := le_rfl
  tracks := fun e he => ⟨e, he, rfl⟩

/-- Entries change where they stand and keep their track ids. -/
theorem mapQueue {f : Entry → Entry} (hf : ∀ e, (f e).track = e.track) :
    Follows fire max k { k with queue := k.queue.map f } where
  nozzles := fun _ h => .inl h
  debts := id
  fits := by simp
  tracks := fun e he => by
    obtain ⟨x, hx, rfl⟩ := List.mem_map.mp he
    exact ⟨x, hx, (hf x).symm⟩
  service := by
    unfold Bank.OutOfService
    cases hs : k.state <;> simp_all

/-- Entries leave the queue. -/
theorem filterQueue (p : Entry → Bool) : Follows fire max k { k with queue := k.queue.filter p } where
  nozzles := fun _ h => .inl h
  debts := id
  fits := List.length_filter_le _ _
  tracks := fun e he => ⟨e, List.mem_of_mem_filter he, rfl⟩
  service := by
    unfold Bank.OutOfService
    cases hs : k.state <;> simp_all

/-- Nozzles close. -/
theorem closing {nozzles : Vector (Option Time) 8}
    (h : ∀ m : Member, nozzles[m].isSome = true → k.nozzles[m].isSome = true) :
    Follows fire max k { k with nozzles := nozzles } where
  nozzles := fun m hm => .inl (h m hm)
  debts := id
  fits := le_rfl
  tracks := fun e he => ⟨e, he, rfl⟩
  service := by
    have hclosed : k.nozzles = noNozzleOpen → nozzles = noNozzleOpen := fun hk =>
      eq_noNozzleOpen fun m => by
        have := h m
        rw [hk, getElem_noNozzleOpen] at this
        simpa using this
    unfold Bank.OutOfService
    cases hs : k.state <;> simp_all

/-- The debt and its mark change, within their bounds. -/
theorem debt {debt : Nat} {due : Bool} {timer : Option Time}
    (h : k.DebtFits max → ({ k with debt := debt, due := due } : Bank).DebtFits max) :
    Follows fire max k { k with debt := debt, due := due, purgeTimer := timer } where
  nozzles := fun _ h => .inl h
  debts := h
  fits := le_rfl
  tracks := fun e he => ⟨e, he, rfl⟩
  service := by
    unfold Bank.OutOfService
    cases hs : k.state <;> simp_all

theorem trans {v w : Bank} (h : Follows fire max k v) (g : Follows fire max v w) :
    Follows fire max k w where
  nozzles := fun m hm => (g.nozzles m hm).elim (h.nozzles m) .inr
  service := fun x => g.service (h.service x)
  debts := fun x => g.debts (h.debts x)
  fits := g.fits.trans h.fits
  tracks := fun e he => by
    obtain ⟨x, hx, hxe⟩ := g.tracks e he
    obtain ⟨y, hy, hyx⟩ := h.tracks x hx
    exact ⟨y, hy, hyx.trans hxe⟩

end Bank.Follows

/-! ### The laws of the plant -/

/-- No entry of any queue carries the id. -/
def State.Unqueued (s : State) (id : TrackId) : Prop :=
  ∀ b : BankId, ∀ e ∈ (s.bank b).queue, e.track ≠ id

/-- Every pulse queue keeps within its depth (R101). -/
def State.QueuesFit (s : State) : Prop := ∀ b : BankId, (s.bank b).queue.length ≤ 16

/-- A record that entries may belong to: PLANNED or FIRING. -/
def Record.Serving (r : Record) : Prop := r.state = .planned ∨ r.state = .firing

/-- The laws of the plant that hold of `s` hold of `t`. The tie of entries to open parts is claimed under
`A`, and that no record comes into the store under `N`. -/
structure PlantLaws (A N : Prop) (s t : State) : Prop where
  steps : StoreSteps s t
  noNew : N → ∀ r ∈ t.store.records, ∃ q ∈ s.store.records, q.id = r.id
  fire : s.FireSafe → t.FireSafe
  closed : s.BanksClosed → t.BanksClosed
  debts : s.DebtsKept → t.DebtsKept
  queues : s.QueuesFit → t.QueuesFit
  health : s.HealthKept → t.HealthKept
  tracked : s.store.IdsDistinct → s.EntriesTracked → t.EntriesTracked
  partsOpen : A → s.store.IdsDistinct → s.EntriesOpen → t.EntriesOpen

/-- Moves of the store keep ids distinct (R41). -/
theorem StoreSteps.idsDistinct {s t : State} (h : StoreSteps s t) (hids : s.store.IdsDistinct) :
    t.store.IdsDistinct := by
  obtain ⟨hmoves⟩ := h
  generalize t.store = st at hmoves
  induction hmoves with
  | refl => exact hids
  | tail _ hmove ih => exact hmove.idsDistinct ih

namespace PlantLaws

variable {A N : Prop}

theorem trans {s t u : State} (h : PlantLaws A N s t) (k : PlantLaws A N t u) : PlantLaws A N s u where
  steps := h.steps.trans k.steps
  noNew := fun n r hr => by
    obtain ⟨q, hq, hqr⟩ := k.noNew n r hr
    obtain ⟨p, hp, hpq⟩ := h.noNew n q hq
    exact ⟨p, hp, hpq.trans hqr⟩
  fire := fun x => k.fire (h.fire x)
  closed := fun x => k.closed (h.closed x)
  debts := fun x => k.debts (h.debts x)
  queues := fun x => k.queues (h.queues x)
  health := fun x => k.health (h.health x)
  tracked := fun i x => k.tracked (h.steps.idsDistinct i) (h.tracked i x)
  partsOpen := fun a i x => k.partsOpen a (h.steps.idsDistinct i) (h.partsOpen a i x)

/-- The tie of entries to open parts need be shown only where it holds, on distinct ids. -/
theorem of_laws {s t : State} (h : PlantLaws (s.store.IdsDistinct ∧ s.EntriesOpen) N s t) :
    PlantLaws A N s t :=
  { h with partsOpen := fun _ i o => h.partsOpen ⟨i, o⟩ i o }

/-- Each bank follows the one before, over records and a health map that stand. -/
theorem of_follows {s t : State} (hsteps : StoreSteps s t)
    (hrecords : t.store.records = s.store.records) (hhealth : t.health = s.health)
    (hfire : t.fireEnable = s.fireEnable) (hsettings : t.settings = s.settings)
    (h : ∀ b, Bank.Follows s.fireEnable (s.bankSettings b).maxDebt (s.bank b) (t.bank b)) :
    PlantLaws A N s t where
  steps := hsteps
  noNew := fun _ r hr => ⟨r, hrecords ▸ hr, rfl⟩
  fire := fun hsafe hoff b m => by
    rw [hfire] at hoff
    have hclosed := hsafe hoff b m
    have := (h b).nozzles m
    simp only [State.nozzleOpen] at *
    rw [hclosed, hoff] at this
    simpa using this
  closed := fun hc b => (h b).service (hc b)
  debts := fun hd b => by
    have hfits := (h b).debts (hd b)
    unfold State.bankSettings at *
    rwa [hsettings]
  queues := fun hq b => ((h b).fits).trans (hq b)
  health := fun hg n => by
    have := hg n
    unfold State.nozzle at *
    rwa [hhealth]
  tracked := fun _ ht b e he => by
    obtain ⟨x, hx, hxe⟩ := (h b).tracks e he
    rw [hrecords, ← hxe]
    exact ht b x hx
  partsOpen := fun _ _ ho b e he => by
    obtain ⟨x, hx, hxe⟩ := (h b).tracks e he
    rw [hrecords, ← hxe]
    exact ho b x hx

theorem of_same {s t : State} (hsteps : StoreSteps s t)
    (hrecords : t.store.records = s.store.records) (hbanks : t.banks = s.banks)
    (hhealth : t.health = s.health) (hfire : t.fireEnable = s.fireEnable)
    (hsettings : t.settings = s.settings) : PlantLaws A N s t :=
  of_follows hsteps hrecords hhealth hfire hsettings fun b =>
    State.bank_of_banks hbanks b ▸ .refl _

theorem refl (s : State) : PlantLaws A N s s := of_same (.refl s) rfl rfl rfl rfl rfl

theorem foldl {α : Type} {f : State → α → State} (h : ∀ t a, PlantLaws A N t (f t a)) (l : List α)
    (s : State) : PlantLaws A N s (l.foldl f s) := by
  induction l generalizing s with
  | nil => exact refl s
  | cons a l ih => exact (h s a).trans (ih (f s a))

theorem setBank {s : State} {b : BankId} {v : Bank}
    (h : Bank.Follows s.fireEnable (s.bankSettings b).maxDebt (s.bank b) v) :
    PlantLaws A N s (s.setBank b v) := by
  refine of_follows (.of_store rfl) rfl rfl rfl rfl fun c => ?_
  rw [State.bank_setBank_eq]
  split
  · rename_i hc
    exact hc ▸ h
  · exact .refl _

theorem modBank {s : State} {b : BankId} {f : Bank → Bank}
    (h : Bank.Follows s.fireEnable (s.bankSettings b).maxDebt (s.bank b) (f (s.bank b))) :
    PlantLaws A N s (s.modBank b f) := setBank h

theorem setFlag (s : State) (f : Flag) : PlantLaws A N s (s.setFlag f) :=
  of_same (.of_store rfl) rfl rfl rfl rfl rfl

theorem setFlagIf (s : State) (c : Bool) (f : Flag) : PlantLaws A N s (s.setFlagIf c f) := by
  unfold State.setFlagIf
  split
  · exact setFlag s f
  · exact refl s

theorem setPulsesCursor (s : State) (b : BankId) (c : Cursor) :
    PlantLaws A N s (s.setPulsesCursor b c) := of_same (.of_store rfl) rfl rfl rfl rfl rfl

theorem setNozzle {s : State} {n : NozzleId} {v : Nozzle}
    (h : (s.nozzle n).Graded → v.Graded) : PlantLaws A N s (s.setNozzle n v) :=
  { of_same (A := A) (N := N) (s := s) (t := { s.setNozzle n v with health := s.health })
      (.of_store rfl) rfl rfl rfl rfl rfl with
    steps := .of_store rfl
    health := fun hg i => by
      by_cases hi : i = n
      · rw [hi, State.nozzle_setNozzle]
        exact h (hg n)
      · rw [State.nozzle_setNozzle_ne s v hi]
        exact hg i }

theorem modGlobals {s : State} {f : GlobalTally → GlobalTally} (hf : ∀ g, (f g).created = g.created) :
    PlantLaws A N s (s.modGlobals f) := of_same (.modGlobals s hf) rfl rfl rfl rfl rfl

theorem countCause (s : State) (c : Cause) : PlantLaws A N s (s.countCause c) :=
  of_same (.countCause s c) rfl rfl rfl rfl rfl

/-! ### Records (chapter 3) -/

/-- Records change where they stand and keep their ids; one that an entry belongs to stays such a one. -/
theorem of_mapRecords {s t : State} {f : Record → Record} (hsteps : StoreSteps s t)
    (hrecords : t.store.records = s.store.records.map f) (hid : ∀ r, (f r).id = r.id)
    (hbanks : t.banks = s.banks) (hhealth : t.health = s.health)
    (hfire : t.fireEnable = s.fireEnable) (hsettings : t.settings = s.settings)
    (hopen : A → s.store.IdsDistinct → s.EntriesOpen → ∀ b, ∀ e ∈ (s.bank b).queue,
      ∀ r ∈ s.store.records, r.id = e.track → r.Serving → r.openPart b = true →
        (f r).Serving ∧ (f r).openPart b = true) : PlantLaws A N s t :=
  { of_same (A := A) (N := N) (s := s) (t := { t with store := s.store })
      (.of_store rfl) rfl hbanks hhealth hfire hsettings with
    steps := hsteps
    noNew := fun _ r hr => by
      rw [hrecords] at hr
      obtain ⟨q, hq, rfl⟩ := List.mem_map.mp hr
      exact ⟨q, hq, (hid q).symm⟩
    tracked := fun _ ht b e he => by
      rw [State.bank_of_banks hbanks] at he
      obtain ⟨r, hr, hre⟩ := ht b e he
      exact ⟨f r, hrecords ▸ List.mem_map_of_mem hr, (hid r).trans hre⟩
    partsOpen := fun a hids ho b e he => by
      rw [State.bank_of_banks hbanks] at he
      obtain ⟨r, hr, hre, hserving, hpart⟩ := ho b e he
      obtain ⟨hserving', hpart'⟩ := hopen a hids ho b e he r hr hre hserving hpart
      exact ⟨f r, hrecords ▸ List.mem_map_of_mem hr, (hid r).trans hre, hserving', hpart'⟩ }

/-- The records of an id change, while entries of it keep a record they may belong to. -/
theorem modRecord {s : State} {id : TrackId} {f : Record → Record} (hid : ∀ r, (f r).id = r.id)
    (hopen : A → s.store.IdsDistinct → s.EntriesOpen → ∀ b, ∀ e ∈ (s.bank b).queue, e.track = id →
      ∀ r ∈ s.store.records, r.id = id → r.Serving → r.openPart b = true →
        (f r).Serving ∧ (f r).openPart b = true) : PlantLaws A N s (s.modRecord id f) := by
  refine of_mapRecords (.modRecord s id hid) rfl (fun r => ?_) rfl rfl rfl rfl
    fun a hids ho b e he r hr hre hserving hpart => ?_
  · split
    · exact hid r
    · rfl
  · split
    · rename_i hrid
      exact hopen a hids ho b e he (hre.symm.trans hrid) r hr hrid hserving hpart
    · exact ⟨hserving, hpart⟩

/-- A change that leaves state and parts of records as they are. -/
theorem modRecord_unqueued {s : State} {id : TrackId} {f : Record → Record}
    (hid : ∀ r, (f r).id = r.id)
    (hfree : A → s.store.IdsDistinct → s.EntriesOpen → s.Unqueued id) :
    PlantLaws A N s (s.modRecord id f) :=
  modRecord hid fun a hids ho b e he hid' => absurd hid' (hfree a hids ho b e he)

/-- A record of a state in which no entry belongs to it has none (R101). -/
theorem unqueued_of_not_serving {s : State} {id : TrackId} {r : Record} (hids : s.store.IdsDistinct)
    (ho : s.EntriesOpen) (hr : s.record? id = some r) (hserving : ¬r.Serving) : s.Unqueued id := by
  intro b e he heq
  obtain ⟨q, hq, hqe, hserves, -⟩ := ho b e he
  obtain ⟨hmem, hrid⟩ := State.mem_of_record? hr
  have hsame : q = r := List.inj_on_of_nodup_map hids.2 hq hmem (by rw [hqe, heq, hrid])
  exact hserving (hsame ▸ hserves)

theorem retireTest (s : State) (id : TrackId) : PlantLaws A N s (s.retireTest id) := by
  unfold State.retireTest
  split
  · exact refl s
  · rename_i r hr
    split
    · rename_i hdue
      obtain ⟨-, hrid⟩ := State.mem_of_record? hr
      have hside : StoreSide s ((s.modTally r.tallyClass fun t => t.countOutcome r.state).removeRecord id) :=
        (StoreSide.modTally _ _ _).trans (.removeRecord _ _)
      have hbank := (BankSide.modTally s r.tallyClass fun t => t.countOutcome r.state).trans
        (.removeRecord _ id)
      have hsteps : StoreSteps s
          ((s.modTally r.tallyClass fun t => t.countOutcome r.state).removeRecord id) := by
        have := StoreSteps.retireTest s id
        unfold State.retireTest at this
        simpa [hr, hdue] using this
      have hrecords : ((s.modTally r.tallyClass fun t => t.countOutcome r.state).removeRecord
          id).store.records = s.store.records.filter fun r => decide (r.id ≠ id) := by
        rw [State.removeRecord_store]
        rfl
      have hgone := (s.modTally r.tallyClass fun t => t.countOutcome r.state).removeRecord_unqueued id
      generalize ((s.modTally r.tallyClass fun t => t.countOutcome r.state).removeRecord id) = t at *
      have hkeeps : ∀ (e : Entry), e.track ≠ id → ∀ q ∈ s.store.records, q.id = e.track →
          q ∈ t.store.records := fun e hne q hq hqe => by
        rw [hrecords]
        exact List.mem_filter.mpr ⟨hq, by simpa [hqe] using hne⟩
      exact
        { of_follows (A := A) (N := N) (s := s) (t := { t with store := s.store }) (.of_store rfl) rfl
            hside.health hbank.fireEnable hbank.settings fun b => .of_dropped (hside.bank b) with
          steps := hsteps
          noNew := fun _ q hq => ⟨q, List.mem_of_mem_filter (hrecords ▸ hq), rfl⟩
          tracked := fun _ ht b e he => by
            obtain ⟨q, hq, hqe⟩ := ht b e ((hside.bank b).queue.subset he)
            exact ⟨q, hkeeps e (hgone b e he) q hq hqe, hqe⟩
          partsOpen := fun _ _ ho b e he => by
            obtain ⟨q, hq, hqe, hrest⟩ := ho b e ((hside.bank b).queue.subset he)
            exact ⟨q, hkeeps e (hgone b e he) q hq hqe, hqe, hrest⟩ }
    · exact refl s

theorem retireAll (s : State) : PlantLaws A N s s.retireAll := by
  unfold State.retireAll
  exact foldl (fun t (r : Record) => retireTest t r.id) _ s

/-- A record without entries ends. -/
theorem endRecord {s : State} {id : TrackId}
    (hfree : A → s.store.IdsDistinct → s.EntriesOpen → s.Unqueued id) (st : RecState)
    (miss : Option Cause) : PlantLaws A N s (s.endRecord id st miss) := by
  refine PlantLaws.trans (modRecord_unqueued (fun r => ?_) hfree) (retireTest _ _)
  rfl

/-- A record whose parts are all final has no entry left, for each waits for its part (R102). -/
theorem outcomeRule (s : State) (id : TrackId) : PlantLaws A N s (s.outcomeRule id) := by
  unfold State.outcomeRule
  split
  · exact refl s
  · rename_i r hr
    split
    · exact refl s
    · rename_i p hp
      split
      · rename_i hfinal
        refine endRecord (fun _ hids ho b e he heq => ?_) _ _
        obtain ⟨q, hq, hqe, -, hpart⟩ := ho b e he
        obtain ⟨hmem, hrid⟩ := State.mem_of_record? hr
        have hsame : q = r := List.inj_on_of_nodup_map hids.2 hq hmem (by rw [hqe, heq, hrid])
        rw [hsame, Record.openPart, hp] at hpart
        obtain ⟨x, hx, hopen⟩ := List.any_eq_true.mp hpart
        have := List.all_eq_true.mp (Bool.and_eq_true_iff.mp hfinal).2 x hx
        simp [this] at hopen
      · exact refl s

/-- The parts of other banks stand through a report, and those of its own bank unless it is final. -/
theorem openPart_report {r : Record} {b c : BankId} {result : PartResult} {level : Option Level}
    (h : c ≠ b ∨ result.final = false) (hpart : r.openPart c = true) :
    (r.report b result level).openPart c = true := by
  unfold Record.openPart at *
  cases hp : r.plan with
  | none => simp [hp] at hpart
  | some p =>
    rw [hp] at hpart
    obtain ⟨x, hx, hopen⟩ := List.any_eq_true.mp hpart
    simp only [Bool.and_eq_true, decide_eq_true_eq, Bool.not_eq_true'] at hopen
    obtain ⟨rfl, hnot⟩ := hopen
    simp only [Record.report, hp, Option.map_some]
    refine List.any_eq_true.mpr ⟨x.report b result level, List.mem_map_of_mem hx, ?_⟩
    unfold Part.report
    split
    · rename_i hown
      rcases h with hne | hopen
      · exact absurd hown.1 hne
      · simp [hopen]
    · simp [hnot]

theorem serving_report {r : Record} (h : r.Serving) (b : BankId) (result : PartResult)
    (level : Option Level) : (r.report b result level).Serving := by
  unfold Record.Serving Record.report at *
  dsimp only
  split
  · exact .inr rfl
  · exact h

/-- A report: a final result is reported when the bank holds no entry of the record any more (R102). -/
theorem reportPart {s : State} {id : TrackId} {b : BankId} {result : PartResult}
    (hfree : A → result.final = true → ∀ e ∈ (s.bank b).queue, e.track ≠ id)
    (level : Option Level) : PlantLaws A N s (s.reportPart id b result level) := by
  unfold State.reportPart
  split
  · exact refl s
  · split
    · have hwritten : PlantLaws A N s (s.modRecord id fun q => q.report b result level) := by
        refine modRecord (fun r => rfl) fun a _ _ c e he htrack r _ _ hserving hpart =>
          ⟨serving_report hserving b result level, openPart_report ?_ hpart⟩
        by_cases hc : c = b
        · subst hc
          refine .inr (Bool.eq_false_iff.mpr fun hfinal => hfree a hfinal e he htrack)
        · exact .inl hc
      dsimp only
      split
      · exact (hwritten.trans (countCause _ _)).trans (outcomeRule _ _)
      · exact hwritten.trans (outcomeRule _ _)
    · exact refl s

theorem reportPart_of_not_final (s : State) (id : TrackId) (b : BankId) {result : PartResult}
    (h : result.final = false) (level : Option Level) :
    PlantLaws A N s (s.reportPart id b result level) :=
  reportPart (fun _ hfinal => by simp [h] at hfinal) level

theorem resolveJoining (s : State) : PlantLaws A N s s.resolveJoining := by
  refine of_mapRecords (.resolveJoining s) rfl (fun r => ?_) rfl rfl rfl rfl
    fun _ _ _ b e _ r _ _ hserving hpart => ?_
  · split <;> rfl
  · rw [if_neg (by rcases hserving with h | h <;> simp [h])]
    exact ⟨hserving, hpart⟩

/-- A record is created in a store with room; the entries of the others stand as they did. -/
theorem createRecord {s : State} {make : TrackId → Nat → Record}
    (hid : ∀ id born, (make id born).id = id) (hroom : s.store.full = false) :
    PlantLaws A False s (s.createRecord make) :=
  have hmem : ∀ r ∈ s.store.records, r ∈ (s.createRecord make).store.records := fun r hr =>
    (place_perm _ _).mem_iff.mpr (List.mem_cons_of_mem _ hr)
  { of_same (A := A) (N := False) (s := s) (t := { s.createRecord make with store := s.store })
      (.of_store rfl) rfl rfl rfl rfl rfl with
    steps := .createRecord hid hroom
    noNew := False.elim
    tracked := fun _ ht b e he => by
      obtain ⟨r, hr, hre⟩ := ht b e he
      exact ⟨r, hmem r hr, hre⟩
    partsOpen := fun _ _ ho b e he => by
      obtain ⟨r, hr, hrest⟩ := ho b e he
      exact ⟨r, hmem r hr, hrest⟩ }

/-- A JOINING record changes and takes a new place (R46). -/
theorem replaceRecord {s t : State} {r q : Record} (hr : r ∈ s.store.records) (hid : q.id = r.id)
    (hserving : ¬r.Serving)
    (ht : t = { s with store := { s.store with
      records := place q (s.store.records.filter fun x => decide (x.id ≠ r.id)) } }) :
    PlantLaws A N s t := by
  subst ht
  have hmem : ∀ x, x ∈ place q (s.store.records.filter fun x => decide (x.id ≠ r.id)) ↔
      x = q ∨ x ∈ s.store.records ∧ x.id ≠ r.id := fun x => by
    rw [(place_perm _ _).mem_iff, List.mem_cons, List.mem_filter, decide_eq_true_eq]
  exact
    { of_same (A := A) (N := N) (s := s) (t := s) (.of_store rfl) rfl rfl rfl rfl rfl with
      steps := .of_move (.replace s.store r q hr hid)
      noNew := fun _ x hx => by
        rcases (hmem x).mp hx with rfl | ⟨hx, -⟩
        · exact ⟨r, hr, hid.symm⟩
        · exact ⟨x, hx, rfl⟩
      tracked := fun _ htr b e he => by
        obtain ⟨x, hx, hxe⟩ := htr b e he
        by_cases hxr : x.id = r.id
        · exact ⟨q, (hmem q).mpr (.inl rfl), hid.trans (hxr.symm.trans hxe)⟩
        · exact ⟨x, (hmem x).mpr (.inr ⟨hx, hxr⟩), hxe⟩
      partsOpen := fun _ hids ho b e he => by
        obtain ⟨x, hx, hxe, hserves, hpart⟩ := ho b e he
        have hne : x.id ≠ r.id := fun hxr =>
          hserving (List.inj_on_of_nodup_map hids.2 hx hr hxr ▸ hserves)
        exact ⟨x, (hmem x).mpr (.inr ⟨hx, hne⟩), hxe, hserves, hpart⟩ }

end PlantLaws

end Sys2Proof.Machine

namespace Sys2Proof.Machine

/-- In a store with room the search for the next record's id stops at a free one (R41). -/
theorem Store.idToUse_first_free {st : Store} (hids : st.IdsDistinct) (hroom : st.records.length < 512) :
    ∃ k ≤ 511, st.idToUse = st.nextId + BitVec.ofNat 16 k ∧
      (∀ r ∈ st.records, r.id ≠ st.idToUse) ∧
      ∀ j < k, ∃ r ∈ st.records, r.id = st.nextId + BitVec.ofNat 16 j := by
  obtain ⟨k, hk, heq, hpassed, -⟩ := freeId_eq st.records st.records.length st.nextId
  refine ⟨k, by omega, heq, fun r hr hheld => ?_, fun j hj => List.mem_map.mp (hpassed j hj)⟩
  exact st.idToUse_fresh hids.1 (hheld ▸ List.mem_map_of_mem hr)

end Sys2Proof.Machine

namespace Sys2Proof.Laws.TrackStore

open Sys2Proof Sys2Proof.Machine

/-- Settles O24: every step moves the store by moves that keep its ids distinct, and the search for a free
id passes held ids only. -/
theorem trackIdsDistinct : Obligations.TrackIdsDistinct := by
  unfold Obligations.TrackIdsDistinct
  exact ⟨fun _ _ hids hstep => (StoreSteps.of_step hstep).idsDistinct hids,
    fun _ hids hroom => Store.idToUse_first_free hids hroom⟩

end Sys2Proof.Laws.TrackStore

namespace Sys2Proof.Laws.RunControl

open Sys2Proof Sys2Proof.Machine

/-- Settles O1: by the definition of the step, for a queue with a command and for an empty one. -/
theorem stepTakesTheFront : Obligations.StepTakesTheFront := by
  unfold Obligations.StepTakesTheFront
  refine ⟨fun c rest s => rfl, fun s => ⟨fun hon => ?_, fun hoff => ?_⟩⟩
  · simp [step, State.idle, hon]
  · simp [step, State.idle, hoff]

end Sys2Proof.Laws.RunControl

/-!
SUPPORT. The laws of the plant, kept by every operation of the banks, the purge logic, the planner and the
heads (chapters 3 to 7).
-/

namespace Sys2Proof.Machine

/-! ### Folds with an invariant -/

/-- A fold whose steps keep the laws while a property of the state and of what is left to visit holds. -/
theorem PlantLaws.foldl_along {A N : Prop} {α : Type} {f : State → α → State}
    {P : State → List α → Prop}
    (h : ∀ t a l, P t (a :: l) → PlantLaws A N t (f t a) ∧ P (f t a) l) {l : List α} {s : State}
    (hs : P s l) : PlantLaws A N s (l.foldl f s) ∧ P (l.foldl f s) [] := by
  induction l generalizing s with
  | nil => exact ⟨.refl s, hs⟩
  | cons a l ih =>
    obtain ⟨hlaws, hnext⟩ := h s a l hs
    obtain ⟨hrest, hend⟩ := ih hnext
    exact ⟨hlaws.trans hrest, hend⟩

/-! ### The entries of a bank -/

theorem State.entry_mem {s : State} {b : BankId} {id : TrackId} {e : Entry}
    (h : s.entry? b id = some e) : e ∈ (s.bank b).queue ∧ e.track = id := by
  unfold State.entry? at h
  exact ⟨List.mem_of_find?_eq_some h, by simpa using List.find?_some h⟩

theorem queueEntry_perm (e : Entry) (q : List Entry) : (queueEntry e q).Perm (e :: q) := by
  induction q with
  | nil => exact .refl _
  | cons x xs ih =>
    unfold queueEntry
    split
    · exact .refl _
    · exact (ih.cons x).trans (.swap e x xs)

/-! ### When a nozzle of a bank may be driven -/

/-- A bank may drive its nozzles, or has none that a drive would reach: it is in service, has work, or
all its nozzles are FAULTY. -/
def State.MayDrive (s : State) (b : BankId) : Prop :=
  ((s.bank b).state ≠ .dark ∧ (s.bank b).state ≠ .fenced) ∨ (s.bank b).queue ≠ [] ∨
    s.allFaulty b = true

theorem State.faulty_of_allFaulty {s : State} {b : BankId} (h : s.allFaulty b = true) (m : Member) :
    s.faulty (nozzleOf b m) = true :=
  List.all_eq_true.mp h m (mem_allMembers m)

theorem State.allFaulty_of_health {s t : State} (h : t.health = s.health) (b : BankId) :
    t.allFaulty b = s.allFaulty b := by
  unfold State.allFaulty State.faulty State.nozzle
  rw [h]

namespace State.MayDrive

theorem of_bank {s t : State} {b : BankId} (hs : s.MayDrive b)
    (hstate : (t.bank b).state = (s.bank b).state)
    (hqueue : (t.bank b).queue = [] → (s.bank b).queue = [])
    (hhealth : s.allFaulty b = true → t.allFaulty b = true) : t.MayDrive b := by
  rcases hs with h | h | h
  · exact .inl (hstate ▸ h)
  · exact .inr (.inl fun hq => h (hqueue hq))
  · exact .inr (.inr (hhealth h))

/-- A nozzle that is not FAULTY: the bank is in service or has work. -/
theorem healthy {s : State} {b : BankId} {m : Member} (hs : s.MayDrive b)
    (hm : s.faulty (nozzleOf b m) = false) :
    ((s.bank b).state ≠ .dark ∧ (s.bank b).state ≠ .fenced) ∨ (s.bank b).queue ≠ [] := by
  rcases hs with h | h | h
  · exact .inl h
  · exact .inr h
  · rw [faulty_of_allFaulty h m] at hm
    exact absurd hm (by simp)

end State.MayDrive

theorem nozzleOf_injective (b : BankId) : Function.Injective (nozzleOf b) := by
  intro m n h
  have hval := congrArg Fin.val h
  unfold nozzleOf at hval
  have := b.isLt
  have := m.isLt
  have := n.isLt
  ext
  simp at hval
  omega

namespace PlantLaws

variable {A N : Prop}

/-- The laws claimed under less. -/
theorem mono {A' N' : Prop} {s t : State} (h : PlantLaws A N s t) (hA : A' → A) (hN : N' → N) :
    PlantLaws A' N' s t :=
  { h with
    noNew := fun n => h.noNew (hN n)
    partsOpen := fun a => h.partsOpen (hA a) }

/-! ### Health and fence (chapter 8) -/

theorem readinessTest (s : State) : PlantLaws A N s s.readinessTest := by
  unfold State.readinessTest
  split
  · exact of_same (.of_store rfl) rfl rfl rfl rfl rfl
  · exact refl s

/-- Reports to the records of a bank whose queue is empty. -/
theorem foldl_report_empty {b : BankId} {result : PartResult} (l : List Entry) {s : State}
    (hs : (s.bank b).queue = []) :
    PlantLaws A N s (l.foldl (fun t e => t.reportPart e.track b result none) s) := by
  refine (foldl_along (P := fun t _ => (t.bank b).queue = []) (fun t e l ht => ⟨?_, ?_⟩) hs).1
  · exact reportPart (fun _ _ x hx => by simp [ht] at hx) none
  · exact List.sublist_nil.mp (ht ▸ ((StoreSide.reportPart t e.track b result none).bank b).queue)

theorem fenceBank (s : State) (b : BankId) : PlantLaws A N s (s.fenceBank b) := by
  unfold State.fenceBank
  split
  · exact refl s
  · have hempty : ((s.modBank b Bank.fencedBank).bank b).queue = [] := by
      rw [State.bank_modBank]
      rfl
    have hemptied : Bank.Follows s.fireEnable (s.bankSettings b).maxDebt (s.bank b)
        (s.bank b).fencedBank := .emptied rfl rfl rfl rfl
    refine PlantLaws.trans ?_ (readinessTest _)
    refine ((modBank hemptied).trans (setPulsesCursor _ b .atEnd)).trans ?_
    exact foldl_report_empty _ hempty

theorem autoFence (s : State) (b : BankId) : PlantLaws A N s (s.autoFence b) := by
  unfold State.autoFence
  split
  · exact (fenceBank s b).trans (setFlag _ _)
  · exact refl s

end PlantLaws

theorem Nozzle.graded_good {n : Nozzle} (h : n.Graded) : n.good.Graded := by
  unfold Nozzle.good
  cases hg : n.grade with
  | ok => simp [Nozzle.Graded]
  | suspect => simp [Nozzle.Graded]
  | faulty => exact h

theorem Nozzle.graded_bad {n : Nozzle} (h : n.Graded) : n.bad.Graded := by
  unfold Nozzle.bad
  cases hg : n.grade with
  | ok => simp [Nozzle.Graded]
  | suspect =>
    simp only [Nozzle.Graded, hg] at h
    obtain ⟨hruns, hmark⟩ := h
    dsimp only
    split
    · simp only [Nozzle.Graded]
      exact ⟨by omega, hmark⟩
    · simp [Nozzle.Graded]
  | faulty => exact h

namespace PlantLaws

variable {A N : Prop}

theorem goodCheck (s : State) (b : BankId) (m : Member) : PlantLaws A N s (s.goodCheck b m) :=
  setNozzle Nozzle.graded_good

theorem badCheck (s : State) (b : BankId) (m : Member) : PlantLaws A N s (s.badCheck b m) := by
  unfold State.badCheck
  dsimp only
  split
  · exact ((setNozzle Nozzle.graded_bad).trans (setFlag _ _)).trans (autoFence _ b)
  · exact setNozzle Nozzle.graded_bad

/-! ### Drives (R112, R118, R132) -/

theorem openNozzle {s : State} {b : BankId} {m : Member}
    (hdrive : ((s.bank b).state ≠ .dark ∧ (s.bank b).state ≠ .fenced) ∨ (s.bank b).queue ≠ [])
    (hfire : (s.bank b).nozzles[m].isSome = true ∨ s.fireEnable = true) (closing : Time) :
    PlantLaws A N s (s.openNozzle b m closing) :=
  modBank (.openNozzle hdrive hfire closing)

theorem drive {s : State} {b : BankId} {m : Member}
    (hdrive : ((s.bank b).state ≠ .dark ∧ (s.bank b).state ≠ .fenced) ∨ (s.bank b).queue ≠ [])
    (closing : Time) (coils : Coils) : PlantLaws A N s (s.drive b m closing coils) := by
  unfold State.drive
  split
  · rename_i hfire
    split
    · exact (openNozzle hdrive (.inr hfire) closing).trans (goodCheck _ b m)
    · exact badCheck s b m
  · exact refl s

end PlantLaws

/-! ### What a drive leaves of its bank -/

theorem StoreSide.foldl_report (l : List Entry) (b : BankId) (result : PartResult) (s : State) :
    StoreSide s (l.foldl (fun t e => t.reportPart e.track b result none) s) :=
  .foldl (fun t e => .reportPart t e.track b result none) l s

@[simp] theorem State.health_readinessTest (s : State) : s.readinessTest.health = s.health := by
  unfold State.readinessTest
  split <;> rfl

@[simp] theorem State.bank_readinessTest (s : State) (b : BankId) :
    s.readinessTest.bank b = s.bank b := by
  unfold State.readinessTest
  split <;> rfl

@[simp] theorem State.flags_readinessTest (s : State) : s.readinessTest.flags = s.flags := by
  unfold State.readinessTest
  split <;> rfl

@[simp] theorem State.fenceBank_health (s : State) (b : BankId) : (s.fenceBank b).health = s.health := by
  unfold State.fenceBank
  split
  · rfl
  · exact (State.health_readinessTest _).trans (StoreSide.foldl_report _ _ _ _).health

@[simp] theorem State.autoFence_health (s : State) (b : BankId) : (s.autoFence b).health = s.health := by
  unfold State.autoFence
  split
  · exact s.fenceBank_health b
  · rfl

/-- A drive leaves its bank ready for the next one: as it was but for the nozzle, or fenced with all its
nozzles FAULTY. -/
theorem State.MayDrive.drive {s : State} {b : BankId} (hs : s.MayDrive b) {m : Member}
    (hm : s.faulty (nozzleOf b m) = false) (closing : Time) (coils : Coils) :
    (s.drive b m closing coils).MayDrive b := by
  have hnot : s.allFaulty b = false := by
    rw [Bool.eq_false_iff]
    intro h
    rw [State.faulty_of_allFaulty h m] at hm
    simp at hm
  unfold State.drive
  split
  · split
    · refine hs.of_bank (t := (s.openNozzle b m closing).goodCheck b m) ?_ ?_ (by simp [hnot])
      · show ((s.openNozzle b m closing).bank b).state = _
        rw [State.openNozzle, State.bank_modBank]
      · intro h
        have : ((s.openNozzle b m closing).bank b).queue = [] := h
        rwa [State.openNozzle, State.bank_modBank] at this
    · unfold State.badCheck
      dsimp only
      split
      · unfold State.autoFence
        split
        · rename_i h
          exact .inr (.inr ((State.allFaulty_of_health (State.fenceBank_health _ b) b).trans h.1))
        · exact hs.of_bank rfl id (by simp [hnot])
      · exact hs.of_bank rfl id (by simp [hnot])
  · exact hs

namespace PlantLaws

variable {A N : Prop}

/-! ### Purges (chapter 7) -/

theorem markPurgeHit (s : State) (b : BankId) : PlantLaws A N s (s.markPurgeHit b) := by
  refine modBank ?_
  split
  · exact .serve _ _ rfl
  · exact .refl _

end PlantLaws

theorem State.MayDrive.markPurgeHit {s : State} {b : BankId} (hs : s.MayDrive b) :
    (s.markPurgeHit b).MayDrive b := by
  rcases hs with ⟨hdark, hfenced⟩ | hwork | hfaulty
  · left
    rw [State.markPurgeHit, State.bank_modBank]
    split
    · simp
    · exact ⟨hdark, hfenced⟩
  · right; left
    rw [State.markPurgeHit, State.bank_modBank]
    split <;> exact hwork
  · exact .inr (.inr hfaulty)

namespace PlantLaws

variable {A N : Prop}

theorem purgeMember {b : BankId} {s : State} (hs : s.MayDrive b) (closing : Time) (coils : Coils)
    (m : Member) : PlantLaws A N s (State.purgeMember b closing coils s m) ∧
      (State.purgeMember b closing coils s m).MayDrive b := by
  unfold State.purgeMember
  split
  · exact ⟨refl s, hs⟩
  · rename_i hm
    have hm := Bool.eq_false_iff.mpr hm
    have hdriven := drive (A := A) (N := N) (m := m) (hs.healthy hm) closing coils
    have hnext := hs.drive hm closing coils
    split
    · exact ⟨hdriven.trans (markPurgeHit _ b), hnext.markPurgeHit⟩
    · exact ⟨hdriven, hnext⟩

theorem startPurge (s : State) (b : BankId) (kind : PurgeKind) (coils : Coils) :
    PlantLaws A N s (s.startPurge b kind coils) := by
  unfold State.startPurge
  dsimp only
  generalize timePlus s.timeBase _ = ends
  have hbegun : PlantLaws A N s (s.modBank b fun k => { k with state := .purging kind ends false }) :=
    modBank (.serve _ _ rfl)
  have hdrive : (s.modBank b fun k => { k with state := .purging kind ends false }).MayDrive b := by
    left
    rw [State.bank_modBank]
    simp
  generalize s.modBank b _ = s1 at hbegun hdrive
  have hmembers : ∀ t : State, t.MayDrive b →
      PlantLaws A N t (allMembers.foldl (State.purgeMember b ends coils) t) := fun t ht =>
    (foldl_along (P := fun t _ => t.MayDrive b) (fun t m _ h => purgeMember h ends coils m) ht).1
  cases kind with
  | forced => exact (hbegun.trans (setFlag _ _)).trans (hmembers _ hdrive)
  | opportunistic => exact hbegun.trans (hmembers _ hdrive)

theorem purgeTest (coils : Coils) (s : State) (b : BankId) :
    PlantLaws A N s (State.purgeTest coils s b) := by
  unfold State.purgeTest
  dsimp only
  split
  · split
    · exact startPurge _ _ _ _
    · split
      · exact startPurge _ _ _ _
      · exact refl s
  · exact refl s

theorem purgeTests (s : State) (coils : Coils) : PlantLaws A N s (s.purgeTests coils) :=
  foldl (purgeTest coils) _ s

theorem settle (s : State) (b : BankId) : PlantLaws A N s (s.settle b) := modBank (.serve _ _ rfl)

end PlantLaws

/-- A debt paid keeps its bounds (R133). -/
theorem Bank.payDebt_fits {k : Bank} {max : Nat} (h : k.DebtFits max) (hit : Bool) :
    (k.payDebt max hit).DebtFits max := by
  obtain ⟨hpos, hle, hdue⟩ := h
  unfold Bank.payDebt
  split
  · refine ⟨hpos, ?_, ?_⟩
    · dsimp only
      omega
    · simp only [Bool.and_eq_true, decide_eq_true_eq, hdue]
      omega
  · exact ⟨hpos, hle, hdue⟩

namespace PlantLaws

variable {A N : Prop}

theorem endPurge (s : State) (b : BankId) (hit : Bool) : PlantLaws A N s (s.endPurge b hit) := by
  refine PlantLaws.trans (modBank ?_) (settle _ b)
  have hclosed : Bank.Follows s.fireEnable (s.bankSettings b).maxDebt (s.bank b)
      { s.bank b with nozzles := noNozzleOpen } := .closing (by simp [noNozzleOpen])
  refine hclosed.trans ?_
  have hpaid := fun h => Bank.payDebt_fits (k := { s.bank b with nozzles := noNozzleOpen })
    (max := (s.bankSettings b).maxDebt) h hit
  revert hpaid
  unfold Bank.payDebt
  split
  · exact fun hpaid => .debt hpaid
  · exact fun _ => .refl _

/-! ### The pulse queue (chapter 6) -/

theorem modEntry {s : State} {b : BankId} {id : TrackId} {f : Entry → Entry}
    (hf : ∀ e, (f e).track = e.track) : PlantLaws A N s (s.modEntry b id f) := by
  refine modBank (.mapQueue fun e => ?_)
  split
  · exact hf e
  · rfl

theorem removeEntry (s : State) (b : BankId) (id : TrackId) : PlantLaws A N s (s.removeEntry b id) :=
  PlantLaws.trans (modBank (.filterQueue _)) (setPulsesCursor _ _ _)

theorem finishEntry (s : State) (b : BankId) (id : TrackId) (result : PartResult) :
    PlantLaws A N s (s.finishEntry b id result) := by
  refine (removeEntry s b id).trans (reportPart (fun _ _ e he => ?_) none)
  unfold State.removeEntry at he
  rw [State.bank_setPulsesCursor, State.bank_modBank] at he
  simpa using (List.mem_filter.mp he).2

theorem loseEntry (s : State) (b : BankId) (id : TrackId) (cause : Cause) :
    PlantLaws A N s (s.loseEntry b id cause) := (finishEntry _ _ _ _).trans (setFlagIf _ _ _)

theorem startSwitch (s : State) (b : BankId) (target : Level) :
    PlantLaws A N s (s.startSwitch b target) := modBank (.serve _ _ rfl)

theorem headTest (s : State) (b : BankId) : PlantLaws A N s (s.headTest b) := by
  unfold State.headTest
  split
  · split
    · exact startSwitch _ _ _
    · exact refl s
  · exact refl s

theorem markHit (s : State) (b : BankId) (id : TrackId) : PlantLaws A N s (s.markHit b id) :=
  modEntry fun _ => rfl

end PlantLaws

theorem State.MayDrive.modEntry {s : State} {b : BankId} (hs : s.MayDrive b) (id : TrackId)
    (f : Entry → Entry) : (s.modEntry b id f).MayDrive b := by
  refine hs.of_bank ?_ (fun h => ?_) fun h => h
  · rw [State.modEntry, State.bank_modBank]
  · rw [State.modEntry, State.bank_modBank] at h
    simpa using h

namespace PlantLaws

variable {A N : Prop}

theorem waveMember {b : BankId} {s : State} (hs : s.MayDrive b) (id : TrackId) (closing : Time)
    (coils : Coils) (m : Member) : PlantLaws A N s (State.waveMember b id closing coils s m) ∧
      (State.waveMember b id closing coils s m).MayDrive b := by
  unfold State.waveMember
  split
  · exact ⟨refl s, hs⟩
  · rename_i hm
    have hm := Bool.eq_false_iff.mpr hm
    have hdrive := hs.healthy hm
    split
    · rename_i present hpresent
      refine ⟨(openNozzle hdrive (.inl (by rw [hpresent]; rfl)) _).trans (markHit _ b id), ?_⟩
      refine State.MayDrive.modEntry ?_ id _
      refine hs.of_bank ?_ (fun h => ?_) fun h => h
      · rw [State.openNozzle, State.bank_modBank]
      · rwa [State.openNozzle, State.bank_modBank] at h
    · have hdriven := drive (A := A) (N := N) (m := m) hdrive closing coils
      have hnext := hs.drive hm closing coils
      split
      · exact ⟨hdriven.trans (markHit _ b id), hnext.modEntry id _⟩
      · exact ⟨hdriven, hnext⟩

theorem openWave (s : State) (b : BankId) (id : TrackId) (coils : Coils) :
    PlantLaws A N s (s.openWave b id coils) := by
  unfold State.openWave
  split
  · exact refl s
  · rename_i e he
    split
    · exact refl s
    · refine PlantLaws.trans (modEntry ?_) (foldl_along (P := fun t _ => t.MayDrive b)
        (fun t m _ h => waveMember h id _ coils m) ?_).1
      · exact fun _ => rfl
      · refine State.MayDrive.modEntry (.inr (.inl fun hq => ?_)) id _
        have hmem := (State.entry_mem he).1
        simp [hq] at hmem

theorem openEntry (s : State) (b : BankId) (id : TrackId) (duration : Nat) (coils : Coils) :
    PlantLaws A N s (s.openEntry b id duration coils) := by
  unfold State.openEntry
  split
  · exact refl s
  · dsimp only
    refine PlantLaws.trans (PlantLaws.trans (PlantLaws.trans (modEntry ?_) (modBank (.serve _ _ rfl)))
      (reportPart_of_not_final _ _ _ rfl _)) (openWave _ _ _ _)
    exact fun _ => rfl

theorem trigger (b : BankId) (coils : Coils) (s : State) (id : TrackId) :
    PlantLaws A N s (State.trigger b coils s id) := by
  unfold State.trigger
  split
  · exact refl s
  · split
    · dsimp only
      have hstamped : PlantLaws A N s (s.modEntry b id fun e => { e with triggerTime := some s.timeBase }) :=
        modEntry fun _ => rfl
      refine hstamped.trans ?_
      split
      · exact (loseEntry _ _ _ _).trans (headTest _ _)
      · exact openEntry _ _ _ _ _
      · refine PlantLaws.trans (modEntry ?_) (openEntry _ _ _ _ _)
        exact fun _ => rfl
      · refine modEntry ?_
        exact fun _ => rfl
    · exact refl s

theorem triggerTest (coils : Coils) (s : State) (b : BankId) :
    PlantLaws A N s (State.triggerTest coils s b) := foldl (trigger b coils) _ s

theorem lateStart (b : BankId) (coils : Coils) (s : State) (id : TrackId) :
    PlantLaws A N s (State.lateStart b coils s id) := by
  unfold State.lateStart
  split
  · exact refl s
  · split
    · split
      · exact loseEntry _ _ _ _
      · split
        · exact loseEntry _ _ _ _
        · split
          · exact loseEntry _ _ _ _
          · split
            · exact openEntry _ _ _ _ _
            · exact loseEntry _ _ _ _
    · exact refl s

theorem freeBankWork (s : State) (b : BankId) (coils : Coils) :
    PlantLaws A N s (s.freeBankWork b coils) := by
  unfold State.freeBankWork
  dsimp only
  split
  · exact (((headTest _ _).trans (foldl (lateStart b coils) _ _)).trans (headTest _ _)).trans
      (purgeTest _ _ _)
  · exact headTest _ _

theorem rechargeDone (s : State) (b : BankId) (coils : Coils) :
    PlantLaws A N s (s.rechargeDone b coils) := by
  unfold State.rechargeDone
  split
  · exact startSwitch _ _ _
  · exact PlantLaws.trans (modBank (.serve _ _ rfl)) (freeBankWork _ _ _)

theorem switchDone (s : State) (b : BankId) (target : Level) (coils : Coils) :
    PlantLaws A N s (s.switchDone b target coils) :=
  PlantLaws.trans (modBank (.serve _ _ rfl)) (freeBankWork _ _ _)

end PlantLaws

theorem getElem_closeDue {nozzles : Vector (Option Time) 8} {now : Time} {m : Member}
    (h : (closeDue nozzles now)[m].isSome = true) : nozzles[m].isSome = true := by
  simp only [closeDue, Fin.getElem_fin, Vector.getElem_ofFn] at h ⊢
  split at h
  · rename_i hn
    exact hn ▸ rfl
  · simp at h

namespace PlantLaws

variable {A N : Prop}

theorem pulseEnds (s : State) (b : BankId) (e : Entry) : PlantLaws A N s (s.pulseEnds b e) := by
  unfold State.pulseEnds
  dsimp only
  have hclosed : PlantLaws A N s
      (s.modBank b fun k => { k with nozzles := closeDue k.nozzles s.timeBase }) :=
    modBank (.closing fun m h => getElem_closeDue h)
  split
  · exact (hclosed.trans (finishEntry _ _ _ _)).trans (settle _ _)
  · exact hclosed.trans (finishEntry _ _ _ _)

theorem cutEntry (b : BankId) (s : State) (e : Entry) : PlantLaws A N s (State.cutEntry b s e) := by
  unfold State.cutEntry
  split
  · exact refl s
  · exact loseEntry _ _ _ _
  · split
    · exact loseEntry _ _ _ _
    · exact finishEntry _ _ _ _

end PlantLaws

/-- A bank cut by FIRE-ENABLE keeps what it holds, its nozzles closed (R118). -/
theorem Bank.Follows.cut {fire : Bool} {max : Nat} (k : Bank) (recharged : Time) :
    Bank.Follows fire max k { k with nozzles := noNozzleOpen, state := k.state.cut recharged } where
  nozzles := fun m h => by simp [noNozzleOpen] at h
  debts := id
  fits := le_rfl
  tracks := fun e he => ⟨e, he, rfl⟩
  service := by
    unfold Bank.OutOfService
    cases hs : k.state <;> simp_all [BankState.cut]

namespace PlantLaws

variable {A N : Prop}

theorem cutBank (s : State) (b : BankId) : PlantLaws A N s (s.cutBank b) := by
  unfold State.cutBank
  exact PlantLaws.trans (PlantLaws.trans (modBank (.cut _ _)) (foldl (cutEntry b) _ _)) (headTest _ _)

/-! ### Conditioning (7.4) -/

theorem atStep {s : State} {b : BankId} (h : (s.bank b).state.awaited = true) (step : Nat)
    (ends : Option Time) : PlantLaws A N s (s.atStep b step ends) := modBank (.atStep h step ends)

theorem startPurgeTimer (s : State) (b : BankId) : PlantLaws A N s (s.startPurgeTimer b) :=
  modBank (.debt id)

theorem beginStep7 (b : BankId) (coils : Coils) (s : State) :
    PlantLaws A N s (State.beginStep7 b coils s) := by
  unfold State.beginStep7
  refine PlantLaws.trans (PlantLaws.trans (PlantLaws.trans (modBank ?_) (startPurgeTimer _ _))
    (freeBankWork _ _ _)) (readinessTest _)
  exact (Bank.Follows.serve .idle (s.bank b).level rfl).trans
    (.debt fun h => Bank.debtFits_zero h rfl rfl)

theorem beginStep6 {b : BankId} {s : State} (h : (s.bank b).state.awaited = true) :
    PlantLaws A N s (State.beginStep6 b s) := atStep h _ _

theorem beginStep5 {b : BankId} {s : State} (h : (s.bank b).state.awaited = true) :
    PlantLaws A N s (State.beginStep5 b s) := by
  unfold State.beginStep5
  split
  · exact beginStep6 h
  · exact atStep h _ _

theorem stepMember {b : BankId} {s : State} (hs : s.MayDrive b) (closing : Time) (coils : Coils)
    (m : Member) : PlantLaws A N s (State.stepMember b closing coils s m) ∧
      (State.stepMember b closing coils s m).MayDrive b := by
  unfold State.stepMember
  split
  · exact ⟨refl s, hs⟩
  · rename_i hm
    have hm := Bool.eq_false_iff.mpr hm
    exact ⟨drive (hs.healthy hm) closing coils, hs.drive hm closing coils⟩

theorem purgeStep {b : BankId} {s : State} (h : (s.bank b).state.awaited = true) (coils : Coils)
    (step : Nat) : PlantLaws A N s (State.purgeStep b coils step s) := by
  unfold State.purgeStep
  split
  · exact atStep h _ _
  · refine (atStep h _ _).trans (foldl_along (P := fun t _ => t.MayDrive b)
      (fun t m _ ht => stepMember ht _ coils m) (.inl ?_)).1
    rw [State.atStep, State.bank_modBank]
    simp

theorem beginStep3 {b : BankId} {s : State} (h : (s.bank b).state.awaited = true) (coils : Coils) :
    PlantLaws A N s (State.beginStep3 b coils s) := by
  unfold State.beginStep3
  split
  · exact purgeStep h _ _
  · exact atStep h _ _

theorem beginStep1 {b : BankId} {s : State} (h : (s.bank b).state.awaited = true) (coils : Coils) :
    PlantLaws A N s (State.beginStep1 b coils s) := by
  unfold State.beginStep1
  split
  · exact atStep h _ _
  · split
    · exact purgeStep h _ _
    · split
      · exact atStep h _ _
      · exact atStep h _ _

theorem retryStep (coils : Coils) (s : State) (b : BankId) :
    PlantLaws A N s (State.retryStep coils s b) := by
  have hawaited : ∀ step ends, (s.bank b).state = .conditioning step ends →
      (s.bank b).state.awaited = true := fun step ends h => by rw [h]; rfl
  unfold State.retryStep
  split
  · rename_i h
    exact beginStep1 (hawaited _ _ h) _
  · rename_i h
    exact purgeStep (hawaited _ _ h) _ _
  · rename_i h
    exact purgeStep (hawaited _ _ h) _ _
  · exact refl s

/-- A bank's level changes and nothing else of it. -/
theorem setLevel (s : State) (b : BankId) (level : Level) :
    PlantLaws A N s (s.modBank b fun k => { k with level := level }) := by
  refine modBank ⟨fun _ h => .inl h, ?_, id, le_rfl, fun e he => ⟨e, he, rfl⟩⟩
  exact id

theorem closeNozzles (s : State) (b : BankId) :
    PlantLaws A N s (s.modBank b fun k => { k with nozzles := noNozzleOpen }) :=
  modBank (.closing (by simp [noNozzleOpen]))

theorem stepDone {s : State} {b : BankId} (h : (s.bank b).state.awaited = true) (step : Nat)
    (coils : Coils) : PlantLaws A N s (s.stepDone b step coils) := by
  have hmod : ∀ f : Bank → Bank, (f (s.bank b)).state = (s.bank b).state →
      ((s.modBank b f).bank b).state.awaited = true := fun f hf => by
    rwa [State.bank_modBank, hf]
  unfold State.stepDone
  split
  · exact (setLevel s b .high).trans (purgeStep (hmod _ rfl) _ _)
  · exact (closeNozzles s b).trans (beginStep3 (hmod _ rfl) _)
  · exact purgeStep h _ _
  · exact (closeNozzles s b).trans (beginStep5 (hmod _ rfl))
  · exact beginStep6 h
  · exact (setLevel s b .low).trans (beginStep7 _ _ _)
  · exact refl s

theorem beginConditioning {s : State} {b : BankId} (h : (s.bank b).state.awaited = true)
    (coils : Coils) : PlantLaws A N s (State.beginConditioning coils s b) := by
  unfold State.beginConditioning
  refine PlantLaws.trans (PlantLaws.trans (modBank (.debt fun hd => Bank.debtFits_zero hd rfl rfl))
    (startPurgeTimer _ _)) (beginStep1 ?_ _)
  rw [State.startPurgeTimer, State.bank_modBank, State.bank_modBank]
  exact h

theorem conditionDark (coils : Coils) (s : State) (b : BankId) :
    PlantLaws A N s (State.conditionDark coils s b) := by
  unfold State.conditionDark
  split
  · rename_i h
    exact beginConditioning (by rw [h]; rfl) coils
  · exact refl s

theorem shedEnd (s : State) (coils : Coils) : PlantLaws A N s (s.shedEnd coils) :=
  PlantLaws.trans (foldl (fun t b => (headTest t b).trans (retryStep coils _ b)) _ s)
    (purgeTests _ coils)

theorem afterShed (s : State) (was : Bool) (coils : Coils) : PlantLaws A N s (s.afterShed was coils) := by
  unfold State.afterShed
  split
  · exact shedEnd s coils
  · exact refl s

end PlantLaws

end Sys2Proof.Machine

/-!
SUPPORT. The laws of the plant through a planning pass: the parts of a plan lie on distinct banks, and an
offer taken or refused leaves the parts still to be offered open (R52, R90, R92, R101).
-/

namespace Sys2Proof.Machine

/-! ### The parts of an eject lie on distinct banks (R90) -/

theorem map_bank_partsOf (bar : Bar) (level : Level) (columns : List Nat) :
    (partsOf bar level columns).map (fun p => p.bank) =
      ((List.range 8).filter fun n => !decide (maskOfColumns columns n = 0)).map
        fun n => bankOf bar (8 * n) := by
  unfold partsOf
  induction List.range 8 with
  | nil => rfl
  | cons n l ih =>
    by_cases h : maskOfColumns columns n = 0
    · simpa [h] using ih
    · rw [List.filter_cons, if_pos (by simpa using h), List.map_cons, ← ih, List.filterMap_cons,
        if_neg h]
      rfl

theorem nodup_bank_partsOf (bar : Bar) (level : Level) (columns : List Nat) :
    ((partsOf bar level columns).map fun p => p.bank).Nodup := by
  rw [map_bank_partsOf]
  refine List.Nodup.sublist (List.filter_sublist.map _) ?_
  cases bar <;> decide

theorem partsOf_waiting {bar : Bar} {level : Level} {columns : List Nat} {p : Part}
    (h : p ∈ partsOf bar level columns) : p.result = .waiting := by
  obtain ⟨n, -, hn⟩ := List.mem_filterMap.mp h
  split at hn
  · cases hn
  · cases hn
    rfl

/-! ### A report that leaves a part open -/

/-- Every record of the id holds `P`, and there is one. -/
def State.RecordsHold (s : State) (id : TrackId) (P : Record → Prop) : Prop :=
  (∃ r ∈ s.store.records, r.id = id) ∧ ∀ r ∈ s.store.records, r.id = id → P r

theorem State.RecordsHold.imp {s : State} {id : TrackId} {P Q : Record → Prop}
    (h : s.RecordsHold id P) (hi : ∀ r, P r → Q r) : s.RecordsHold id Q :=
  ⟨h.1, fun r hr hid => hi r (h.2 r hr hid)⟩

theorem State.RecordsHold.modRecord {s : State} {id : TrackId} {P Q : Record → Prop}
    {f : Record → Record} (h : s.RecordsHold id P) (hid : ∀ r, (f r).id = r.id)
    (hi : ∀ r, P r → Q (f r)) : (s.modRecord id f).RecordsHold id Q := by
  obtain ⟨⟨r, hr, hrid⟩, hall⟩ := h
  refine ⟨⟨f r, List.mem_map.mpr ⟨r, hr, if_pos hrid⟩, (hid r).trans hrid⟩, fun q hq hqid => ?_⟩
  obtain ⟨x, hx, rfl⟩ := List.mem_map.mp hq
  by_cases hxid : x.id = id
  · rw [if_pos hxid]
    exact hi x (hall x hx hxid)
  · rw [if_neg hxid] at hqid
    exact absurd hqid hxid

/-- The outcome rule leaves a record with an open part. -/
theorem outcomeRule_of_open {s : State} {id : TrackId} {b : BankId}
    (h : s.RecordsHold id fun r => r.openPart b = true) : s.outcomeRule id = s := by
  unfold State.outcomeRule
  split
  · rfl
  · rename_i r hr
    obtain ⟨hmem, hid⟩ := State.mem_of_record? hr
    have hopen := h.2 r hmem hid
    split
    · rfl
    · rename_i p hp
      simp only [Record.openPart, hp] at hopen
      obtain ⟨x, hx, hxopen⟩ := List.any_eq_true.mp hopen
      have hnot : (p.parts.all fun q => q.result.final) = false := by
        rw [Bool.eq_false_iff]
        intro hall
        have := List.all_eq_true.mp hall x hx
        simp [this] at hxopen
      simp [hnot]

/-- A record whose parts on these banks are still to be offered: it is PLANNED or FIRING, and they are
not final. -/
def Record.Awaits (banks : List BankId) (r : Record) : Prop :=
  r.Serving ∧ ∀ c ∈ banks, r.openPart c = true

/-- While banks are left to be offered a part, the record of the id awaits them. -/
def State.Offering (s : State) (id : TrackId) (banks : List BankId) : Prop :=
  banks ≠ [] → s.RecordsHold id (Record.Awaits banks)

/-- The report for one part leaves the record to await the others. -/
theorem State.Offering.reportPart {s : State} {id : TrackId} {b : BankId} {banks : List BankId}
    (h : s.Offering id (b :: banks)) (hb : b ∉ banks) (result : PartResult) (level : Option Level) :
    (s.reportPart id b result level).Offering id banks := by
  intro hne
  have hall := h (by simp)
  obtain ⟨c, rest, rfl⟩ := List.exists_cons_of_ne_nil hne
  have hkeep : ∀ r, Record.Awaits (b :: c :: rest) r → Record.Awaits (c :: rest) r :=
    fun r hr => ⟨hr.1, fun d hd => hr.2 d (List.mem_cons_of_mem _ hd)⟩
  have hwrite : ∀ r, Record.Awaits (b :: c :: rest) r →
      Record.Awaits (c :: rest) (r.report b result level) :=
    fun r hr => ⟨PlantLaws.serving_report hr.1 b result level, fun d hd =>
      PlantLaws.openPart_report (.inl fun hdb => hb (hdb ▸ hd)) (hr.2 d (List.mem_cons_of_mem _ hd))⟩
  have hquiet : ∀ t : State, t.RecordsHold id (Record.Awaits (c :: rest)) →
      (t.outcomeRule id).RecordsHold id (Record.Awaits (c :: rest)) := by
    intro t ht
    rw [outcomeRule_of_open (b := c) (ht.imp fun r hr => hr.2 c List.mem_cons_self)]
    exact ht
  unfold State.reportPart
  split
  · exact hall.imp hkeep
  · split
    · have hwritten := hall.modRecord (f := fun q => q.report b result level) (fun _ => rfl) hwrite
      dsimp only
      split
      · exact hquiet _ hwritten
      · exact hquiet _ hwritten
    · exact hall.imp hkeep

theorem State.Offering.of_records {s t : State} {id : TrackId} {banks : List BankId}
    (h : s.Offering id banks) (ht : t.store.records = s.store.records) : t.Offering id banks := by
  unfold State.Offering State.RecordsHold at *
  rwa [ht]

@[simp] theorem State.headTest_store (s : State) (b : BankId) : (s.headTest b).store = s.store := by
  unfold State.headTest
  split
  · split <;> rfl
  · rfl

/-- The head test changes its bank's state alone. -/
theorem State.headTest_bank (s : State) (b c : BankId) :
    ∃ st, (s.headTest b).bank c = { s.bank c with state := st } := by
  unfold State.headTest
  split
  · split
    · rename_i target _
      unfold State.startSwitch
      rw [State.bank_modBank_eq]
      split
      · rename_i hc
        exact ⟨_, by rw [hc]⟩
      · exact ⟨(s.bank c).state, rfl⟩
    · exact ⟨(s.bank c).state, rfl⟩
  · exact ⟨(s.bank c).state, rfl⟩

@[simp] theorem State.headTest_queue (s : State) (b c : BankId) :
    ((s.headTest b).bank c).queue = (s.bank c).queue := by
  obtain ⟨st, h⟩ := s.headTest_bank b c
  rw [h]

namespace PlantLaws

variable {A N : Prop}

/-- A new entry joins a queue with room, of a bank in service whose part of the record is open. -/
theorem joinQueue {s : State} {b : BankId} {e : Entry}
    (hfree : (s.bank b).unavailable = false)
    (hrecord : s.RecordsHold e.track fun r => r.Serving ∧ r.openPart b = true) :
    PlantLaws A N s (s.modBank b fun k => { k with queue := queueEntry e k.queue }) := by
  obtain ⟨⟨r, hr, hre⟩, hall⟩ := hrecord
  have hqueue : ∀ c, ∀ x ∈ ((s.modBank b fun k => { k with queue := queueEntry e k.queue }).bank c).queue,
      x ∈ (s.bank c).queue ∨ (c = b ∧ x = e) := by
    intro c x hx
    rw [State.bank_modBank_eq] at hx
    split at hx
    · rename_i hc
      rw [hc]
      rcases List.mem_cons.mp ((queueEntry_perm _ _).mem_iff.mp hx) with rfl | hx
      · exact .inr ⟨rfl, rfl⟩
      · exact .inl hx
    · exact .inl hx
  have hbank : ∀ c, (s.modBank b fun k => { k with queue := queueEntry e k.queue }).bank c =
      { s.bank c with queue := ((s.modBank b fun k =>
        { k with queue := queueEntry e k.queue }).bank c).queue } := by
    intro c
    rw [State.bank_modBank_eq]
    split
    · rename_i hc
      rw [hc]
    · rfl
  have hlength : (s.bank b).queue.length < 16 := by
    obtain ⟨-, hroom⟩ := Bool.or_eq_false_iff.mp hfree
    exact not_le.mp (of_decide_eq_false hroom)
  have hserves : (s.bank b).state.serves = true := by
    revert hfree
    unfold Bank.unavailable
    cases (s.bank b).state <;> simp [BankState.serves]
  exact
    { steps := .of_store rfl
      noNew := fun _ q hq => ⟨q, hq, rfl⟩
      fire := fun hsafe hoff c m => by
        have := hsafe hoff c m
        unfold State.nozzleOpen at *
        rwa [hbank c]
      closed := fun hc c => by
        by_cases hcb : c = b
        · subst hcb
          refine Bank.outOfService_of_serves ?_
          rw [hbank c]
          exact hserves
        · rw [State.bank_modBank_ne _ _ hcb]
          exact hc c
      debts := fun hd c => by
        rw [hbank c]
        exact hd c
      queues := fun hq c => by
        rw [State.bank_modBank_eq]
        split
        · rw [(queueEntry_perm _ _).length_eq, List.length_cons]
          omega
        · exact hq c
      health := id
      tracked := fun _ ht c x hx => by
        rcases hqueue c x hx with hx | ⟨-, rfl⟩
        · exact ht c x hx
        · exact ⟨r, hr, hre⟩
      partsOpen := fun _ _ ho c x hx => by
        rcases hqueue c x hx with hx | ⟨rfl, rfl⟩
        · exact ho c x hx
        · exact ⟨r, hr, hre, hall r hr hre⟩ }

theorem enqueue {s : State} {b : BankId} {o : Offer} (hfree : (s.bank b).unavailable = false)
    (hrecord : s.RecordsHold o.track fun r => r.Serving ∧ r.openPart b = true) (level : Level) :
    PlantLaws A N s (s.enqueue b o level) := by
  unfold State.enqueue
  have hjoined := joinQueue (A := A) (N := N) (e := newEntry (s.bankSettings b) o level) hfree hrecord
  exact (hjoined.trans (reportPart_of_not_final _ _ _ rfl _)).trans (headTest _ _)

end PlantLaws

/-- A bank that admits an offer is available to it (R103). -/
theorem State.admission_available {s : State} {b : BankId} {o : Offer} {level : Level}
    (h : s.admission b o = .ok level) : (s.bank b).unavailable = false := by
  unfold State.admission at h
  split at h
  · cases h
  · rename_i hfree
    exact Bool.eq_false_iff.mpr hfree

/-- An offer leaves the record to await the other banks' answers. -/
theorem State.Offering.offer {s : State} {b : BankId} {o : Offer} {banks : List BankId}
    (h : s.Offering o.track (b :: banks)) (hb : b ∉ banks) : (s.offer b o).Offering o.track banks := by
  unfold State.offer
  split
  · unfold State.enqueue
    refine State.Offering.of_records ?_ (congrArg Store.records (State.headTest_store _ b))
    refine State.Offering.reportPart ?_ hb _ _
    exact h.of_records rfl
  · exact h.reportPart hb _ _

/-- An offer brings entries to its own bank alone. -/
theorem State.offer_queue {s : State} {b c : BankId} (o : Offer) (hc : c ≠ b) :
    ((s.offer b o).bank c).queue.Sublist (s.bank c).queue := by
  unfold State.offer
  split
  · unfold State.enqueue
    rw [State.headTest_queue]
    have hreport := ((StoreSide.reportPart (s.modBank b fun k =>
      { k with queue := queueEntry (newEntry (s.bankSettings b) o ‹Level›) k.queue }) o.track b .waiting
      (some ‹Level›)).bank c).queue
    rwa [State.bank_modBank_ne _ _ hc] at hreport
  · exact ((StoreSide.reportPart s o.track b _ none).bank c).queue

namespace PlantLaws

variable {A N : Prop}

theorem offer {s : State} {b : BankId} {o : Offer} {banks : List BankId}
    (hrecord : s.Offering o.track (b :: banks))
    (hnone : A → ∀ e ∈ (s.bank b).queue, e.track ≠ o.track) : PlantLaws A N s (s.offer b o) := by
  unfold State.offer
  split
  · rename_i level hok
    refine enqueue (State.admission_available hok) ?_ level
    exact (hrecord (by simp)).imp fun r hr => ⟨hr.1, hr.2 b List.mem_cons_self⟩
  · exact reportPart (fun a _ => hnone a) none

/-- The parts of a plan offered to their banks, which hold no entry of the record yet (R92). -/
theorem foldl_offer {s : State} {id : TrackId} {parts : List Part} {make : Part → Offer}
    (hmake : ∀ p, (make p).track = id) (hbanks : (parts.map fun p => p.bank).Nodup)
    (hrecord : s.Offering id (parts.map fun p => p.bank)) (hnone : A → s.Unqueued id) :
    PlantLaws A N s (parts.foldl (fun t p => t.offer p.bank (make p)) s) := by
  refine (foldl_along (P := fun t l => (l.map fun p => p.bank).Nodup ∧
    t.Offering id (l.map fun p => p.bank) ∧
    (A → ∀ c ∈ l.map fun p => p.bank, ∀ e ∈ (t.bank c).queue, e.track ≠ id)) ?_
    ⟨hbanks, hrecord, fun a c _ => hnone a c⟩).1
  rintro t p l ⟨hnodup, hoffering, hqueues⟩
  rw [List.map_cons] at hnodup hoffering hqueues
  obtain ⟨hnot, hrest⟩ := List.nodup_cons.mp hnodup
  rw [← hmake p] at hoffering
  refine ⟨offer hoffering fun a => ?_, hrest, ?_, fun a c hc e he => ?_⟩
  · rw [hmake p]
    exact hqueues a p.bank List.mem_cons_self
  · rw [← hmake p]
    exact hoffering.offer hnot
  · have hne : c ≠ p.bank := fun h => hnot (h ▸ hc)
    exact hqueues a c (List.mem_cons_of_mem _ hc) e ((State.offer_queue _ hne).subset he)

/-! ### The planning pass and the planning event (chapter 5) -/

/-- A record without entries is missed. -/
theorem missRecord {s : State} {id : TrackId}
    (hfree : A → s.store.IdsDistinct → s.EntriesOpen → s.Unqueued id) (cause : Cause) :
    PlantLaws A N s (s.missRecord id cause) :=
  (countCause s cause).trans (endRecord (s := s.countCause cause) hfree _ _)

/-- A plan written to records makes each of its parts open, on every bank it names. -/
theorem offering_planned {s : State} {id : TrackId} {r : Record} (hr : s.record? id = some r)
    {plan : Plan} (hplan : ∀ p ∈ plan.parts, p.result = .waiting) :
    (s.modRecord id fun q => { q with plan := some plan, state := .planned }).Offering id
      (plan.parts.map fun p => p.bank) := by
  intro _
  obtain ⟨hmem, hid⟩ := State.mem_of_record? hr
  have hsome : s.RecordsHold id fun _ => True := ⟨⟨r, hmem, hid⟩, fun _ _ _ => trivial⟩
  refine hsome.modRecord (fun _ => rfl) fun q _ => ⟨.inl rfl, fun c hc => ?_⟩
  obtain ⟨p, hp, rfl⟩ := List.mem_map.mp hc
  exact List.any_eq_true.mpr ⟨p, hp, by simp [hplan p hp, PartResult.final]⟩

theorem planPass {s : State} {r : Record} (hr : s.record? r.id = some r) (hstate : r.state = .ready)
    (route : Route) (bar : Bar) : PlantLaws A N s (s.planPass r route bar) := by
  refine of_laws ?_
  have hfree : s.store.IdsDistinct ∧ s.EntriesOpen → s.Unqueued r.id := fun h =>
    unqueued_of_not_serving h.1 h.2 hr (by simp [Record.Serving, hstate])
  have hbanks : ((s.planOf r route bar).parts.map fun p => p.bank).Nodup := nodup_bank_partsOf _ _ _
  have hwaiting : ∀ p ∈ (s.planOf r route bar).parts, p.result = .waiting :=
    fun p hp => partsOf_waiting hp
  unfold State.planPass
  split
  · split
    · exact missRecord (fun a _ _ => hfree a) _
    · exact refl s
  · dsimp only
    generalize s.planOf r route bar = plan at hbanks hwaiting
    split
    · exact missRecord (fun a _ _ => hfree a) _
    · split
      · have hnoted : PlantLaws (s.store.IdsDistinct ∧ s.EntriesOpen) N s
            (s.modRecord r.id fun q => { q with plan := some plan }) :=
          modRecord_unqueued (fun _ => rfl) fun a _ _ => hfree a
        have hnone : s.store.IdsDistinct ∧ s.EntriesOpen →
            (s.modRecord r.id fun q => { q with plan := some plan }).Unqueued r.id := hfree
        exact hnoted.trans (missRecord (fun a _ _ => hnone a) _)
      · have hplanned : PlantLaws (s.store.IdsDistinct ∧ s.EntriesOpen) N s
            (s.modRecord r.id fun q => { q with plan := some plan, state := .planned }) :=
          modRecord_unqueued (fun _ => rfl) fun a _ _ => hfree a
        exact hplanned.trans (foldl_offer (make := fun p => offerOf r.id route plan s.belt.v p)
          (fun _ => rfl) hbanks (offering_planned hr hwaiting) fun a b e he => hfree a b e he)

theorem dealReady (s : State) (id : TrackId) : PlantLaws A N s (s.dealReady id) := by
  unfold State.dealReady
  split
  · exact refl s
  · rename_i r hr
    obtain ⟨hmem, hid⟩ := State.mem_of_record? hr
    split
    · rename_i res hstate hres
      have hnot : ¬r.Serving := by simp [Record.Serving, hstate]
      split
      · exact endRecord (fun _ hids ho => unqueued_of_not_serving hids ho hr hnot) _ _
      · exact planPass (hid ▸ hr) hstate _ _
    · exact refl s

theorem planningEvent (s : State) (id : TrackId) : PlantLaws A N s (s.planningEvent id) := by
  unfold State.planningEvent
  refine PlantLaws.trans (modRecord (fun r => ?_) fun _ _ _ b e _ _ r _ _ hserving hpart => ?_)
    (dealReady _ id)
  · split <;> rfl
  · rw [if_neg (by rcases hserving with h | h <;> simp [h])]
    exact ⟨hserving, hpart⟩

theorem horizonTest (s : State) (id : TrackId) : PlantLaws A N s (s.horizonTest id) := by
  unfold State.horizonTest
  split
  · exact refl s
  · split
    · exact planningEvent s id
    · exact refl s

theorem horizonAll (s : State) : PlantLaws A N s s.horizonAll := by
  unfold State.horizonAll
  exact foldl (fun t (r : Record) => planningEvent t r.id) _ s

theorem planHeld (s : State) : PlantLaws A N s s.planHeld := by
  unfold State.planHeld
  exact foldl (fun t (r : Record) => dealReady t r.id) _ s

/-! ### The heads' reports (3.2, 3.3) -/

theorem addRecord {s : State} {make : TrackId → Nat → Record}
    (hid : ∀ id born, (make id born).id = id) (hroom : s.store.full = false) (coils : Coils) :
    PlantLaws A False s (s.addRecord make coils) :=
  ((createRecord hid hroom).trans (horizonTest _ _)).trans (purgeTests _ coils)

theorem dropReport (s : State) (p : HeadPart) : PlantLaws A N s (s.dropReport p) := by
  have hsteps : StoreSteps s (s.dropReport p) := .dropReport s p
  exact of_same hsteps rfl rfl rfl rfl rfl

theorem createOrDrop {s : State} {make : TrackId → Nat → Record}
    (hid : ∀ id born, (make id born).id = id) (p : HeadPart) (coils : Coils) :
    PlantLaws A False s (s.createOrDrop p make coils) := by
  unfold State.createOrDrop
  split
  · exact dropReport s p
  · rename_i hroom
    exact addRecord hid (Bool.eq_false_iff.mpr hroom) coils

theorem join {s : State} {r : Record} (hr : r ∈ s.store.records) (hjoining : r.state = .joining)
    (p : HeadPart) (pArrB : Pos) (coils : Coils) : PlantLaws A N s (s.join r p pArrB coils) := by
  unfold State.join
  refine PlantLaws.trans (PlantLaws.trans (replaceRecord (q := s.joined r p pArrB) hr rfl ?_ rfl)
    (horizonTest _ _)) (purgeTests _ coils)
  simp [Record.Serving, hjoining]

end PlantLaws

end Sys2Proof.Machine

/-!
SUPPORT. The laws of the whole part: `PartLaws` says of two states, besides the laws of the plant, the depth
of every collection (R27, R169, R180), the low test (R140, R141), the flag set (R178), the ranges of the
settings (R163) and what becomes of the run state (9.1). Every command keeps them.
-/

namespace Sys2Proof.Machine

/-! ### The collections outside the plant -/

/-- How many entries a channel's FIFO holds (2.1, R27). -/
def Channel.depth : Channel → Nat
  | .sa | .sb => 16
  | .bm | .mx => 1

/-- Every FIFO keeps within its depth. -/
def State.LatchesFit (s : State) : Prop := ∀ c : Channel, (s.latch c).fifo.length ≤ c.depth

/-- The request queue and the notice queue keep within their depths (R169, R180). -/
def State.LinkFits (s : State) : Prop := s.link.requests.length ≤ 2 ∧ s.link.notices.length ≤ 8

theorem State.withinCapacity_iff (s : State) : s.WithinCapacity ↔
    s.store.records.length ≤ 512 ∧ s.QueuesFit ∧ s.LatchesFit ∧ s.LinkFits := by
  unfold State.WithinCapacity State.QueuesFit State.LatchesFit State.LinkFits
  constructor
  · rintro ⟨hstore, hqueues, hsa, hsb, hbm, hmx, hlink⟩
    refine ⟨hstore, hqueues, fun c => ?_, hlink⟩
    cases c
    · exact hsa
    · exact hsb
    · exact hbm
    · exact hmx
  · rintro ⟨hstore, hqueues, hlatches, hlink⟩
    exact ⟨hstore, hqueues, hlatches .sa, hlatches .sb, hlatches .bm, hlatches .mx, hlink⟩

/-- The store holds at most 512 records after every move of it (R40). -/
theorem StoreMove.length_le {st st' : Store} (h : StoreMove st st') (hst : st.records.length ≤ 512) :
    st'.records.length ≤ 512 := by
  cases h with
  | change f hf => simpa using hst
  | countGlobal g hg => exact hst
  | countDropped c n => exact hst
  | retire r hr hterminal => exact (List.length_filter_le _ _).trans hst
  | create r hid hroom =>
    show (place r st.records).length ≤ 512
    rw [length_place]
    exact Store.length_of_not_full hroom
  | replace r q hr hid =>
    show (place q _).length ≤ 512
    rw [length_place]
    have hless : (st.records.filter fun x => decide (x.id ≠ r.id)).length < st.records.length :=
      List.length_filter_lt_length_iff_exists.mpr ⟨r, hr, by simp⟩
    omega
  | flush => exact Nat.zero_le _
  | clearTallies => exact hst
  | reset => exact Nat.zero_le _

theorem StoreSteps.length_le {s t : State} (h : StoreSteps s t)
    (hs : s.store.records.length ≤ 512) : t.store.records.length ≤ 512 := by
  obtain ⟨hmoves⟩ := h
  generalize t.store = st at hmoves
  induction hmoves with
  | refl => exact hs
  | tail _ hmove ih => exact hmove.length_le ih

/-- The positions without a flag stay clear if every flag that is set was set or has a place (R178). -/
theorem State.flagsCarried_iff (s : State) :
    s.FlagsCarried ↔ ∀ i, s.flags.getLsbD i = true → i < 24 := by
  unfold State.FlagsCarried
  have hmask : ∀ i, i < 32 → ((~~~carriedFlags).getLsbD i = true ↔ 24 ≤ i) := by decide
  constructor
  · intro h i hi
    by_contra hnot
    have hbit := congrArg (fun m => m.getLsbD i) h
    have hlt : i < 32 := by
      by_contra hge
      rw [BitVec.getLsbD_of_ge _ _ (by omega)] at hi
      cases hi
    simp only [BitVec.getLsbD_and, hi, (hmask i hlt).mpr (by omega), Bool.and_self] at hbit
    simp at hbit
  · intro h
    refine BitVec.eq_of_getLsbD_eq fun i hi => ?_
    rw [BitVec.getLsbD_and]
    by_cases hset : s.flags.getLsbD i = true
    · have hplace := h i hset
      have hclear : (~~~carriedFlags).getLsbD i = false :=
        Bool.eq_false_iff.mpr fun hm => by
          have := (hmask i hi).mp hm
          omega
      rw [hclear]
      simp
    · rw [Bool.eq_false_iff.mpr hset]
      simp

/-! ### The laws outside the plant -/

/-- The laws that hold of `s` outside the plant hold of `t`. That the settings of SETUP stand is claimed
under `S`, that HALTED stands under `H`, that SETUP stands under `U`. -/
structure SideLaws (S H U : Prop) (s t : State) : Prop where
  pending : t.pending = s.pending
  latches : s.LatchesFit → t.LatchesFit
  link : s.LinkFits → t.LinkFits
  lowTest : s.LowTestKept → t.LowTestKept
  flags : s.FlagsCarried → t.FlagsCarried
  settings : s.settings.valid = true → t.settings.valid = true
  setupOnly : S → ∀ n : SettingName, n.setupOnly = true → t.settings.get n = s.settings.get n
  halted : H → ∀ cause, s.run = .halted cause → t.run = .halted cause
  setup : U → s.run = .setup → t.run = .setup

theorem SideLaws.trans {S H U : Prop} {s t u : State} (h : SideLaws S H U s t) (k : SideLaws S H U t u) :
    SideLaws S H U s u where
  pending := k.pending.trans h.pending
  latches := fun x => k.latches (h.latches x)
  link := fun x => k.link (h.link x)
  lowTest := fun x => k.lowTest (h.lowTest x)
  flags := fun x => k.flags (h.flags x)
  settings := fun x => k.settings (h.settings x)
  setupOnly := fun x n hn => (k.setupOnly x n hn).trans (h.setupOnly x n hn)
  halted := fun x c hc => k.halted x c (h.halted x c hc)
  setup := fun x hs => k.setup x (h.setup x hs)

/-- What keeps to the bank side keeps the laws outside the plant. -/
theorem SideLaws.of_bankSide {S H U : Prop} {s t : State} (h : BankSide s t) : SideLaws S H U s t where
  pending := h.pending
  latches := fun hs c => by
    unfold State.latch
    rw [h.latches]
    exact hs c
  link := fun hs => by
    unfold State.LinkFits
    rw [h.link]
    exact hs
  lowTest := fun hs => by
    unfold State.LowTestKept
    rw [h.supply, h.pressureLow]
    exact hs
  flags := fun hs => by
    rw [State.flagsCarried_iff] at *
    exact fun i hi => (h.carried i hi).elim (hs i) id
  settings := fun hs => by rwa [h.settings]
  setupOnly := fun _ n _ => by rw [h.settings]
  halted := fun _ cause hs => by
    rcases h.run with hrun | ⟨hrun, -⟩ | ⟨hrun, -⟩
    · rw [hrun, hs]
    · rw [hs] at hrun
      cases hrun
    · rw [hs] at hrun
      cases hrun
  setup := fun _ hs => by
    rcases h.run with hrun | ⟨hrun, -⟩ | ⟨hrun, -⟩
    · rw [hrun, hs]
    · rw [hs] at hrun
      cases hrun
    · rw [hs] at hrun
      cases hrun

/-- The laws of the whole part, for one command. -/
structure PartLaws (N S H U : Prop) (s t : State) : Prop where
  plant : PlantLaws True N s t
  side : SideLaws S H U s t

/-- `t` differs from `s` outside the plant alone, in nothing that the laws speak of but collections that
keep their depths and flags that have a place. -/
structure Aside (s t : State) : Prop where
  steps : StoreSteps s t
  records : t.store.records = s.store.records
  banks : t.banks = s.banks
  health : t.health = s.health
  fireEnable : t.fireEnable = s.fireEnable
  settings : t.settings = s.settings
  run : t.run = s.run
  pending : t.pending = s.pending
  testing : t.supply.testing = s.supply.testing
  lowRun : t.supply.lowRun = s.supply.lowRun
  carried : ∀ i, t.flags.getLsbD i = true → s.flags.getLsbD i = true ∨ i < 24
  pressureLow : t.flag .pressureLow = s.flag .pressureLow
  latches : s.LatchesFit → t.LatchesFit
  link : s.LinkFits → t.LinkFits

namespace Aside

theorem trans {s t u : State} (h : Aside s t) (k : Aside t u) : Aside s u where
  steps := h.steps.trans k.steps
  records := k.records.trans h.records
  banks := k.banks.trans h.banks
  health := k.health.trans h.health
  fireEnable := k.fireEnable.trans h.fireEnable
  settings := k.settings.trans h.settings
  run := k.run.trans h.run
  pending := k.pending.trans h.pending
  testing := k.testing.trans h.testing
  lowRun := k.lowRun.trans h.lowRun
  carried := fun i hi => (k.carried i hi).elim (h.carried i) .inr
  pressureLow := k.pressureLow.trans h.pressureLow
  latches := fun x => k.latches (h.latches x)
  link := fun x => k.link (h.link x)

/-- Belt, heads, stored copy, cursors, time base, supply and the pressure reading change. -/
theorem of_parts (s : State) (powered : Bool) (timeBase : Time) (belt : Belt) (heads : Heads)
    (stored : Option Settings) (cursors : Cursors) (reading : Nat) (timer : Time) :
    Aside s { s with
      powered := powered, timeBase := timeBase, belt := belt, heads := heads, stored := stored
      cursors := cursors, supply := { s.supply with reading := reading, timer := timer } } :=
  ⟨.of_store rfl, rfl, rfl, rfl, rfl, rfl, rfl, rfl, rfl, rfl, fun _ h => .inl h, rfl, id, id⟩

theorem refl (s : State) : Aside s s := of_parts s _ _ _ _ _ _ _ _

theorem setFlag (s : State) {f : Flag} (hf : f ≠ .pressureLow) : Aside s (s.setFlag f) :=
  ⟨.of_store rfl, rfl, rfl, rfl, rfl, rfl, rfl, rfl, rfl, rfl, (BankSide.setFlag s f hf).carried,
    (BankSide.setFlag s f hf).pressureLow, id, id⟩

theorem setFlagIf (s : State) (c : Bool) {f : Flag} (hf : f ≠ .pressureLow) :
    Aside s (s.setFlagIf c f) := by
  unfold State.setFlagIf
  split
  · exact setFlag s hf
  · exact refl s

theorem setFlag? (s : State) {f : Option Flag} (hf : f ≠ some .pressureLow) : Aside s (s.setFlag? f) := by
  cases f with
  | none => exact refl s
  | some f => exact setFlag s fun h => hf (h ▸ rfl)

theorem modGlobals (s : State) {f : GlobalTally → GlobalTally} (hf : ∀ g, (f g).created = g.created) :
    Aside s (s.modGlobals f) :=
  ⟨.modGlobals s hf, rfl, rfl, rfl, rfl, rfl, rfl, rfl, rfl, rfl, fun _ h => .inl h, rfl, id, id⟩

/-- The link changes and its queues keep their depths. -/
theorem setLink (s : State) {l : Link}
    (h : s.LinkFits → l.requests.length ≤ 2 ∧ l.notices.length ≤ 8) : Aside s { s with link := l } :=
  ⟨.of_store rfl, rfl, rfl, rfl, rfl, rfl, rfl, rfl, rfl, rfl, fun _ h => .inl h, rfl, id, h⟩

/-- One channel changes and its FIFO keeps its depth. -/
theorem setLatch (s : State) (c : Channel) {v : Latch}
    (h : (s.latch c).fifo.length ≤ c.depth → v.fifo.length ≤ c.depth) : Aside s (s.setLatch c v) := by
  refine ⟨.of_store rfl, rfl, rfl, rfl, rfl, rfl, rfl, rfl, rfl, rfl, fun _ h => .inl h, rfl, fun hs d => ?_,
    id⟩
  by_cases hd : d = c
  · subst hd
    simp only [State.latch, State.setLatch, Latches.get_put]
    exact h (hs d)
  · simp only [State.latch, State.setLatch, Latches.get_put_ne _ _ hd]
    exact hs d

theorem modLatch (s : State) (c : Channel) {f : Latch → Latch}
    (h : (s.latch c).fifo.length ≤ c.depth → (f (s.latch c)).fifo.length ≤ c.depth) :
    Aside s (s.modLatch c f) := setLatch s c h

/-! ### What closes an event (R171, R180) -/

theorem raise (s : State) (k : NoticeKind) : Aside s (s.raise k) := by
  unfold State.raise
  dsimp only
  split
  · rename_i hroom
    refine setLink s fun h => ⟨h.1, ?_⟩
    simp only [List.length_append, List.length_singleton]
    exact hroom
  · split
    · exact setLink s id
    · exact (setLink s (l := { s.link with noticeNumber := s.link.noticeNumber + 2 }) id).trans
        (setFlag _ (by decide))

theorem transmit (s : State) : Aside s s.transmit := by
  unfold State.transmit
  split
  · exact refl s
  · exact refl s
  · exact setLink s id
  · split
    · exact refl s
    · rename_i n rest hnotices
      refine setLink s fun h => ⟨h.1, ?_⟩
      have := h.2
      rw [hnotices, List.length_cons] at this
      show rest.length ≤ 8
      omega

theorem closeEvent (before s : State) : Aside s (closeEvent before s) := by
  unfold Machine.closeEvent
  refine Aside.trans ?_ (transmit _)
  rcases raiseNotices_cases before s with h | h | h | h
  · rw [h]
    exact refl s
  · rw [h]
    exact raise s _
  · rw [h]
    exact raise s _
  · rw [h]
    exact (raise s _).trans (raise _ _)

theorem takeRequest {s s0 : State} {f : Frame} (h : s.takeRequest f = some s0) : Aside s s0 := by
  unfold State.takeRequest at h
  split at h
  · split at h
    · cases h
      exact refl s
    · rename_i g rest hrequests
      split at h
      · cases h
        refine setLink s fun hs => ⟨?_, hs.2⟩
        have := hs.1
        rw [hrequests, List.length_cons] at this
        show rest.length ≤ 2
        omega
      · cases h
  · cases h

theorem handReply (s : State) (reply : Frame) (thenReset : Bool) : Aside s (s.handReply reply thenReset) :=
  setLink s id

end Aside

namespace PartLaws

variable {N S H U : Prop}

theorem trans {s t u : State} (h : PartLaws N S H U s t) (k : PartLaws N S H U t u) :
    PartLaws N S H U s u := ⟨h.plant.trans k.plant, h.side.trans k.side⟩

theorem of_plant {s t : State} (h : BankSide s t) (k : PlantLaws True N s t) : PartLaws N S H U s t :=
  ⟨k, .of_bankSide h⟩

theorem of_aside {s t : State} (h : Aside s t) : PartLaws N S H U s t where
  plant := .of_same h.steps h.records h.banks h.health h.fireEnable h.settings
  side :=
    { pending := h.pending
      latches := h.latches
      link := h.link
      lowTest := fun hs => by
        unfold State.LowTestKept
        rw [h.testing, h.lowRun, h.pressureLow]
        exact hs
      flags := fun hs => by
        rw [State.flagsCarried_iff] at *
        exact fun i hi => (h.carried i hi).elim (hs i) id
      settings := fun hs => by rwa [h.settings]
      setupOnly := fun _ n _ => by rw [h.settings]
      halted := fun _ cause hs => h.run.trans hs
      setup := fun _ hs => h.run.trans hs }

theorem refl (s : State) : PartLaws N S H U s s := of_aside (.refl s)

/-- An event, whose effect keeps the laws. -/
theorem event {s t : State} {f : State → State} (hf : PartLaws N S H U s (f s))
    (h : event s f = .next t) : PartLaws N S H U s t := by
  rcases event_next h with rfl | rfl
  · exact hf.trans (of_aside (.closeEvent _ _))
  · exact refl _

/-- A request, whose effect keeps the laws of a state that differs from this one in its link alone. -/
theorem serveAfter {s t : State} {prepare : State → State} {kind tag : Byte} {payload : List Byte}
    {lens : List Nat} {act : State → Answer × State}
    (hp : ∀ l, PartLaws N S H U { s with link := l } (prepare { s with link := l }))
    (ha : ∀ l, PartLaws N S H U (prepare { s with link := l }) (act (prepare { s with link := l })).2)
    (h : serveAfter prepare kind tag payload lens act s = .next t) : PartLaws N S H U s t := by
  rcases serveAfter_next h with rfl | ⟨s0, reply, thenReset, htake, hend⟩
  · exact refl _
  · have htaken : PartLaws N S H U s s0 := of_aside (.takeRequest htake)
    obtain ⟨-, -, q, rfl, -⟩ := State.takeRequest_eq htake
    refine htaken.trans ?_
    rcases hend with rfl | rfl
    · exact of_aside ((Aside.handReply _ _ _).trans (.closeEvent _ _))
    · exact ((hp _).trans (ha _)).trans (of_aside ((Aside.handReply _ _ _).trans (.closeEvent _ _)))

theorem serve {s t : State} {kind tag : Byte} {payload : List Byte} {lens : List Nat}
    {act : State → Answer × State}
    (ha : ∀ l, PartLaws N S H U { s with link := l } (act { s with link := l }).2)
    (h : serve kind tag payload lens act s = .next t) : PartLaws N S H U s t :=
  serveAfter (fun _ => refl _) ha h

end PartLaws

end Sys2Proof.Machine

/-!
SUPPORT. The working settings (9.6, 9.7): a value that is put is read back, and alone; a value of its domain
keeps the settings valid; and the values SET takes lie in their domains.
-/

namespace Sys2Proof.Machine

/-! ### A value put is read back (R165) -/

theorem code_decodeModeOf {v : Int} (h : (Domain.codes 3).holds v = true) : (decodeModeOf v).code = v := by
  obtain ⟨hlo, hhi⟩ := of_decide_eq_true h
  obtain rfl | rfl | rfl : v = 0 ∨ v = 1 ∨ v = 2 := by omega
  all_goals rfl

theorem code_directionOf {v : Int} (h : (Domain.codes 2).holds v = true) : (directionOf v).code = v := by
  obtain ⟨hlo, hhi⟩ := of_decide_eq_true h
  obtain rfl | rfl : v = 0 ∨ v = 1 := by omega
  all_goals rfl

theorem code_limitActionOf {v : Int} (h : (Domain.codes 3).holds v = true) :
    (limitActionOf v).code = v := by
  obtain ⟨hlo, hhi⟩ := of_decide_eq_true h
  obtain rfl | rfl | rfl : v = 0 ∨ v = 1 ∨ v = 2 := by omega
  all_goals rfl

theorem code_pressurePolicyOf {v : Int} (h : (Domain.codes 3).holds v = true) :
    (pressurePolicyOf v).code = v := by
  obtain ⟨hlo, hhi⟩ := of_decide_eq_true h
  obtain rfl | rfl | rfl : v = 0 ∨ v = 1 ∨ v = 2 := by omega
  all_goals rfl

theorem code_activeEdgeOf {v : Int} (h : (Domain.codes 2).holds v = true) : (activeEdgeOf v).code = v := by
  obtain ⟨hlo, hhi⟩ := of_decide_eq_true h
  obtain rfl | rfl : v = 0 ∨ v = 1 := by omega
  all_goals rfl

theorem code_filterClassOf {v : Int} (h : (Domain.codes 4).holds v = true) :
    (filterClassOf v).code = v := by
  obtain ⟨hlo, hhi⟩ := of_decide_eq_true h
  obtain rfl | rfl | rfl | rfl : v = 0 ∨ v = 1 ∨ v = 2 ∨ v = 3 := by omega
  all_goals rfl

theorem code_latchModeOf {v : Int} (h : (Domain.codes 2).holds v = true) : (latchModeOf v).code = v := by
  obtain ⟨hlo, hhi⟩ := of_decide_eq_true h
  obtain rfl | rfl : v = 0 ∨ v = 1 := by omega
  all_goals rfl

theorem code_openOrderOf {v : Int} (h : (Domain.codes 3).holds v = true) : (openOrderOf v).code = v := by
  obtain ⟨hlo, hhi⟩ := of_decide_eq_true h
  obtain rfl | rfl | rfl : v = 0 ∨ v = 1 ∨ v = 2 := by omega
  all_goals rfl

theorem Domain.toNat_of_holds {lo hi v : Int} (hlo : 0 ≤ lo)
    (h : (Domain.numeric lo hi).holds v = true) : (v.toNat : Int) = v := by
  obtain ⟨hmin, -⟩ := of_decide_eq_true h
  omega

theorem BankSettings.get_put (st : BankSettings) (f : BankField) {v : Int} (h : f.domain.holds v = true) :
    (st.put f v).get f = v := by
  cases f with
  | openOrder => exact code_openOrderOf h
  | _ => exact Domain.toNat_of_holds (by decide) h

theorem BankSettings.get_put_ne (st : BankSettings) {f g : BankField} (hfg : g ≠ f) (v : Int) :
    (st.put f v).get g = st.get g := by
  cases f <;> cases g <;> first | rfl | exact absurd rfl hfg

@[simp] theorem Settings.line_putLine (st : Settings) (l : Line) (v : LatchSettings) :
    (st.putLine l v).line l = v := by cases l <;> rfl

theorem Settings.line_putLine_ne (st : Settings) {l k : Line} (h : k ≠ l) (v : LatchSettings) :
    (st.putLine l v).line k = st.line k := by cases l <;> cases k <;> first | rfl | exact absurd rfl h

@[simp] theorem Settings.mode_putMode (st : Settings) (c : Channel) (m : LatchMode) :
    (st.putMode c m).mode c = m := by cases c <;> rfl

theorem Settings.mode_putMode_ne (st : Settings) {c d : Channel} (h : d ≠ c) (m : LatchMode) :
    (st.putMode c m).mode d = st.mode d := by cases c <;> cases d <;> first | rfl | exact absurd rfl h

theorem Settings.get_put (st : Settings) (n : SettingName) {v : Int} (h : n.domain.holds v = true) :
    (st.put n v).get n = v := by
  cases n with
  | decodeMode => exact code_decodeModeOf h
  | direction => exact code_directionOf h
  | limitAction => exact code_limitActionOf h
  | pressurePolicy => exact code_pressurePolicyOf h
  | latchEdge l =>
    simp only [Settings.put, Settings.get, Settings.line_putLine]
    exact code_activeEdgeOf h
  | latchFilter l =>
    simp only [Settings.put, Settings.get, Settings.line_putLine]
    exact code_filterClassOf h
  | latchMode c =>
    simp only [Settings.put, Settings.get, Settings.mode_putMode]
    exact code_latchModeOf h
  | bank b f =>
    simp only [Settings.put, Settings.get, Fin.getElem_fin, Vector.getElem_set_self]
    exact BankSettings.get_put _ f h
  | upTrim => rfl
  | downTrim => rfl
  | _ => exact Domain.toNat_of_holds (by decide) h

/-- The settings that no qualifier names: each is a field of its own. -/
def SettingName.plain : SettingName → Bool
  | .latchEdge _ | .latchFilter _ | .latchMode _ | .bank _ _ => false
  | _ => true

theorem Settings.get_put_ne_of_plain (st : Settings) {n m : SettingName} (hn : n.plain = true) (h : m ≠ n)
    (v : Int) : (st.put n v).get m = st.get m := by
  cases n with
  | latchEdge l => cases hn
  | latchFilter l => cases hn
  | latchMode c => cases hn
  | bank b f => cases hn
  | _ => cases m <;> first | rfl | exact absurd rfl h

theorem Settings.get_put_latchEdge_ne (st : Settings) (l : Line) {m : SettingName}
    (h : m ≠ .latchEdge l) (v : Int) : (st.put (.latchEdge l) v).get m = st.get m := by
  cases m with
  | latchEdge k =>
    simp only [Settings.put, Settings.get]
    rw [Settings.line_putLine_ne st fun hk => h (congrArg _ hk)]
  | latchFilter k => cases l <;> cases k <;> rfl
  | latchMode c => cases l <;> cases c <;> rfl
  | _ => cases l <;> rfl

theorem Settings.get_put_latchFilter_ne (st : Settings) (l : Line) {m : SettingName}
    (h : m ≠ .latchFilter l) (v : Int) : (st.put (.latchFilter l) v).get m = st.get m := by
  cases m with
  | latchFilter k =>
    simp only [Settings.put, Settings.get]
    rw [Settings.line_putLine_ne st fun hk => h (congrArg _ hk)]
  | latchEdge k => cases l <;> cases k <;> rfl
  | latchMode c => cases l <;> cases c <;> rfl
  | _ => cases l <;> rfl

theorem Settings.get_put_latchMode_ne (st : Settings) (c : Channel) {m : SettingName}
    (h : m ≠ .latchMode c) (v : Int) : (st.put (.latchMode c) v).get m = st.get m := by
  cases m with
  | latchMode d =>
    simp only [Settings.put, Settings.get]
    rw [Settings.mode_putMode_ne st fun hd => h (congrArg _ hd)]
  | latchEdge k => cases c <;> cases k <;> rfl
  | latchFilter k => cases c <;> cases k <;> rfl
  | _ => cases c <;> rfl

theorem Settings.get_put_bank_ne (st : Settings) (b : BankId) (f : BankField) {m : SettingName}
    (h : m ≠ .bank b f) (v : Int) : (st.put (.bank b f) v).get m = st.get m := by
  cases m with
  | bank c g =>
    by_cases hc : c = b
    · subst hc
      simp only [Settings.put, Settings.get, Fin.getElem_fin, Vector.getElem_set_self]
      exact BankSettings.get_put_ne _ (fun hg => h (congrArg _ hg)) v
    · have hne : (b : Nat) ≠ (c : Nat) := fun hbc => hc (Fin.ext hbc.symm)
      simp only [Settings.put, Settings.get, Fin.getElem_fin, Vector.getElem_set_ne _ _ hne]
  | _ => rfl

theorem Settings.get_put_ne (st : Settings) {n m : SettingName} (h : m ≠ n) (v : Int) :
    (st.put n v).get m = st.get m := by
  cases n with
  | latchEdge l => exact st.get_put_latchEdge_ne l h v
  | latchFilter l => exact st.get_put_latchFilter_ne l h v
  | latchMode c => exact st.get_put_latchMode_ne c h v
  | bank b f => exact st.get_put_bank_ne b f h v
  | _ => exact st.get_put_ne_of_plain rfl h v

@[simp] theorem Settings.put_routes (st : Settings) (n : SettingName) (v : Int) :
    (st.put n v).routes = st.routes := by
  cases n with
  | latchEdge l => cases l <;> rfl
  | latchFilter l => cases l <;> rfl
  | latchMode c => cases c <;> rfl
  | _ => rfl

/-! ### Valid settings (R163) -/

theorem SettingName.mem_partSettings (n : SettingName) : n ∈ partSettings ∨ ∃ b f, n = .bank b f := by
  cases n with
  | bank b f => exact .inr ⟨b, f, rfl⟩
  | latchEdge l => cases l <;> exact .inl (by decide)
  | latchFilter l => cases l <;> exact .inl (by decide)
  | latchMode c => cases c <;> exact .inl (by decide)
  | _ => exact .inl (by decide)

theorem BankField.mem_bankFields (f : BankField) : f ∈ bankFields := by cases f <;> decide

/-- Settings are valid when every setting holds a value of its domain and every route is valid. -/
theorem Settings.valid_iff (st : Settings) : st.valid = true ↔
    (∀ n : SettingName, n.domain.holds (st.get n) = true) ∧ ∀ r ∈ st.routes.toList, r.valid = true := by
  unfold Settings.valid
  simp only [Bool.and_eq_true, List.all_eq_true]
  constructor
  · rintro ⟨⟨hpart, hbanks⟩, hroutes⟩
    refine ⟨fun n => ?_, hroutes⟩
    rcases n.mem_partSettings with hn | ⟨b, f, rfl⟩
    · exact hpart n hn
    · exact hbanks b (mem_allBanks b) f f.mem_bankFields
  · rintro ⟨hvalues, hroutes⟩
    exact ⟨⟨fun n _ => hvalues n, fun b _ f _ => hvalues (.bank b f)⟩, hroutes⟩

theorem Settings.valid_put {st : Settings} (hst : st.valid = true) {n : SettingName} {v : Int}
    (h : n.domain.holds v = true) : (st.put n v).valid = true := by
  rw [Settings.valid_iff] at *
  obtain ⟨hvalues, hroutes⟩ := hst
  refine ⟨fun m => ?_, by simpa using hroutes⟩
  by_cases hm : m = n
  · rw [hm, st.get_put n h]
    exact h
  · rw [st.get_put_ne hm]
    exact hvalues m

theorem Settings.valid_route {st : Settings} (hst : st.valid = true) (c : ClassCode) :
    st.routes[c].valid = true :=
  ((st.valid_iff).mp hst).2 _ (Vector.mem_toList_iff.mpr (Vector.getElem_mem _))

/-! ### What SET and WRITE take lies in its domain -/

/-- The bounds of a numeric domain are in order. -/
theorem SettingName.domain_ordered (n : SettingName) {lo hi : Int} (h : n.domain = .numeric lo hi) :
    lo ≤ hi := by
  cases n with
  | bank b f =>
    cases f with
    | openOrder => cases h
    | _ =>
      cases h
      decide
  | _ => first | (cases h; decide) | cases h

theorem clampInt_bounds {lo hi : Int} (h : lo ≤ hi) (v : Int) :
    lo ≤ clampInt lo hi v ∧ clampInt lo hi v ≤ hi := by
  unfold clampInt
  split
  · exact ⟨le_rfl, h⟩
  · split <;> omega

theorem Domain.holds_of_take {n : SettingName} {v w : Int} {clamped : Bool}
    (h : n.domain.take v = some (w, clamped)) : n.domain.holds w = true := by
  cases hd : n.domain with
  | codes k =>
    rw [hd] at h
    simp only [Domain.take] at h
    split at h
    · rename_i hv
      cases h
      exact decide_eq_true hv
    · cases h
  | numeric lo hi =>
    rw [hd] at h
    cases h
    exact decide_eq_true (clampInt_bounds (n.domain_ordered hd) v)

theorem clampNat_bounds {lo hi : Nat} (h : lo ≤ hi) (v : Nat) :
    lo ≤ clampNat lo hi v ∧ clampNat lo hi v ≤ hi := by
  unfold clampNat
  split
  · exact ⟨le_rfl, h⟩
  · split <;> omega

theorem Route.valid_clamped {r : Route} (h : r.clamped.dmin ≤ r.clamped.dmax) :
    r.clamped.valid = true := by
  have hdmin := clampNat_bounds (lo := 1) (hi := 200) (by decide) r.dmin
  have hdmax := clampNat_bounds (lo := 1) (hi := 200) (by decide) r.dmax
  have hlead := clampNat_bounds (lo := 0) (hi := 4095) (by decide) r.leadPad
  have hspan := clampNat_bounds (lo := 0) (hi := 3) (by decide) r.spanPad
  have hprecedence := clampNat_bounds (lo := 0) (hi := 7) (by decide) r.precedence
  have hconfidence := clampNat_bounds (lo := 0) (hi := 15) (by decide) r.minConfidence
  exact decide_eq_true
    ⟨hdmin.1, h, hdmax.2, hlead.2, hspan.2, hprecedence.2, hconfidence.2⟩

theorem Settings.valid_setRoute {st : Settings} (hst : st.valid = true) (n : Nat) {r : Route}
    (hr : r.valid = true) :
    ({ st with routes := st.routes.setIfInBounds n r } : Settings).valid = true := by
  rw [Settings.valid_iff] at *
  obtain ⟨hvalues, hroutes⟩ := hst
  refine ⟨fun m => ?_, fun q hq => ?_⟩
  · have := hvalues m
    cases m <;> exact this
  · rw [Vector.toList_setIfInBounds] at hq
    rcases List.mem_or_eq_of_mem_set hq with hq | rfl
    · exact hroutes q hq
    · exact hr

theorem Settings.get_setRoute (st : Settings) (n : Nat) (r : Route) (m : SettingName) :
    ({ st with routes := st.routes.setIfInBounds n r } : Settings).get m = st.get m := by
  cases m with
  | latchEdge l => cases l <;> rfl
  | latchFilter l => cases l <;> rfl
  | latchMode c => cases c <;> rfl
  | _ => rfl

theorem Settings.valid_default : ({} : Settings).valid = true := by decide

theorem State.goodCopy_valid {s : State} : (s.goodCopy.getD {}).valid = true := by
  unfold State.goodCopy
  split
  · split
    · rename_i h
      exact h
    · exact Settings.valid_default
  · exact Settings.valid_default

end Sys2Proof.Machine

/-!
SUPPORT. Every command keeps the laws of the whole part: the operations that reach beyond the plant, and one
lemma for each command whose meaning branches.
-/

namespace Sys2Proof.Machine

/-! ### Banks torn down (R58, R124) -/

/-- A state whose banks are empty, closed and without debt, and whose store is empty. -/
theorem PlantLaws.of_tornDown {A N : Prop} {s t : State} (hsteps : StoreSteps s t)
    (hrecords : t.store.records = [])
    (hbanks : ∀ b, (t.bank b).queue = [] ∧ (t.bank b).nozzles = noNozzleOpen ∧ (t.bank b).debt = 0 ∧
      (t.bank b).due = false)
    (hhealth : s.HealthKept → t.HealthKept)
    (hmax : s.DebtsKept → ∀ b, 1 ≤ (t.bankSettings b).maxDebt) : PlantLaws A N s t where
  steps := hsteps
  noNew := fun _ r hr => by simp [hrecords] at hr
  fire := fun _ _ b m => by
    obtain ⟨-, hclosed, -, -⟩ := hbanks b
    simp [State.nozzleOpen, hclosed, noNozzleOpen]
  closed := fun _ b => by
    obtain ⟨hqueue, hclosed, -, -⟩ := hbanks b
    unfold Bank.OutOfService
    cases (t.bank b).state <;> simp [hqueue, hclosed]
  debts := fun hs b => by
    obtain ⟨-, -, hdebt, hdue⟩ := hbanks b
    have hpos := hmax hs b
    refine ⟨hpos, by omega, ?_⟩
    simp only [hdue, hdebt]
    constructor
    · exact fun h => by cases h
    · omega
  queues := fun _ b => by simp [(hbanks b).1]
  health := hhealth
  tracked := fun _ _ b e he => by simp [(hbanks b).1] at he
  partsOpen := fun _ _ _ b e he => by simp [(hbanks b).1] at he

/-- A flush changes the store and the TRACK cursor alone (R58). -/
theorem State.flush_eq (s : State) : ∃ st k, s.flush = { s with store := st, cursors := k } := by
  have hfold : ∀ (l : List Record) (t : State), ∃ st,
      l.foldl (fun t r => t.modTally r.tallyClass fun k => { k with flushed := satInc k.flushed }) t =
        { t with store := st } := by
    intro l
    induction l with
    | nil => exact fun t => ⟨t.store, rfl⟩
    | cons r l ih =>
      intro t
      obtain ⟨st, h⟩ := ih (t.modTally r.tallyClass fun k => { k with flushed := satInc k.flushed })
      exact ⟨st, h⟩
  obtain ⟨st, h⟩ := hfold s.store.records s
  unfold State.flush
  dsimp only
  rw [h]
  exact ⟨_, _, rfl⟩

theorem State.bank_darkenBanks (s : State) (b : BankId) : s.darkenBanks.bank b = (s.bank b).darkened := by
  simp [State.bank, State.darkenBanks]

namespace PartLaws

variable {N S H U : Prop}

theorem enterHalted {s : State} (hhalted : ∀ cause, s.run ≠ .halted cause) (hsetup : U → s.run ≠ .setup)
    (cause : HaltCause) : PartLaws N S H U s (s.enterHalted cause) where
  plant := by
    obtain ⟨st, k, hflush⟩ := s.flush_eq
    refine .of_tornDown (.enterHalted s cause) rfl (fun b => ?_) (fun hs => ?_) fun hs b => ?_
    · have hbank : (s.enterHalted cause).bank b = (s.flush.bank b).darkened :=
        State.bank_darkenBanks _ b
      rw [hbank]
      exact ⟨rfl, rfl, rfl, rfl⟩
    · unfold State.enterHalted
      rw [hflush]
      exact hs
    · unfold State.enterHalted
      rw [hflush]
      exact (hs b).1
  side := by
    obtain ⟨st, k, hflush⟩ := s.flush_eq
    unfold State.enterHalted
    rw [hflush]
    exact
      { pending := rfl
        latches := fun _ c => by cases c <;> exact Nat.zero_le _
        link := id
        lowTest := id
        flags := id
        settings := id
        setupOnly := fun _ _ _ => rfl
        halted := fun _ c hc => absurd hc (hhalted c)
        setup := fun hu hs => absurd hs (hsetup hu) }

/-- The halt requests of the limits and of the supply logic come in CONDITIONING, RUN and DRAIN (R158). -/
theorem haltRequest (s : State) (cause : HaltCause) : PartLaws N S H U s (s.haltRequest cause) := by
  have hentry : (∀ c, s.run ≠ .halted c) → s.run ≠ .setup → PartLaws N S H U s (s.enterHalted cause) :=
    fun hhalted hsetup => enterHalted hhalted (fun _ => hsetup) cause
  unfold State.haltRequest
  cases hrun : s.run with
  | setup => exact refl s
  | halted c => exact refl s
  | conditioning => exact hentry (by simp [hrun]) (by simp [hrun])
  | run => exact hentry (by simp [hrun]) (by simp [hrun])
  | drain => exact hentry (by simp [hrun]) (by simp [hrun])

theorem limitCrossed (s : State) (cause : HaltCause) : PartLaws N S H U s (s.limitCrossed cause) := by
  unfold State.limitCrossed
  split
  · exact refl s
  · exact refl s
  · exact haltRequest s cause

/-! ### The belt (chapter 1) -/

/-- The belt changes alone. -/
theorem setBelt (s : State) (b : Belt) : PartLaws N S H U s { s with belt := b } :=
  of_aside (.of_parts s _ _ _ _ _ _ _ _)

theorem atTime (s : State) (time : Time) : PartLaws N S H U s (s.atTime time) :=
  of_aside (.of_parts s _ _ _ _ _ _ _ _)

theorem reverseTest (s : State) (forward : Bool) : PartLaws N S H U s (s.reverseTest forward) := by
  unfold State.reverseTest
  split
  · split
    · exact setBelt s _
    · exact refl s
  · split
    · exact ((setBelt s _).trans (of_aside (.setFlag _ (by decide)))).trans (limitCrossed _ _)
    · exact refl s

theorem handCount (s : State) (forward : Bool) (coils : Coils) :
    PartLaws N S H U s (s.handCount forward coils) := by
  refine of_plant (.handCount s forward coils) ?_
  unfold State.handCount
  refine PlantLaws.trans (PlantLaws.trans ((PlantLaws.horizonAll s).trans (.retireAll _)) ?_)
    (.purgeTests _ coils)
  split
  · exact .foldl (PlantLaws.triggerTest coils) _ _
  · exact .refl _

theorem count (s : State) (forward : Bool) (coils : Coils) :
    PartLaws N S H U s (s.count forward coils) := by
  unfold State.count State.beltCount
  exact ((setBelt s _).trans (reverseTest _ forward)).trans (handCount _ forward coils)

theorem overspeedTest (s : State) : PartLaws N S H U s s.overspeedTest := by
  unfold State.overspeedTest
  split
  · exact refl s
  · split
    · split
      · exact setBelt s _
      · exact refl s
    · split
      · exact ((setBelt s _).trans (of_aside (.setFlag _ (by decide)))).trans (limitCrossed _ _)
      · exact refl s

theorem purgeTests (s : State) (coils : Coils) : PartLaws N S H U s (s.purgeTests coils) :=
  of_plant (.purgeTests s coils) (.purgeTests s coils)

theorem purgeTest (coils : Coils) (s : State) (b : BankId) :
    PartLaws N S H U s (State.purgeTest coils s b) :=
  of_plant (.purgeTest coils s b) (.purgeTest coils s b)

end PartLaws

/-! ### Latches (chapter 2) -/

namespace Aside

theorem setLatchCursor (s : State) (c : Channel) (v : Cursor) : Aside s (s.setLatchCursor c v) :=
  of_parts s _ _ _ _ _ _ _ _

theorem setCursors (s : State) (c : Cursors) : Aside s { s with cursors := c } :=
  of_parts s _ _ _ _ _ _ _ _

theorem popOldest (s : State) (c : Channel) : Aside s (s.popOldest c) := by
  unfold State.popOldest
  split
  · exact refl s
  · rename_i e rest hfifo
    refine (modLatch s c fun h => ?_).trans (setLatchCursor _ _ _)
    rw [hfifo, List.length_cons] at h
    show rest.length ≤ c.depth
    omega

theorem removeUnreported (s : State) (c : Channel) : Aside s (s.removeUnreported c) := by
  unfold State.removeUnreported
  have hcounted : Aside (s.popOldest c)
      ((s.popOldest c).modGlobals fun g => { g with unreported := satInc g.unreported }) :=
    modGlobals _ fun _ => rfl
  refine ((popOldest s c).trans hcounted).trans (setFlag? _ ?_)
  cases c <;> decide

theorem removeOldest (c : Channel) (n : Nat) (s : State) : Aside s (s.removeOldest c n) := by
  induction n generalizing s with
  | zero => exact refl s
  | succ n ih => exact (removeUnreported s c).trans (ih _)

theorem makeRoom (s : State) (c : Channel) : Aside s (s.makeRoom c) := by
  have hhead : Aside s (if Config.headFifoDepth ≤ (s.latch c).fifo.length then
      (s.removeUnreported c).setFlag? (overrunFlag c) else s) := by
    split
    · refine (removeUnreported s c).trans (setFlag? _ ?_)
      cases c <;> decide
    · exact refl s
  unfold State.makeRoom
  cases c with
  | sa => exact hhead
  | sb => exact hhead
  | bm => exact popOldest s .bm
  | mx => exact popOldest s .mx

end Aside

theorem State.fifo_popOldest (s : State) (c : Channel) :
    ((s.popOldest c).latch c).fifo = (s.latch c).fifo.tail := by
  obtain ⟨k, h⟩ := s.popOldest_eq c
  rw [h]
  simp [State.latch, State.setLatch]

theorem State.fifo_setFlag? (s : State) (f : Option Flag) (c : Channel) :
    (s.setFlag? f).latch c = s.latch c := by
  cases f <;> rfl

theorem State.fifo_removeUnreported (s : State) (c : Channel) :
    ((s.removeUnreported c).latch c).fifo = (s.latch c).fifo.tail := by
  unfold State.removeUnreported
  rw [State.fifo_setFlag?]
  exact s.fifo_popOldest c

/-- A capture finds room for its entry (R27). -/
theorem State.length_makeRoom {s : State} {c : Channel} (h : (s.latch c).fifo.length ≤ c.depth) :
    ((s.makeRoom c).latch c).fifo.length + 1 ≤ c.depth := by
  have hhead : c.depth = 16 → ((if Config.headFifoDepth ≤ (s.latch c).fifo.length then
      (s.removeUnreported c).setFlag? (overrunFlag c) else s).latch c).fifo.length + 1 ≤ c.depth := by
    intro hc
    rw [hc] at h ⊢
    split
    · rw [State.fifo_setFlag?, State.fifo_removeUnreported, List.length_tail]
      omega
    · rename_i hroom
      have : ¬16 ≤ (s.latch c).fifo.length := hroom
      omega
  have hsingle : c.depth = 1 → ((s.popOldest c).latch c).fifo.length + 1 ≤ c.depth := by
    intro hc
    rw [State.fifo_popOldest, List.length_tail]
    omega
  unfold State.makeRoom
  cases c with
  | sa => exact hhead rfl
  | sb => exact hhead rfl
  | bm => exact hsingle rfl
  | mx => exact hsingle rfl

theorem Aside.capture (s : State) (c : Channel) (position : Pos) (time : Time) :
    Aside s (s.capture c position time) := by
  rw [State.capture_eq]
  refine ⟨(StoreSteps.makeRoom s c).trans (.of_store rfl), (Aside.makeRoom s c).records,
    (Aside.makeRoom s c).banks, (Aside.makeRoom s c).health, (Aside.makeRoom s c).fireEnable,
    (Aside.makeRoom s c).settings, (Aside.makeRoom s c).run, (Aside.makeRoom s c).pending,
    (Aside.makeRoom s c).testing, (Aside.makeRoom s c).lowRun, (Aside.makeRoom s c).carried,
    (Aside.makeRoom s c).pressureLow, fun hs d => ?_, (Aside.makeRoom s c).link⟩
  by_cases hd : d = c
  · subst hd
    simp only [State.modLatch, State.latch, State.setLatch, Latches.get_put, List.length_append,
      List.length_singleton]
    exact State.length_makeRoom (hs d)
  · simp only [State.modLatch, State.latch, State.setLatch, Latches.get_put_ne _ _ hd]
    exact (Aside.makeRoom s c).latches hs d

namespace PartLaws

variable {N S H U : Prop}

theorem slipCheck (s : State) (loop : Int) : PartLaws N S H U s (s.slipCheck loop) := by
  unfold State.slipCheck
  split
  · exact refl s
  · split
    · exact (setBelt s _).trans (of_aside (.setFlag _ (by decide)))
    · exact setBelt s _

theorem markCapture (s : State) (position : Pos) : PartLaws N S H U s (s.markCapture position) := by
  unfold State.markCapture
  split
  · exact setBelt s _
  · exact (setBelt s _).trans (slipCheck _ _)

theorem lineCapture (s : State) (line : Line) (position : Pos) (time : Time) :
    PartLaws N S H U s (s.lineCapture line position time) := by
  have hcaptured : PartLaws N S H U s (s.capture (channelOfLine line) position time) :=
    of_aside (.capture s _ position time)
  unfold State.lineCapture
  dsimp only
  cases line with
  | sa => exact hcaptured
  | sb => exact hcaptured
  | bm =>
    dsimp only
    split
    · exact hcaptured.trans (markCapture _ position)
    · exact hcaptured

/-! ### Heads (2.5, 2.6, 3.2, 3.3) -/

theorem modHead (s : State) (h : Head) (f : HeadStatus → HeadStatus) :
    PartLaws N S H U s (s.modHead h f) := of_aside (.of_parts s _ _ _ _ _ _ _ _)

theorem setFlag (s : State) {f : Flag} (hf : f ≠ .pressureLow) : PartLaws N S H U s (s.setFlag f) :=
  of_aside (.setFlag s hf)

theorem joiningLost (s : State) (coils : Coils) : PartLaws N S H U s (s.joiningLost coils) := by
  refine of_plant (.joiningLost s coils) ?_
  unfold State.joiningLost
  split
  · exact (PlantLaws.resolveJoining s).trans (.purgeTests _ coils)
  · exact .refl s

theorem headLost (s : State) (h : Head) (coils : Coils) : PartLaws N S H U s (s.headLost h coils) := by
  unfold State.headLost
  split
  · cases h with
    | a => exact (modHead s .a _).trans (setFlag _ (by decide))
    | b => exact ((modHead s .b _).trans (setFlag _ (by decide))).trans (joiningLost _ coils)
  · exact refl s

theorem takeHeadState (s : State) (h : Head) (payload : List Byte) (coils : Coils) :
    PartLaws N S H U s (s.takeHeadState h payload coils) := by
  unfold State.takeHeadState
  split
  · dsimp only
    split
    · exact (modHead s h _).trans (modHead _ h _)
    · exact (modHead s h _).trans (headLost _ h coils)
  · exact modHead s h _

end PartLaws

theorem State.joining_of_joinChoice {s : State} {p : HeadPart} {pArrB : Pos} {r : Record}
    (h : s.joinChoice p pArrB = some r) : r.state = .joining := by
  unfold State.joinChoice at h
  split at h
  · cases h
  · rename_i x rest hcandidates
    have hmem := foldl_betterCandidate_mem pArrB rest x
    rw [Option.some.inj h, ← hcandidates] at hmem
    have hcandidate := (List.mem_filter.mp hmem).2
    simp only [State.candidate, Bool.and_eq_true, decide_eq_true_eq] at hcandidate
    exact hcandidate.1.1

namespace PartLaws

variable {N S H U : Prop}

theorem handReport {s : State} (hN : N → s.run ≠ .run) (h : Head) (p : HeadPart) (coils : Coils) :
    PartLaws N S H U s (s.handReport h p coils) := by
  refine of_plant (.handReport s h p coils) ?_
  unfold State.handReport
  split
  · rename_i hrun
    have hnone : N → False := fun n => hN n hrun
    cases h with
    | a =>
      refine PlantLaws.mono (A := True) (N := False) (PlantLaws.createOrDrop (fun id born => ?_) p coils) id
        hnone
      dsimp only
      split <;> rfl
    | b =>
      dsimp only [State.reportB]
      split
      · rename_i r hchosen
        exact .join (State.mem_of_joinChoice hchosen) (State.joining_of_joinChoice hchosen) p _ coils
      · exact PlantLaws.mono (PlantLaws.createOrDrop (fun id born => rfl) p coils) id hnone
  · exact .refl s

theorem bind {s : State} (hN : N → s.run ≠ .run) (h : Head) (r : ReportFields) (coils : Coils) :
    PartLaws N S H U s (s.bind h r coils) := by
  rcases s.bind_cases h r coils with hbind | ⟨n, p, hbind⟩
  · rw [hbind]
    exact setFlag s (by cases h <;> decide)
  · rw [hbind]
    have hremoved := (Aside.removeOldest (channelOfLine (lineOfHead h)) n s).trans
      (.popOldest _ (channelOfLine (lineOfHead h)))
    refine PartLaws.trans (of_aside hremoved) (handReport (fun hn => ?_) h p coils)
    rw [hremoved.run]
    exact hN hn

theorem takeReport {s : State} (hN : N → s.run ≠ .run) (h : Head) (payload : List Byte) (coils : Coils) :
    PartLaws N S H U s (s.takeReport h payload coils) := by
  unfold State.takeReport
  split
  · dsimp only
    have hflagged := Aside.setFlagIf (s.restartSilence h)
      (decide (readReport payload ≠ (readReport payload).clamped)) (f := .reportClamped) (by decide)
    refine ((modHead s h _).trans (of_aside hflagged)).trans (bind (fun hn => ?_) h _ coils)
    rw [hflagged.run]
    exact hN hn
  · exact modHead s h _

/-! ### The link (chapter 10) -/

theorem frameError (s : State) (h : Head) : PartLaws N S H U s (s.frameError h) := modHead s h _

theorem setReceiver (s : State) (p : Port) (r : Receiver) : PartLaws N S H U s (s.setReceiver p r) := by
  refine of_aside (.setLink s fun hs => ?_)
  split <;> exact hs

theorem acceptRequest (s : State) (f : Frame) : PartLaws N S H U s (s.acceptRequest f) := by
  unfold State.acceptRequest
  split
  · rename_i hroom
    have hroom : s.link.requests.length < 2 := hroom
    refine of_aside (.setLink s fun hs => ⟨?_, hs.2⟩)
    simp only [List.length_append, List.length_singleton]
    omega
  · exact setFlag s (by decide)

theorem frameFault (s : State) (p : Port) : PartLaws N S H U s (s.frameFault p) := by
  cases p with
  | control => exact (setReceiver s .control {}).trans (setFlag _ (by decide))
  | head h => exact (setReceiver s (.head h) {}).trans (frameError _ h)

theorem acceptFrame {s : State} (hN : N → s.run ≠ .run) (p : Port) (f : Frame) (coils : Coils) :
    PartLaws N S H U s (s.acceptFrame p f coils) := by
  unfold State.acceptFrame
  refine (setReceiver s p {}).trans ?_
  cases p with
  | control => exact acceptRequest _ f
  | head h =>
    dsimp only
    split
    · exact takeReport (s := s.setReceiver (.head h) {}) hN h f.payload coils
    · split
      · exact takeHeadState _ h f.payload coils
      · exact frameError _ h

/-! ### The supply (8.1) -/

/-- The third low sample stops the low test and sets PRESSURE_LOW at once (R140). -/
theorem stopLowTest (s : State) : PartLaws N S H U s
    (({ s with supply := { s.supply with lowRun := 0, testing := false } } : State).setFlag
      .pressureLow) where
  plant := .of_same (.of_store rfl) rfl rfl rfl rfl rfl
  side :=
    { pending := rfl
      latches := id
      link := id
      lowTest := fun _ => by
        unfold State.LowTestKept
        rw [State.flag_setFlag]
        simp
      flags := fun hs => by
        rw [State.flagsCarried_iff] at *
        intro i hi
        simp only [State.setFlag, BitVec.getLsbD_or, Bool.or_eq_true] at hi
        rcases hi with hi | hi
        · exact hs i hi
        · simp only [Flag.mask, BitVec.getLsbD_twoPow, Bool.and_eq_true, decide_eq_true_eq] at hi
          have : Flag.pressureLow.position = 17 := rfl
          omega
      settings := id
      setupOnly := fun _ _ _ => rfl
      halted := fun _ _ h => h
      setup := fun _ h => h }

/-- The low run changes while the low test runs. -/
theorem setLowRun (s : State) {n : Nat} (hn : s.supply.lowRun ≤ 2 → n ≤ 2) :
    PartLaws N S H U s { s with supply := { s.supply with lowRun := n } } where
  plant := .of_same (.of_store rfl) rfl rfl rfl rfl rfl
  side :=
    { pending := rfl
      latches := id
      link := id
      lowTest := fun hs => ⟨hs.1, hn hs.2⟩
      flags := id
      settings := id
      setupOnly := fun _ _ _ => rfl
      halted := fun _ _ h => h
      setup := fun _ h => h }

theorem pressureLow (s : State) : PartLaws N S H U s
    (({ s with supply := { s.supply with lowRun := 0, testing := false } } : State).pressureLow) := by
  unfold State.pressureLow
  split
  · exact stopLowTest s
  · exact stopLowTest s
  · exact (stopLowTest s).trans (haltRequest _ _)

theorem lowTest (s : State) (reading : Nat) : PartLaws N S H U s (s.lowTest reading) := by
  unfold State.lowTest
  split
  · split
    · split
      · exact setLowRun s fun _ => by omega
      · exact pressureLow s
    · exact setLowRun s fun _ => Nat.zero_le 2
  · exact refl s

/-- CLEAR-FLAGS restarts the low test when it clears PRESSURE_LOW (R141, R179). -/
theorem clearFlagsOf (s : State) (mask : FlagMask) : PartLaws N S H U s (s.clearFlagsOf mask) := by
  have hclear : ∀ i, (s.flags &&& ~~~mask).getLsbD i = true → s.flags.getLsbD i = true := fun i hi => by
    simp only [BitVec.getLsbD_and, Bool.and_eq_true] at hi
    exact hi.1
  have hcarried : s.FlagsCarried → ∀ i, (s.flags &&& ~~~mask).getLsbD i = true → i < 24 := fun hs i hi =>
    s.flagsCarried_iff.mp hs i (hclear i hi)
  unfold State.clearFlagsOf
  dsimp only
  split
  · rename_i hended
    exact
      { plant := .of_same (.of_store rfl) rfl rfl rfl rfl rfl
        side :=
          { pending := rfl
            latches := id
            link := id
            lowTest := fun _ => ⟨(congrArg not hended.2).symm, Nat.zero_le 2⟩
            flags := fun hs => (State.flagsCarried_iff _).mpr (hcarried hs)
            settings := id
            setupOnly := fun _ _ _ => rfl
            halted := fun _ _ h => h
            setup := fun _ h => h } }
  · rename_i hsame
    exact
      { plant := .of_same (.of_store rfl) rfl rfl rfl rfl rfl
        side :=
          { pending := rfl
            latches := id
            link := id
            lowTest := fun hs => by
              have hflag : State.flag { s with flags := s.flags &&& ~~~mask } .pressureLow =
                  s.flag .pressureLow := by
                cases hold : s.flag .pressureLow with
                | true => exact Bool.eq_true_of_not_eq_false fun h => hsame ⟨hold, h⟩
                | false =>
                  refine Bool.eq_false_iff.mpr fun h => ?_
                  have hset : s.flag .pressureLow = true := hclear _ h
                  simp [hold] at hset
              exact ⟨hs.1.trans (congrArg not hflag.symm), hs.2⟩
            flags := fun hs => (State.flagsCarried_iff _).mpr (hcarried hs)
            settings := id
            setupOnly := fun _ _ _ => rfl
            halted := fun _ _ h => h
            setup := fun _ h => h } }

/-! ### The run state (chapter 9) -/

/-- The run state alone changes. -/
theorem setRun {s : State} {r : RunState}
    (hH : H → ∀ cause, s.run = .halted cause → r = .halted cause)
    (hU : U → s.run = .setup → r = .setup) : PartLaws N S H U s { s with run := r } where
  plant := .of_same (.of_store rfl) rfl rfl rfl rfl rfl
  side :=
    { pending := rfl
      latches := id
      link := id
      lowTest := id
      flags := id
      settings := id
      setupOnly := fun _ _ _ => rfl
      halted := hH
      setup := hU }

end PartLaws

/-! ### The warm reset (R161) -/

section WarmReset

variable (s : State)

theorem State.warmReset_bank (b : BankId) : s.warmReset.bank b = (s.bank b).darkened := by
  simp [State.bank, State.warmReset, State.darkenBanks]

theorem State.warmReset_flags : s.warmReset.flags = s.flags &&& Flag.powerUp.mask := by
  simp only [State.warmReset, State.darkenBanks]

theorem State.warmReset_store : s.warmReset.store = {} := by simp only [State.warmReset]

theorem State.warmReset_latches : s.warmReset.latches = {} := by simp only [State.warmReset]

theorem State.warmReset_run : s.warmReset.run = .setup := by simp only [State.warmReset]

theorem State.warmReset_health : s.warmReset.health = s.health := by
  simp only [State.warmReset, State.darkenBanks]

theorem State.warmReset_settings : s.warmReset.settings = s.settings := by
  simp only [State.warmReset, State.darkenBanks]

theorem State.warmReset_pending : s.warmReset.pending = s.pending := by
  simp only [State.warmReset, State.darkenBanks]

theorem State.warmReset_link : s.warmReset.link = s.link.reset := by
  simp only [State.warmReset, State.darkenBanks]

theorem State.warmReset_supply :
    s.warmReset.supply = { s.supply with testing := true, lowRun := 0 } := by
  simp only [State.warmReset, State.darkenBanks]

end WarmReset

namespace PartLaws

variable {N S H U : Prop}

theorem warmReset {s : State} (hH : ¬H) : PartLaws N S H U s s.warmReset where
  plant := by
    refine .of_tornDown (.of_move ?_) ?_ (fun b => ?_) (fun hs n => ?_) fun hs b => ?_
    · rw [State.warmReset_store]
      exact .reset s.store
    · rw [State.warmReset_store]
    · rw [State.warmReset_bank]
      exact ⟨rfl, rfl, rfl, rfl⟩
    · unfold State.nozzle
      rw [State.warmReset_health]
      exact hs n
    · unfold State.bankSettings
      rw [State.warmReset_settings]
      exact (hs b).1
  side :=
    { pending := s.warmReset_pending
      latches := fun _ c => by
        unfold State.latch
        rw [State.warmReset_latches]
        cases c <;> exact Nat.zero_le _
      link := fun _ => by
        unfold State.LinkFits
        rw [State.warmReset_link]
        exact ⟨Nat.zero_le 2, Nat.zero_le 8⟩
      lowTest := fun _ => by
        have hclear : s.warmReset.flag .pressureLow = false := by
          unfold State.flag
          rw [State.warmReset_flags, BitVec.getLsbD_and,
            show Flag.powerUp.mask.getLsbD Flag.pressureLow.position = false by decide, Bool.and_false]
        unfold State.LowTestKept
        rw [hclear, State.warmReset_supply]
        exact ⟨rfl, Nat.zero_le 2⟩
      flags := fun hs => by
        rw [State.flagsCarried_iff] at *
        intro i hi
        rw [State.warmReset_flags, BitVec.getLsbD_and, Bool.and_eq_true] at hi
        exact hs i hi.1
      settings := fun hs => by rwa [State.warmReset_settings]
      setupOnly := fun _ _ _ => by rw [State.warmReset_settings]
      halted := fun h => absurd h hH
      setup := fun _ _ => s.warmReset_run }

end PartLaws

end Sys2Proof.Machine

/-!
SUPPORT. A fall of FIRE-ENABLE (R118): what it can make of a bank, and what it leaves of one it has cut.
-/

namespace Sys2Proof.Machine

/-- A bank's state may follow another at a fall: it stands, is cut, or an IDLE bank switches (R116, R118). -/
def BankState.CutsTo (recharged : Time) (a b : BankState) : Prop :=
  b = a ∨ b = a.cut recharged ∨ (a = .idle ∧ ∃ target ends, b = .switching target ends)

theorem BankState.cut_cut (a : BankState) (recharged : Time) :
    (a.cut recharged).cut recharged = a.cut recharged := by cases a <;> rfl

theorem BankState.CutsTo.trans {recharged : Time} {a b c : BankState} (h : a.CutsTo recharged b)
    (k : b.CutsTo recharged c) : a.CutsTo recharged c := by
  rcases h with rfl | rfl | ⟨rfl, target, ends, rfl⟩
  · exact k
  · rcases k with rfl | rfl | ⟨hidle, hswitch⟩
    · exact .inr (.inl rfl)
    · exact .inr (.inl (a.cut_cut recharged))
    · refine .inr (.inr ⟨?_, hswitch⟩)
      cases a <;> simp [BankState.cut] at hidle ⊢
  · rcases k with rfl | rfl | ⟨hidle, -⟩
    · exact .inr (.inr ⟨rfl, target, ends, rfl⟩)
    · exact .inr (.inr ⟨rfl, target, ends, rfl⟩)
    · cases hidle

/-- `v` may follow `k` in a bank at a fall of FIRE-ENABLE. -/
structure Bank.CutsTo (recharged : Time) (k v : Bank) : Prop where
  level : v.level = k.level
  debt : v.debt = k.debt
  queue : v.queue.Sublist k.queue
  nozzles : ∀ m : Member, v.nozzles[m].isSome = true → k.nozzles[m].isSome = true
  state : k.state.CutsTo recharged v.state

namespace Bank.CutsTo

variable {recharged : Time}

theorem refl (k : Bank) : CutsTo recharged k k := ⟨rfl, rfl, .refl _, fun _ h => h, .inl rfl⟩

theorem trans {j k v : Bank} (h : CutsTo recharged j k) (g : CutsTo recharged k v) :
    CutsTo recharged j v where
  level := g.level.trans h.level
  debt := g.debt.trans h.debt
  queue := g.queue.trans h.queue
  nozzles := fun m x => h.nozzles m (g.nozzles m x)
  state := h.state.trans g.state

theorem of_dropped {k v : Bank} (h : Bank.Dropped recharged k v) : CutsTo recharged k v where
  level := h.level
  debt := h.debt
  queue := h.queue
  nozzles := h.nozzles
  state := by
    rcases h.state with hv | ⟨hk, hv⟩
    · exact .inl hv
    · refine .inr (.inl ?_)
      rw [hv, hk]
      rfl

end Bank.CutsTo

/-- What a fall of FIRE-ENABLE can change of the banks. -/
structure CutSide (s t : State) : Prop where
  timeBase : t.timeBase = s.timeBase
  settings : t.settings = s.settings
  bank : ∀ b, Bank.CutsTo (s.recharged b) (s.bank b) (t.bank b)

namespace CutSide

theorem of_banks {s t : State} (ht : t.timeBase = s.timeBase) (hs : t.settings = s.settings)
    (hb : t.banks = s.banks) : CutSide s t :=
  ⟨ht, hs, fun b => State.bank_of_banks hb b ▸ .refl _⟩

theorem refl (s : State) : CutSide s s := of_banks rfl rfl rfl

theorem trans {s t u : State} (h : CutSide s t) (k : CutSide t u) : CutSide s u where
  timeBase := k.timeBase.trans h.timeBase
  settings := k.settings.trans h.settings
  bank := fun b => (h.bank b).trans (State.recharged_of_eq h.timeBase h.settings b ▸ k.bank b)

theorem foldl {α : Type} {f : State → α → State} (h : ∀ t a, CutSide t (f t a)) (l : List α)
    (s : State) : CutSide s (l.foldl f s) := by
  induction l generalizing s with
  | nil => exact refl s
  | cons a l ih => exact (h s a).trans (ih (f s a))

theorem of_storeSide {s t : State} (h : StoreSide s t) : CutSide s t :=
  ⟨h.timeBase, h.settings, fun b => .of_dropped (h.bank b)⟩

theorem modBank {s : State} {b : BankId} {f : Bank → Bank}
    (h : Bank.CutsTo (s.recharged b) (s.bank b) (f (s.bank b))) : CutSide s (s.modBank b f) := by
  refine ⟨rfl, rfl, fun c => ?_⟩
  rw [State.bank_modBank_eq]
  split
  · rename_i hc
    subst hc
    exact h
  · exact .refl _

theorem setFlagIf (s : State) (c : Bool) (f : Flag) : CutSide s (s.setFlagIf c f) := by
  cases c with
  | true => exact of_banks (s := s) (t := s.setFlag f) rfl rfl rfl
  | false => exact refl s

theorem removeEntry (s : State) (b : BankId) (id : TrackId) : CutSide s (s.removeEntry b id) := by
  have hleft : CutSide s
      (s.modBank b fun k => { k with queue := k.queue.filter fun e => decide (e.track ≠ id) }) :=
    modBank ⟨rfl, rfl, List.filter_sublist, fun _ h => h, .inl rfl⟩
  exact hleft.trans (of_banks rfl rfl rfl)

theorem finishEntry (s : State) (b : BankId) (id : TrackId) (result : PartResult) :
    CutSide s (s.finishEntry b id result) :=
  (removeEntry s b id).trans (of_storeSide (.reportPart _ _ _ _ _))

theorem loseEntry (s : State) (b : BankId) (id : TrackId) (cause : Cause) :
    CutSide s (s.loseEntry b id cause) := (finishEntry _ _ _ _).trans (setFlagIf _ _ _)

theorem cutEntry (b : BankId) (s : State) (e : Entry) : CutSide s (State.cutEntry b s e) := by
  unfold State.cutEntry
  split
  · exact refl s
  · exact loseEntry _ _ _ _
  · split
    · exact loseEntry _ _ _ _
    · exact finishEntry _ _ _ _

theorem headTest (s : State) (b : BankId) : CutSide s (s.headTest b) := by
  unfold State.headTest
  split
  · rename_i hidle
    split
    · exact modBank ⟨rfl, rfl, .refl _, fun _ h => h, .inr (.inr ⟨hidle, _, _, rfl⟩)⟩
    · exact refl s
  · exact refl s

theorem cutNozzles (s : State) (b : BankId) : CutSide s
    (s.modBank b fun k => { k with nozzles := noNozzleOpen, state := k.state.cut (s.recharged b) }) :=
  modBank ⟨rfl, rfl, .refl _, fun m h => by simp [noNozzleOpen] at h, .inr (.inl rfl)⟩

theorem cutBank (s : State) (b : BankId) : CutSide s (s.cutBank b) :=
  ((cutNozzles s b).trans (foldl (cutEntry b) _ _)).trans (headTest _ b)

end CutSide

/-! ### A bank that has been cut -/

/-- A bank as a fall of FIRE-ENABLE leaves it: closed, with WAITING entries alone, and in no state that a
fall ends (R118). -/
structure Bank.IsCut (recharged : Time) (k : Bank) : Prop where
  nozzles : ∀ m : Member, k.nozzles[m].isSome = false
  waiting : ∀ e ∈ k.queue, e.state = .waiting
  state : k.state.cut recharged = k.state

theorem Bank.IsCut.cutsTo {recharged : Time} {k v : Bank} (h : k.IsCut recharged)
    (hv : Bank.CutsTo recharged k v) : v.IsCut recharged where
  nozzles := fun m => Bool.eq_false_iff.mpr fun hm => by
    have := hv.nozzles m hm
    rw [h.nozzles m] at this
    cases this
  waiting := fun e he => h.waiting e (hv.queue.subset he)
  state := by
    rcases hv.state with heq | heq | ⟨-, target, ends, heq⟩
    · rw [heq, h.state]
    · rw [heq, h.state, h.state]
    · rw [heq]
      rfl

/-- An entry that is lost or finished has left its queue (R102). -/
theorem State.finishEntry_gone (s : State) (b : BankId) (id : TrackId) (result : PartResult) :
    ∀ e ∈ ((s.finishEntry b id result).bank b).queue, e.track ≠ id := by
  intro e he
  have hsub := ((StoreSide.reportPart (s.removeEntry b id) id b result none).bank b).queue.subset he
  unfold State.removeEntry at hsub
  rw [State.bank_setPulsesCursor, State.bank_modBank] at hsub
  simpa using (List.mem_filter.mp hsub).2

@[simp] theorem State.bank_setFlagIf (s : State) (c : Bool) (f : Flag) (b : BankId) :
    (s.setFlagIf c f).bank b = s.bank b := by
  unfold State.setFlagIf
  split <;> rfl

theorem State.cutEntry_gone {s : State} {b : BankId} {e : Entry} (h : e.state ≠ .waiting) :
    ∀ x ∈ ((State.cutEntry b s e).bank b).queue, x.track ≠ e.track := by
  unfold State.cutEntry
  split
  · rename_i hwaiting
    exact absurd hwaiting h
  · unfold State.loseEntry
    rw [State.bank_setFlagIf]
    exact s.finishEntry_gone b _ _
  · split
    · unfold State.loseEntry
      rw [State.bank_setFlagIf]
      exact s.finishEntry_gone b _ _
    · exact s.finishEntry_gone b _ _

/-- The entries that a fall cuts have left the queue when it has dealt with them all. -/
theorem State.foldl_cutEntry_gone {b : BankId} {l : List Entry} (hl : ∀ e ∈ l, e.state ≠ .waiting)
    (s : State) : ∀ e ∈ l, ∀ x ∈ ((l.foldl (State.cutEntry b) s).bank b).queue, x.track ≠ e.track := by
  induction l generalizing s with
  | nil => simp
  | cons a l ih =>
    intro e he x hx
    rw [List.foldl_cons] at hx
    rcases List.mem_cons.mp he with rfl | he
    · have hsub := ((CutSide.foldl (CutSide.cutEntry b) l (State.cutEntry b s e)).bank b).queue.subset hx
      exact State.cutEntry_gone (hl e List.mem_cons_self) x hsub
    · exact ih (fun e he => hl e (List.mem_cons_of_mem _ he)) _ e he x hx

theorem State.cutBank_isCut (s : State) (b : BankId) :
    ((s.cutBank b).bank b).IsCut (s.recharged b) := by
  have hcut := CutSide.cutNozzles s b
  have hgone := State.foldl_cutEntry_gone (b := b)
    (l := (s.bank b).queue.filter fun e => decide (e.state ≠ .waiting))
    (fun e he => by simpa using (List.mem_filter.mp he).2)
    (s.modBank b fun k => { k with nozzles := noNozzleOpen, state := k.state.cut (s.recharged b) })
  have hentries := CutSide.foldl (CutSide.cutEntry b)
    ((s.bank b).queue.filter fun e => decide (e.state ≠ .waiting))
    (s.modBank b fun k => { k with nozzles := noNozzleOpen, state := k.state.cut (s.recharged b) })
  have hend : s.cutBank b = (((s.bank b).queue.filter fun e => decide (e.state ≠ .waiting)).foldl
    (State.cutEntry b) (s.modBank b fun k =>
      { k with nozzles := noNozzleOpen, state := k.state.cut (s.recharged b) })).headTest b := rfl
  rw [hend]
  generalize hfold : ((s.bank b).queue.filter fun e => decide (e.state ≠ .waiting)).foldl
    (State.cutEntry b) _ = t at hgone hentries
  have hrecharged : t.recharged b = s.recharged b :=
    State.recharged_of_eq (hentries.timeBase.trans hcut.timeBase) (hentries.settings.trans hcut.settings) b
  have hcutbank := hentries.bank b
  rw [State.bank_modBank, State.recharged_of_eq hcut.timeBase hcut.settings] at hcutbank
  have ht : (t.bank b).IsCut (s.recharged b) :=
    { nozzles := fun m => Bool.eq_false_iff.mpr fun hm => by
        have := hcutbank.nozzles m hm
        simp [noNozzleOpen] at this
      waiting := fun e he => by
        by_contra hnot
        have hmem : e ∈ (s.bank b).queue := hcutbank.queue.subset he
        exact hgone e (List.mem_filter.mpr ⟨hmem, by simpa using hnot⟩) e he rfl
      state := by
        rcases hcutbank.state with heq | heq | ⟨-, target, ends, heq⟩
        · rw [heq, BankState.cut_cut]
        · rw [heq, BankState.cut_cut]
        · rw [heq]
          rfl }
  exact ht.cutsTo (hrecharged ▸ (CutSide.headTest t b).bank b)

/-- Every bank that a fall has visited is cut. -/
theorem State.foldl_cutBank_isCut (l : List BankId) (s : State) :
    ∀ b ∈ l, ((l.foldl State.cutBank s).bank b).IsCut (s.recharged b) := by
  induction l generalizing s with
  | nil => simp
  | cons a l ih =>
    intro b hb
    rw [List.foldl_cons]
    have hfirst := CutSide.cutBank s a
    have hsame := State.recharged_of_eq hfirst.timeBase hfirst.settings b
    rcases List.mem_cons.mp hb with rfl | hb
    · exact (s.cutBank_isCut b).cutsTo (hsame ▸ (CutSide.foldl CutSide.cutBank l _).bank b)
    · exact hsame ▸ ih (s.cutBank a) b hb

end Sys2Proof.Machine

/-!
SUPPORT. Every command keeps the laws of the whole part: the commands one by one, and the rule over all of
them and over every step.
-/

namespace Sys2Proof.Machine

/-- A command that may leave HALTED (9.4). -/
def endsHalt : Instr → Bool
  | .resume _ _ | .warmReset | .powerOn _ _ _ => true
  | _ => false

/-- A command that may leave SETUP (9.1). -/
def endsSetup : Instr → Bool
  | .start _ _ _ | .abortRun _ _ => true
  | _ => false

/-- A command that starts the settings anew (R162). -/
def startsSettings : Instr → Bool
  | .powerOn _ _ _ => true
  | _ => false

/-- A growing debt keeps its bounds (R127). -/
theorem Bank.addDebt_fits {k : Bank} {max : Nat} (h : k.DebtFits max) : (k.addDebt max).DebtFits max := by
  obtain ⟨hpos, hle, hdue⟩ := h
  refine ⟨hpos, Nat.min_le_right _ _, ?_⟩
  simp only [Bank.addDebt, decide_eq_true_eq]
  omega

/-- A debt capped at its maximum keeps its bounds, whatever they were before (R128). -/
theorem Bank.capDebt_fits (k : Bank) {max : Nat} (hpos : 1 ≤ max) : (k.capDebt max).DebtFits max := by
  refine ⟨hpos, Nat.min_le_right _ _, ?_⟩
  simp only [Bank.capDebt, decide_eq_true_eq]
  omega

namespace PlantLaws

variable {A N : Prop}

/-- The settings change, and no bank's maximum debt with them. -/
theorem setSettings {s : State} {st : Settings}
    (hmax : ∀ b : BankId, st.banks[b].maxDebt = (s.bankSettings b).maxDebt) :
    PlantLaws A N s { s with settings := st } :=
  { of_same (A := A) (N := N) (s := s) (t := s) (.of_store rfl) rfl rfl rfl rfl rfl with
    steps := .of_store rfl
    debts := fun hs b => by
      have hmax : (State.bankSettings { s with settings := st } b).maxDebt = (s.bankSettings b).maxDebt :=
        hmax b
      rw [hmax]
      exact hs b }

/-- A maximum debt changes, and its bank's debt is capped at it (R128). -/
theorem setMaxDebt {s : State} {st : Settings} {b : BankId} (hpos : 1 ≤ st.banks[b].maxDebt)
    (hmax : ∀ c : BankId, c ≠ b → st.banks[c].maxDebt = (s.bankSettings c).maxDebt) :
    PlantLaws A N s (({ s with settings := st } : State).modBank b fun k =>
      k.capDebt st.banks[b].maxDebt) := by
  have hcapped : PlantLaws A N s
      (s.modBank b fun k => { k with debt := k.debt, due := k.due, purgeTimer := k.purgeTimer }) :=
    modBank (.debt id)
  have hbank : ∀ c, (({ s with settings := st } : State).modBank b fun k =>
      k.capDebt st.banks[b].maxDebt).bank c =
        if c = b then (s.bank b).capDebt st.banks[b].maxDebt else s.bank c :=
    fun c => State.bank_modBank_eq _ b c _
  exact
    { steps := .of_store rfl
      noNew := fun _ r hr => ⟨r, hr, rfl⟩
      fire := fun hs hoff c m => by
        have := hs hoff c m
        unfold State.nozzleOpen at *
        rw [hbank]
        split
        · rename_i hc
          exact hc ▸ this
        · exact this
      closed := fun hs c => by
        rw [hbank]
        split
        · exact hs b
        · exact hs c
      debts := fun hs c => by
        rw [hbank]
        split
        · rename_i hc
          exact hc ▸ Bank.capDebt_fits (s.bank b) hpos
        · rename_i hc
          have hsame : (State.bankSettings { s with settings := st } c).maxDebt =
              (s.bankSettings c).maxDebt := hmax c hc
          have := hs c
          rw [← hsame] at this
          exact this
      queues := fun hs c => by
        rw [hbank]
        split
        · exact hs b
        · exact hs c
      health := id
      tracked := fun _ hs c e he => by
        rw [hbank] at he
        split at he
        · exact hs b e he
        · exact hs c e he
      partsOpen := fun _ _ hs c e he => by
        rw [hbank] at he
        split at he
        · rename_i hc
          exact hc ▸ hs b e he
        · exact hs c e he }

/-- A fall of FIRE-ENABLE closes every nozzle (R118). -/
theorem fireFall (s : State) : PlantLaws A N s
    (allBanks.foldl State.cutBank (({ s with fireEnable := false } : State).setFlag .inhibited)) := by
  have hclosed := State.foldl_cutBank_isCut allBanks
    (({ s with fireEnable := false } : State).setFlag .inhibited)
  have hbanks : PlantLaws A N (({ s with fireEnable := false } : State).setFlag .inhibited)
      (allBanks.foldl State.cutBank (({ s with fireEnable := false } : State).setFlag .inhibited)) :=
    foldl cutBank _ _
  generalize allBanks.foldl State.cutBank (({ s with fireEnable := false } : State).setFlag .inhibited) = t
    at hclosed hbanks
  have hsteps : StoreSteps s (({ s with fireEnable := false } : State).setFlag .inhibited) := .of_store rfl
  exact
    { steps := hsteps.trans hbanks.steps
      noNew := hbanks.noNew
      fire := fun _ _ b m => (hclosed b (mem_allBanks b)).nozzles m
      closed := hbanks.closed
      debts := hbanks.debts
      queues := hbanks.queues
      health := hbanks.health
      tracked := hbanks.tracked
      partsOpen := hbanks.partsOpen }

/-- A rise of FIRE-ENABLE: while it is active no law binds the nozzles (R118). -/
theorem fireRise (s : State) : PlantLaws A N s { s with fireEnable := true } :=
  { of_same (A := A) (N := N) (s := s) (t := s) (.of_store rfl) rfl rfl rfl rfl rfl with
    steps := .of_store rfl
    fire := fun _ hoff => by cases hoff }

end PlantLaws

theorem SideLaws.setFire {S H U : Prop} (s : State) (fire : Bool) :
    SideLaws S H U s { s with fireEnable := fire } where
  pending := rfl
  latches := id
  link := id
  lowTest := id
  flags := id
  settings := id
  setupOnly := fun _ _ _ => rfl
  halted := fun _ _ h => h
  setup := fun _ h => h

namespace PartLaws

variable {N S H U : Prop} {s t : State}

/-! ### The belt, the strobes and the heads (chapters 1 and 2) -/

theorem execPowerOn {a b f : Bool} (hS : ¬S) (hH : ¬H) (h : execPowerOn a b f s = .next t) :
    PartLaws N S H U s t := by
  have ht := (Host.Outcome.next.inj h).symm
  subst ht
  refine PartLaws.trans
    (t := { fireEnable := f, settings := s.goodCopy.getD {}, stored := s.keptCopy
            belt := { refA := a, refB := b }, pending := s.pending }) ?_
    (((setFlag _ (by decide)).trans (of_aside (.setFlagIf _ _ (by decide)))).trans
      (of_aside (.closeEvent _ _)))
  exact
    { plant := by
        refine .of_tornDown (.of_move (.reset s.store)) rfl (fun c => ?_) (fun _ n => ?_) fun _ c => ?_
        · simp [State.bank, noNozzleOpen]
        · simp [State.nozzle, Nozzle.Graded]
        · have hvalid := ((Settings.valid_iff _).mp (State.goodCopy_valid (s := s))).1 (.bank c .maxDebt)
          have hbounds := of_decide_eq_true hvalid
          have hge : (1 : Int) ≤ ((s.goodCopy.getD {}).banks[c].maxDebt : Int) := hbounds.1
          show 1 ≤ (s.goodCopy.getD {}).banks[c].maxDebt
          omega
      side :=
        { pending := rfl
          latches := fun _ c => by cases c <;> exact Nat.zero_le _
          link := fun _ => ⟨Nat.zero_le 2, Nat.zero_le 8⟩
          lowTest := fun _ => ⟨by simp [State.flag], Nat.zero_le 2⟩
          flags := fun _ => by simp [State.FlagsCarried]
          settings := fun _ => State.goodCopy_valid
          setupOnly := fun hs => absurd hs hS
          halted := fun hh => absurd hh hH
          setup := fun _ _ => rfl } }

theorem execEncoderEdge {a b : Bool} {coils : Coils} (h : execEncoderEdge a b coils s = .next t) :
    PartLaws N S H U s t := by
  refine event ?_ h
  split
  · exact refl s
  · exact (setBelt s _).trans (setFlag _ (by decide))
  · exact setBelt s _
  · exact (setBelt s _).trans (count (s.takeLevels a b) _ coils)

theorem takeSample (s : State) : PartLaws N S H U s s.takeSample :=
  of_aside (.of_parts s _ _ _ _ _ _ _ _)

theorem execSpeedSample {coils : Coils} (h : execSpeedSample coils s = .next t) :
    PartLaws N S H U s t := by
  refine event ?_ h
  exact (((takeSample s).trans (overspeedTest _)).trans (of_plant (.planHeld _) (.planHeld _))).trans
    (purgeTests _ coils)

theorem execStallTimerExpiry {coils : Coils} (h : execStallTimerExpiry coils s = .next t) :
    PartLaws N S H U s t := by
  refine event ?_ h
  split
  · exact refl s
  · exact (((atTime s _).trans (setBelt _ _)).trans (setFlag _ (by decide))).trans (purgeTests _ coils)

theorem execActiveEdge {line : Line} {high : Bool} (h : execActiveEdge line high s = .next t) :
    PartLaws N S H U s t := by
  refine event ?_ h
  split
  · exact of_aside (.modLatch s _ id)
  · exact refl s

theorem execStrobeReturn {line : Line} {high : Bool} (h : execStrobeReturn line high s = .next t) :
    PartLaws N S H U s t := by
  refine event ?_ h
  split
  · exact refl s
  · exact of_aside (.modLatch s _ id)

theorem execFilterExpiry {line : Line} (h : execFilterExpiry line s = .next t) : PartLaws N S H U s t := by
  refine event ?_ h
  split
  · exact refl s
  · exact ((atTime s _).trans (of_aside (.modLatch _ _ id))).trans (lineCapture _ line _ _)

theorem execDeadlineExpiry {head : Head} {seq : Byte} (h : execDeadlineExpiry head seq s = .next t) :
    PartLaws N S H U s t := by
  refine event ?_ h
  dsimp only
  split
  · exact refl s
  · split
    · exact (atTime s _).trans (of_aside (.removeOldest _ _ _))
    · exact refl s

theorem execReport {head : Head} {payload : List Byte} {coils : Coils} (hN : N → s.run ≠ .run)
    (h : execReport head payload coils s = .next t) : PartLaws N S H U s t :=
  event ((setReceiver s (.head head) {}).trans
    (takeReport (s := s.huntHead head) hN head payload coils)) h

theorem execHeadState {head : Head} {payload : List Byte} {coils : Coils}
    (h : execHeadState head payload coils s = .next t) : PartLaws N S H U s t :=
  event ((setReceiver s (.head head) {}).trans (takeHeadState (s.huntHead head) head payload coils)) h

theorem execSilenceTimerExpiry {head : Head} {coils : Coils}
    (h : execSilenceTimerExpiry head coils s = .next t) : PartLaws N S H U s t := by
  refine event ?_ h
  split
  · exact refl s
  · exact ((atTime s _).trans (modHead _ head _)).trans (headLost _ head coils)

theorem execLatchWatch {tag : Byte} {payload : List Byte} (h : execLatchWatch tag payload s = .next t) :
    PartLaws N S H U s t := by
  refine serve (fun l => ?_) h
  generalize ({ s with link := l } : State) = u
  split
  · exact of_aside ((Aside.setLatch u _ fun _ => Nat.zero_le _).trans (.setLatchCursor _ _ _))
  · rename_i c _ _
    have hstarted : Aside u ((u.setLatch c { watch := true }).setLatchCursor c .atEnd) :=
      (Aside.setLatch u c fun _ => Nat.zero_le _).trans (.setLatchCursor _ _ _)
    cases c with
    | bm => exact (of_aside hstarted).trans (setBelt _ _)
    | sa => exact of_aside hstarted
    | sb => exact of_aside hstarted
    | mx => exact of_aside hstarted
  · exact refl u

theorem execLatchNow {tag : Byte} {payload : List Byte} (h : execLatchNow tag payload s = .next t) :
    PartLaws N S H U s t := serve (fun l => of_aside (.capture { s with link := l } .mx _ _)) h

/-! ### The link (chapter 10) -/

theorem execFrameAccepted {kind tag : Byte} {payload : List Byte}
    (h : execFrameAccepted kind tag payload s = .next t) : PartLaws N S H U s t :=
  event ((setReceiver s .control {}).trans (acceptRequest _ _)) h

theorem execFrameTimerExpiry {p : Port} (h : execFrameTimerExpiry p s = .next t) :
    PartLaws N S H U s t := by
  refine event ?_ h
  split
  · exact refl s
  · exact (atTime s _).trans (frameFault _ p)

theorem execByteReceived {p : Port} {byte : Byte} {stopBit : Bool} {coils : Coils}
    (hN : N → s.run ≠ .run) (h : execByteReceived p byte stopBit coils s = .next t) :
    PartLaws N S H U s t := by
  refine event ?_ h
  dsimp only [State.takeByte]
  split
  · exact setReceiver s p _
  · exact setReceiver s p _
  · exact acceptFrame hN p _ coils
  · exact frameFault s p

theorem execFrameSent (h : execFrameSent s = .next t) : PartLaws N S H U s t := by
  refine event ?_ h
  split
  · exact refl s
  · exact (atTime s _).trans (of_aside (.setLink _ id))

/-- A request's reply handed on, at the close of its event. -/
theorem close_reply (before u : State) (reply : Frame) (thenReset : Bool) :
    PartLaws N S H U u (closeEvent before (u.handReply reply thenReset)) :=
  of_aside ((Aside.handReply _ _ _).trans (.closeEvent _ _))

/-- The link changes at an event, and its queues keep their depths. -/
theorem close_link (before u : State) {l : Link}
    (h : u.LinkFits → l.requests.length ≤ 2 ∧ l.notices.length ≤ 8) :
    PartLaws N S H U u (closeEvent before { u with link := l }) :=
  of_aside ((Aside.setLink u h).trans (.closeEvent _ _))

theorem execUnknownKind {kind tag : Byte} {payload : List Byte}
    (h : execUnknownKind kind tag payload s = .next t) : PartLaws N S H U s t := by
  have ht := (Host.Outcome.next.inj h).symm
  split at ht
  · rw [ht]
    exact refl s
  · rename_i s0 htake
    split at ht
    · rw [ht]
      exact refl s
    · rw [ht]
      exact (of_aside (.takeRequest htake)).trans (close_reply _ _ _ _)

theorem readRequest (s : State) (payload : List Byte) : PartLaws N S H U s (s.readRequest payload).2 := by
  unfold State.readRequest
  split
  · exact refl s
  · unfold State.readFrom
    split
    · exact refl s
    · split
      · exact of_aside (.setCursors s _)
      · unfold State.readCollection
        dsimp only
        split
        · exact refl s
        · exact of_aside (.setCursors s _)

theorem setNozzle {n : NozzleId} {v : Nozzle} (h : (s.nozzle n).Graded → v.Graded) :
    PartLaws N S H U s (s.setNozzle n v) := of_plant (.setNozzle s n v) (.setNozzle h)

theorem autoFence (s : State) (b : BankId) : PartLaws N S H U s (s.autoFence b) :=
  of_plant (.autoFence s b) (.autoFence s b)

theorem writeNozzle (s : State) (l : Locator) (grade : Byte) :
    PartLaws N S H U s (s.writeNozzle l grade).2 := by
  have hok : ∀ n : Nozzle, n.Graded → n.markOk.Graded := fun n hn => by
    unfold Nozzle.markOk
    cases hg : n.grade <;> simp_all [Nozzle.Graded]
  have hfaulty : ∀ n : Nozzle, n.Graded → n.markFaulty.Graded := fun n hn => by
    unfold Nozzle.markFaulty
    cases hg : n.grade <;> simp_all [Nozzle.Graded]
  unfold State.writeNozzle
  dsimp only
  generalize (Fin.ofNat 128 (s.fixedStart l) : NozzleId) = n
  split
  · exact (setNozzle (hok _)).trans (of_aside (.setCursors _ _))
  · have hwritten : PartLaws N S H U s ((s.setNozzle n (s.nozzle n).markFaulty).nozzleWritten n) :=
      (setNozzle (hfaulty _)).trans (of_aside (.setCursors _ _))
    dsimp only
    split
    · exact hwritten
    · exact hwritten.trans (autoFence _ _)
  · exact refl s

theorem putRoute (s : State) (n : Nat) {r : Route} (hr : r.valid = true) :
    PartLaws N S H U s (s.putRoute n r) := by
  unfold State.putRoute
  refine PartLaws.trans (t := { s with settings :=
    { s.settings with routes := s.settings.routes.setIfInBounds n r } }) ?_ (of_aside (.setCursors _ _))
  exact
    { plant := .setSettings fun b => rfl
      side :=
        { pending := rfl
          latches := id
          link := id
          lowTest := id
          flags := id
          settings := fun hs => Settings.valid_setRoute hs n hr
          setupOnly := fun _ m _ => Settings.get_setRoute s.settings n r m
          halted := fun _ _ h => h
          setup := fun _ h => h } }

theorem writeRequest (s : State) (payload : List Byte) :
    PartLaws N S H U s (s.writeRequest payload).2 := by
  unfold State.writeRequest
  dsimp only
  split
  · exact refl s
  · split
    · exact refl s
    · split
      · exact refl s
      · split
        · unfold State.writeRoute
          split
          · exact refl s
          · split
            · exact refl s
            · rename_i hordered
              exact putRoute s _ (Route.valid_clamped (not_lt.mp hordered))
        · exact writeNozzle s _ _

/-! ### The banks (chapters 6 and 7) -/

theorem execWave {b : BankId} {id : TrackId} {coils : Coils} (h : execWave b id coils s = .next t) :
    PartLaws N S H U s t := by
  refine event ?_ h
  split
  · exact refl s
  · split
    · exact refl s
    · split
      · exact (atTime s _).trans (of_plant (.openWave _ b id coils) (.openWave _ b id coils))
      · exact refl s

theorem execNozzleClosing {b : BankId} {m : Member} (h : execNozzleClosing b m s = .next t) :
    PartLaws N S H U s t := by
  refine event ?_ h
  split
  · exact refl s
  · refine (atTime s _).trans (of_plant (.modBank _ b _) (.modBank (.closing fun i hi => ?_)))
    by_cases him : m.val = i.val
    · simp [him] at hi
    · simpa [him] using hi

theorem execPulseExpiry {b : BankId} {id : TrackId} (h : execPulseExpiry b id s = .next t) :
    PartLaws N S H U s t := by
  refine event ?_ h
  split
  · exact refl s
  · split
    · exact refl s
    · split
      · exact (atTime s _).trans (of_plant (.pulseEnds _ b _) (.pulseEnds _ b _))
      · exact refl s

theorem execRechargeExpiry {b : BankId} {coils : Coils} (h : execRechargeExpiry b coils s = .next t) :
    PartLaws N S H U s t := by
  refine event ?_ h
  split
  · exact (atTime s _).trans (of_plant (.rechargeDone _ b coils) (.rechargeDone _ b coils))
  · exact refl s

theorem execSwitchExpiry {b : BankId} {coils : Coils} (h : execSwitchExpiry b coils s = .next t) :
    PartLaws N S H U s t := by
  refine event ?_ h
  split
  · exact (atTime s _).trans (of_plant (.switchDone _ b _ coils) (.switchDone _ b _ coils))
  · exact refl s

theorem execFireEnableFall (h : execFireEnableFall s = .next t) : PartLaws N S H U s t := by
  refine event ?_ h
  split
  · exact
      { plant := .fireFall s
        side := ((SideLaws.setFire s false).trans (.of_bankSide (.setFlag _ .inhibited (by decide)))).trans
          (.of_bankSide (.foldl .cutBank allBanks _)) }
  · exact refl s

theorem execFireEnableRise {coils : Coils} (h : execFireEnableRise coils s = .next t) :
    PartLaws N S H U s t := by
  refine event ?_ h
  split
  · exact refl s
  · have hrisen : PartLaws N S H U s { s with fireEnable := true } :=
      { plant := .fireRise s, side := .setFire s true }
    exact (hrisen.trans (of_plant (.foldl (.retryStep coils) allBanks _)
      (.foldl (.retryStep coils) allBanks _))).trans (purgeTests _ coils)

theorem execPurgeTimerExpiry {b : BankId} {coils : Coils}
    (h : execPurgeTimerExpiry b coils s = .next t) : PartLaws N S H U s t := by
  refine event ?_ h
  split
  · exact refl s
  · rename_i time _
    have hdebt : PartLaws N S H U (s.atTime time)
        ((s.atTime time).modBank b fun k => k.addDebt (s.bankSettings b).maxDebt) :=
      of_plant (.modBank _ b _) (.modBank (.debt Bank.addDebt_fits))
    have htimer := PlantLaws.startPurgeTimer (A := True) (N := N)
      ((s.atTime time).modBank b fun k => k.addDebt (s.bankSettings b).maxDebt) b
    exact (((atTime s time).trans hdebt).trans (of_plant (.modBank _ b _) htimer)).trans
      (purgeTest coils _ b)

theorem execPurgeExpiry {b : BankId} (h : execPurgeExpiry b s = .next t) : PartLaws N S H U s t := by
  refine event ?_ h
  split
  · exact (atTime s _).trans (of_plant (.endPurge _ b _) (.endPurge _ b _))
  · exact refl s

theorem execConditioningStepExpiry {b : BankId} {coils : Coils}
    (h : execConditioningStepExpiry b coils s = .next t) : PartLaws N S H U s t := by
  refine event ?_ h
  split
  · rename_i step ends hstate
    refine (atTime s _).trans (of_plant (.stepDone _ b _ coils) (.stepDone ?_ _ coils))
    have : ((s.atTime ends).bank b).state = .conditioning step (some ends) := hstate
    rw [this]
    rfl
  · exact refl s

theorem execFence {tag : Byte} {payload : List Byte} (h : execFence tag payload s = .next t) :
    PartLaws N S H U s t := by
  refine serve (fun l => ?_) h
  split
  · exact refl _
  · exact of_plant (.fenceBank _ _) (.fenceBank _ _)

theorem unfenceBank (s : State) (b : BankId) (coils : Coils) :
    PartLaws N S H U s (s.unfenceBank b coils) := by
  have hemptied : Bank.Follows s.fireEnable (s.bankSettings b).maxDebt (s.bank b)
      (s.bank b).unfenced := .emptied rfl rfl rfl rfl
  have hdark : PartLaws N S H U s (s.modBank b Bank.unfenced) :=
    of_plant (.modBank s b _) (.modBank hemptied)
  have hbegins : PartLaws N S H U s (State.beginConditioning coils (s.modBank b Bank.unfenced) b) := by
    refine hdark.trans (of_plant (.beginConditioning coils _ b) (.beginConditioning ?_ coils))
    rw [State.bank_modBank]
    rfl
  unfold State.unfenceBank
  dsimp only
  split
  · exact hbegins
  · exact hbegins
  · exact hdark
  · exact hdark
  · exact hdark

theorem execUnfence {tag : Byte} {payload : List Byte} {coils : Coils}
    (h : execUnfence tag payload coils s = .next t) : PartLaws N S H U s t := by
  refine serve (fun l => ?_) h
  generalize ({ s with link := l } : State) = u
  split
  · exact refl u
  · split
    · exact refl u
    · split
      · exact refl u
      · exact unfenceBank u _ coils

theorem execSetLevel {tag : Byte} {payload : List Byte} (h : execSetLevel tag payload s = .next t) :
    PartLaws N S H U s t := by
  refine serve (fun l => ?_) h
  generalize ({ s with link := l } : State) = u
  split
  · split
    · exact refl u
    · split
      · exact refl u
      · split
        · exact refl u
        · exact of_plant (.startSwitch u _ _) (.startSwitch u _ _)
  · exact refl u

/-! ### Settings, pressure and power (8.1, 9.5 to 9.7) -/

theorem execGet {tag : Byte} {payload : List Byte} (h : execGet tag payload s = .next t) :
    PartLaws N S H U s t := by
  refine serve (fun l => ?_) h
  split <;> exact refl _

theorem afterShed (s : State) (was : Bool) (coils : Coils) :
    PartLaws N S H U s (s.afterShed was coils) :=
  of_plant (.afterShed s was coils) (.afterShed s was coils)

/-- The settings outside the plant's laws: a value of its domain is put. -/
theorem SideLaws.putValue {n : SettingName} {v : Int} (hv : n.domain.holds v = true)
    (hS : S → n.setupOnly = false) : SideLaws S H U s { s with settings := s.settings.put n v } where
  pending := rfl
  latches := id
  link := id
  lowTest := id
  flags := id
  settings := fun hs => Settings.valid_put hs hv
  setupOnly := fun hs m hm => Settings.get_put_ne _ (fun heq => by
    have := hS hs
    rw [← heq, hm] at this
    cases this) v
  halted := fun _ _ h => h
  setup := fun _ h => h

/-- A bank's maximum debt stands when another setting is put. -/
theorem maxDebt_put {n : SettingName} {b : BankId} (h : n ≠ .bank b .maxDebt) (v : Int) :
    (s.settings.put n v).banks[b].maxDebt = (s.bankSettings b).maxDebt := by
  have hget := Settings.get_put_ne s.settings (n := n) (m := .bank b .maxDebt) h.symm v
  exact Int.ofNat_inj.mp hget

theorem putSetting {n : SettingName} {v : Int} (hv : n.domain.holds v = true)
    (hS : S → n.setupOnly = false) (coils : Coils) : PartLaws N S H U s (s.putSetting n v coils) := by
  have hput : (∀ b, n ≠ .bank b .maxDebt) →
      PartLaws N S H U s { s with settings := s.settings.put n v } := fun hn =>
    { plant := .setSettings fun b => maxDebt_put (hn b) v
      side := SideLaws.putValue hv hS }
  unfold State.putSetting State.settingTaken
  split
  · have hput := hput (by simp)
    split
    · exact hput.trans (setBelt _ _)
    · exact hput
  · have hput := hput (by simp)
    split
    · exact hput.trans (setBelt _ _)
    · exact hput
  · have hput := hput (by simp)
    split
    · exact hput.trans (setBelt _ _)
    · exact hput
  · rename_i b
    have hpos : 1 ≤ (s.settings.put (.bank b .maxDebt) v).banks[b].maxDebt := by
      have hget := Settings.get_put s.settings (.bank b .maxDebt) hv
      have hlo : (1 : Int) ≤ v := (of_decide_eq_true hv).1
      have hcast : (((s.settings.put (.bank b .maxDebt) v).banks[b].maxDebt : Nat) : Int) = v := hget
      omega
    have hcapped : PartLaws N S H U s
        (({ s with settings := s.settings.put (.bank b .maxDebt) v } : State).modBank b fun k =>
          k.capDebt (s.settings.put (.bank b .maxDebt) v).banks[b].maxDebt) :=
      { plant := .setMaxDebt hpos fun c hc => maxDebt_put (fun heq => hc (by cases heq; rfl)) v
        side := (SideLaws.putValue hv hS).trans (.of_bankSide (.modBank _ b _)) }
    exact hcapped.trans (purgeTest coils _ b)
  · exact (hput (by simp)).trans (afterShed _ _ coils)
  · rename_i hmax _
    exact hput fun b hb => hmax b hb

theorem execSet {tag : Byte} {payload : List Byte} {coils : Coils} (hS : S → s.run ≠ .setup)
    (h : execSet tag payload coils s = .next t) : PartLaws N S H U s t := by
  refine serve (fun l => ?_) h
  split
  · exact refl _
  · exact refl _
  · rename_i n _
    split
    · exact refl _
    · rename_i hopen
      split
      · exact refl _
      · split
        · exact refl _
        · rename_i v clamped htake
          refine putSetting (Domain.holds_of_take htake) (fun hs => ?_) coils
          by_contra hsetup
          exact hopen ⟨by simpa using hsetup, hS hs⟩

theorem execSave {tag : Byte} {payload : List Byte} (h : execSave tag payload s = .next t) :
    PartLaws N S H U s t := by
  have ht := (Host.Outcome.next.inj h).symm
  split at ht
  · rw [ht]
    exact refl s
  · rename_i s0 htake
    have htaken : PartLaws N S H U s s0 := of_aside (.takeRequest htake)
    split at ht
    · rw [ht]
      exact htaken.trans (close_link s0 s0 fun hs => hs)
    · rw [ht]
      exact htaken.trans (close_reply _ _ _ _)

theorem execSaveComplete (h : execSaveComplete s = .next t) : PartLaws N S H U s t := by
  refine event ?_ h
  split
  · exact of_aside ((Aside.of_parts s _ _ _ _ _ _ _ _).trans (.handReply _ _ _))
  · exact refl s

theorem execPressureSample {microamps : Nat} (h : execPressureSample microamps s = .next t) :
    PartLaws N S H U s t := by
  refine event ?_ h
  exact PartLaws.trans (of_aside (.of_parts s _ _ _ _ _ _ _ _)) (lowTest _ _)

theorem execPowerFailure (h : execPowerFailure s = .next t) : PartLaws N S H U s t := by
  cases h
  exact of_aside (.of_parts s _ _ _ _ _ _ _ _)

/-! ### Run Control and the store (chapters 3 and 9) -/

theorem startRun {s : State} (hsetup : s.run = .setup) (hU : ¬U) (coils : Coils) :
    PartLaws N S H U s (s.startRun coils) := by
  have hbanks : BankSide s (allBanks.foldl (State.conditionDark coils) s) :=
    .foldl (.conditionDark coils) allBanks s
  have hplant : PartLaws N S H U s (allBanks.foldl (State.conditionDark coils) s) :=
    of_plant hbanks (.foldl (.conditionDark coils) allBanks s)
  refine hplant.trans (setRun (fun _ cause hc => ?_) fun hu => absurd hu hU)
  rcases hbanks.run with hrun | ⟨hrun, -⟩ | ⟨hrun, -⟩
  · rw [hrun, hsetup] at hc
    cases hc
  · rw [hrun] at hsetup
    cases hsetup
  · rw [hrun] at hsetup
    cases hsetup

theorem execStart {tag : Byte} {payload : List Byte} {coils : Coils} (hU : ¬U)
    (h : execStart tag payload coils s = .next t) : PartLaws N S H U s t := by
  refine serve (fun l => ?_) h
  split
  · exact refl _
  · rename_i hsetup
    split
    · exact refl _
    · split
      · exact refl _
      · exact startRun (not_not.mp hsetup) hU coils

theorem passDrain (s : State) : PartLaws N S H U s s.passDrain := by
  unfold State.passDrain
  split
  · exact of_aside (.raise s _)
  · exact refl s

theorem execStop {tag : Byte} {payload : List Byte} (h : execStop tag payload s = .next t) :
    PartLaws N S H U s t := by
  refine serveAfter (fun l => passDrain _) (fun l => ?_) h
  generalize ({ s with link := l } : State).passDrain = u
  split
  · rename_i hrun
    split
    · exact setRun (fun _ c hc => by simp [hrun] at hc) fun _ _ => rfl
    · exact setRun (fun _ c hc => by simp [hrun] at hc) fun _ hs => by simp [hrun] at hs
  · rename_i hrun
    exact setRun (fun _ c hc => by simp [hrun] at hc) fun _ _ => rfl
  · exact refl u
  · exact refl u
  · exact refl u

theorem execAbortRun {tag : Byte} {payload : List Byte} (hU : ¬U)
    (h : execAbortRun tag payload s = .next t) : PartLaws N S H U s t := by
  refine serve (fun l => ?_) h
  generalize ({ s with link := l } : State) = u
  have hentry : (∀ c, u.run ≠ .halted c) → PartLaws N S H U u (u.enterHalted .host) :=
    fun hhalted => enterHalted hhalted (fun hu => absurd hu hU) .host
  cases hrun : u.run with
  | halted c => exact refl u
  | setup => exact hentry (by simp [hrun])
  | conditioning => exact hentry (by simp [hrun])
  | run => exact hentry (by simp [hrun])
  | drain => exact hentry (by simp [hrun])

theorem execResume {tag : Byte} {payload : List Byte} (hH : ¬H)
    (h : execResume tag payload s = .next t) : PartLaws N S H U s t := by
  refine serve (fun l => ?_) h
  split
  · exact setRun (fun hh => absurd hh hH) fun _ _ => rfl
  · exact refl _
  · exact refl _
  · exact refl _
  · exact refl _

theorem execWarmReset (hH : ¬H) (h : execWarmReset s = .next t) : PartLaws N S H U s t := by
  have ht := (Host.Outcome.next.inj h).symm
  split at ht
  · rw [ht]
    exact warmReset hH
  · rw [ht]
    exact refl s

theorem execClearTallies {tag : Byte} {payload : List Byte}
    (h : execClearTallies tag payload s = .next t) : PartLaws N S H U s t := by
  refine serve (fun l => of_aside ?_) h
  exact ⟨.of_move (.clearTallies s.store), rfl, rfl, rfl, rfl, rfl, rfl, rfl, rfl, rfl, fun _ h => .inl h,
    rfl, id, id⟩

theorem execInject {tag : Byte} {payload : List Byte} {coils : Coils} (hN : N → s.run ≠ .run)
    (h : execInject tag payload coils s = .next t) : PartLaws N S H U s t := by
  refine serve (fun l => ?_) h
  have hN' : N → ({ s with link := l } : State).run ≠ .run := hN
  generalize ({ s with link := l } : State) = u at hN'
  dsimp only
  split
  · exact refl u
  · rename_i hrun
    split
    · exact refl u
    · split
      · exact refl u
      · rename_i hroom
        have hid : ∀ id born, (u.injected (readInject payload) id born).id = id := fun _ _ => rfl
        have hadded := PlantLaws.addRecord (A := True) hid (Bool.eq_false_iff.mpr hroom) coils
        have hside := BankSide.addRecord u (u.injected (readInject payload)) coils
        dsimp only
        exact of_plant hside (hadded.mono id fun hn => hN' hn (not_not.mp hrun))

theorem execClearFlags {tag : Byte} {payload : List Byte} {coils : Coils}
    (h : execClearFlags tag payload coils s = .next t) : PartLaws N S H U s t :=
  serveAfter (fun _ => clearFlagsOf _ _) (fun _ => afterShed _ _ coils) h

theorem execFrameFault {p : Port} (h : execFrameFault p s = .next t) : PartLaws N S H U s t :=
  event (frameFault s p) h

theorem execStatus {tag : Byte} {payload : List Byte} (h : execStatus tag payload s = .next t) :
    PartLaws N S H U s t := serve (fun _ => refl _) h

theorem execReset {tag : Byte} {payload : List Byte} (h : execReset tag payload s = .next t) :
    PartLaws N S H U s t := serve (fun _ => refl _) h

theorem execRead {tag : Byte} {payload : List Byte} (h : execRead tag payload s = .next t) :
    PartLaws N S H U s t := serve (fun _ => readRequest _ payload) h

theorem execShortRead {tag : Byte} {payload : List Byte} (h : execShortRead tag payload s = .next t) :
    PartLaws N S H U s t := serve (fun _ => readRequest _ payload) h

theorem execWriteRoute {tag : Byte} {payload : List Byte} (h : execWriteRoute tag payload s = .next t) :
    PartLaws N S H U s t := serve (fun _ => writeRequest _ payload) h

theorem execWriteNozzle {tag : Byte} {payload : List Byte} (h : execWriteNozzle tag payload s = .next t) :
    PartLaws N S H U s t := serve (fun _ => writeRequest _ payload) h

/-! ### Every command -/

theorem exec {c : Instr} (h : exec c s = .next t) :
    PartLaws (s.run ≠ .run) (s.run ≠ .setup ∧ startsSettings c = false) (endsHalt c = false)
      (endsSetup c = false) s t := by
  cases c with
  | powerOn a b f => exact execPowerOn (fun hs => by cases hs.2) (fun hh => by cases hh) h
  | encoderEdge a b coils => exact execEncoderEdge h
  | speedSample coils => exact execSpeedSample h
  | stallTimerExpiry coils => exact execStallTimerExpiry h
  | activeEdge line high => exact execActiveEdge h
  | strobeReturn line high => exact execStrobeReturn h
  | filterExpiry line => exact execFilterExpiry h
  | deadlineExpiry head seq => exact execDeadlineExpiry h
  | frameAccepted kind tag payload => exact execFrameAccepted h
  | frameFault port => exact execFrameFault h
  | frameTimerExpiry port => exact execFrameTimerExpiry h
  | report head payload coils => exact execReport id h
  | headState head payload coils => exact execHeadState h
  | silenceTimerExpiry head coils => exact execSilenceTimerExpiry h
  | wave b id coils => exact execWave h
  | nozzleClosing b m => exact execNozzleClosing h
  | pulseExpiry b id => exact execPulseExpiry h
  | rechargeExpiry b coils => exact execRechargeExpiry h
  | switchExpiry b coils => exact execSwitchExpiry h
  | fireEnableFall => exact execFireEnableFall h
  | fireEnableRise coils => exact execFireEnableRise h
  | purgeTimerExpiry b coils => exact execPurgeTimerExpiry h
  | purgeExpiry b => exact execPurgeExpiry h
  | conditioningStepExpiry b coils => exact execConditioningStepExpiry h
  | pressureSample microamps => exact execPressureSample h
  | status tag payload => exact execStatus h
  | clearFlags tag payload coils => exact execClearFlags h
  | get tag payload => exact execGet h
  | set tag payload coils => exact execSet And.left h
  | save tag payload => exact execSave h
  | saveComplete => exact execSaveComplete h
  | start tag payload coils => exact execStart (fun hu => by cases hu) h
  | stop tag payload => exact execStop h
  | abortRun tag payload => exact execAbortRun (fun hu => by cases hu) h
  | resume tag payload => exact execResume (fun hh => by cases hh) h
  | reset tag payload => exact execReset h
  | warmReset => exact execWarmReset (fun hh => by cases hh) h
  | read tag payload => exact execRead h
  | shortRead tag payload => exact execShortRead h
  | writeRoute tag payload => exact execWriteRoute h
  | writeNozzle tag payload => exact execWriteNozzle h
  | fence tag payload => exact execFence h
  | unfence tag payload coils => exact execUnfence h
  | setLevel tag payload => exact execSetLevel h
  | latchWatch tag payload => exact execLatchWatch h
  | latchNow tag payload => exact execLatchNow h
  | inject tag payload coils => exact execInject id h
  | clearTallies tag payload => exact execClearTallies h
  | unknownKind kind tag payload => exact execUnknownKind h
  | frameSent => exact execFrameSent h
  | byteReceived port byte stopBit coils => exact execByteReceived id h
  | powerFailure => exact execPowerFailure h

end PartLaws

end Sys2Proof.Machine

/-!
SUPPORT. The laws over a step, and that every command ends in a next state.
-/

namespace Sys2Proof.Machine

/-- A step keeps the laws of the plant and those outside it. -/
theorem PartLaws.of_step {s t : State} (h : step s = .next t) :
    PlantLaws True False s t ∧ (s.LatchesFit → t.LatchesFit) ∧ (s.LinkFits → t.LinkFits) ∧
      (s.LowTestKept → t.LowTestKept) ∧ (s.FlagsCarried → t.FlagsCarried) ∧
      (s.settings.valid = true → t.settings.valid = true) := by
  unfold step at h
  split at h
  · rw [← Host.Outcome.next.inj h]
    unfold State.idle
    split
    · exact ⟨.of_same (.of_store rfl) rfl rfl rfl rfl rfl, id, id, id, id, id⟩
    · exact ⟨.refl s, id, id, id, id, id⟩
  · rename_i c rest _
    have hlaws := PartLaws.exec h
    have htaken : PlantLaws True False s { s with pending := rest } :=
      .of_same (.of_store rfl) rfl rfl rfl rfl rfl
    exact ⟨htaken.trans (hlaws.plant.mono id False.elim), hlaws.side.latches, hlaws.side.link,
      hlaws.side.lowTest, hlaws.side.flags, hlaws.side.settings⟩

/-- Every command ends in a next state. -/
theorem exec_completes (c : Instr) (s : State) : ∃ t, exec c s = .next t := by
  cases c <;> exact ⟨_, rfl⟩

end Sys2Proof.Machine

namespace Sys2Proof.Laws.ValveBanks

open Sys2Proof Sys2Proof.Machine

/-- Settles O39: every operation that opens a nozzle asks for FIRE-ENABLE, and a fall closes them all. -/
theorem noFireWhileInhibited : Obligations.NoFireWhileInhibited := by
  unfold Obligations.NoFireWhileInhibited
  exact fun s t hsafe hstep => (PartLaws.of_step hstep).1.fire hsafe

/-- Settles O40: the three laws are kept by every operation of the plant. -/
theorem outOfServiceBanksClosed : Obligations.OutOfServiceBanksClosed := by
  unfold Obligations.OutOfServiceBanksClosed
  exact ⟨fun s t hclosed hstep => (PartLaws.of_step hstep).1.closed hclosed,
    fun s t hids htracked hstep => (PartLaws.of_step hstep).1.tracked hids htracked,
    fun s t hids hopen hstep => (PartLaws.of_step hstep).1.partsOpen trivial hids hopen⟩

/-- Settles O43: a debt grows up to its maximum, is paid after a purge, capped by SET, and cleared. -/
theorem purgeDebtBounded : Obligations.PurgeDebtBounded := by
  unfold Obligations.PurgeDebtBounded
  exact fun s t hdebts hstep => (PartLaws.of_step hstep).1.debts hdebts

end Sys2Proof.Laws.ValveBanks

/-!
SUPPORT. The statements of the settings, the supply and the collections, settled.
-/

namespace Sys2Proof.Laws.Supply

open Sys2Proof Sys2Proof.Machine

/-- Settles O45: each of the three laws by itself. -/
theorem supplyAndHealthLaws : Obligations.SupplyAndHealthLaws := by
  unfold Obligations.SupplyAndHealthLaws
  refine ⟨fun s t h hstep => ?_, fun s t h hstep => (PartLaws.of_step hstep).1.health h,
    fun s t h hstep => ?_⟩
  · obtain ⟨-, -, -, hlow, -, -⟩ := PartLaws.of_step hstep
    exact hlow h
  · obtain ⟨-, -, -, -, hflags, -⟩ := PartLaws.of_step hstep
    exact hflags h

end Sys2Proof.Laws.Supply

namespace Sys2Proof.Laws.Settings

open Sys2Proof Sys2Proof.Machine

/-- Settles O50: SET takes values of the setting's domain alone, and a value put is read back alone. -/
theorem settingsInRange : Obligations.SettingsInRange := by
  unfold Obligations.SettingsInRange
  refine ⟨fun s t h hstep => ?_, fun st h c => ?_, fun st n v h =>
    ⟨st.get_put n h, fun m hm => st.get_put_ne hm v⟩⟩
  · obtain ⟨-, -, -, -, -, hvalid⟩ := PartLaws.of_step hstep
    exact hvalid h
  · obtain ⟨hmin, hordered, hmax, -⟩ := of_decide_eq_true (Settings.valid_route h c)
    exact ⟨hmin, hordered, hmax⟩

end Sys2Proof.Laws.Settings

namespace Sys2Proof.Laws.RunControl

open Sys2Proof Sys2Proof.Machine

/-- Settles O55: the depths of the collections, one by one. -/
theorem queuesBounded : Obligations.QueuesBounded := by
  unfold Obligations.QueuesBounded
  intro s t hs hstep
  rw [State.withinCapacity_iff] at *
  obtain ⟨hstore, hqueues, hlatches, hlink⟩ := hs
  obtain ⟨hplant, hlatches', hlink', -⟩ := PartLaws.of_step hstep
  exact ⟨hplant.steps.length_le hstore, hplant.queues hqueues, hlatches' hlatches, hlink' hlink⟩

/-- Settles O2: every arm of the dispatch answers a next state, which keeps the queue of commands. -/
theorem everyCommandCompletes : Obligations.EveryCommandCompletes := by
  unfold Obligations.EveryCommandCompletes
  intro c s
  obtain ⟨t, h⟩ := exec_completes c s
  exact ⟨t, h, (PartLaws.exec h).side.pending⟩

end Sys2Proof.Laws.RunControl

/-!
SUPPORT. What a START and an ABORT-RUN leave of SETUP (9.1, 9.2, 9.4).
-/

namespace Sys2Proof.Machine

/-- The run state that a request leaves is that of its effect. -/
theorem serve_run {kind tag : Byte} {payload : List Byte} {lens : List Nat} {act : State → Answer × State}
    {s t : State} (h : serve kind tag payload lens act s = .next t) :
    t.run = s.run ∨ ∃ l, t.run = (act { s with link := l }).2.run := by
  rcases serveAfter_next h with rfl | ⟨s0, reply, thenReset, htake, hend⟩
  · exact .inl rfl
  · obtain ⟨-, -, q, rfl, -⟩ := State.takeRequest_eq htake
    rcases hend with rfl | rfl
    · exact .inl (by rw [closeEvent_run]; rfl)
    · exact .inr ⟨_, by rw [closeEvent_run]; rfl⟩

theorem State.startRun_run (s : State) (coils : Coils) :
    (s.startRun coils).run = .conditioning ∨ (s.startRun coils).run = .run := by
  simp only [State.startRun]
  split
  · exact .inl rfl
  · exact .inr rfl

theorem execStart_run {tag : Byte} {payload : List Byte} {coils : Coils} {s t : State}
    (h : execStart tag payload coils s = .next t) :
    t.run = s.run ∨ t.run = .conditioning ∨ t.run = .run := by
  rcases serve_run h with hrun | ⟨l, hrun⟩
  · exact .inl hrun
  · rw [hrun]
    split
    · exact .inl rfl
    · split
      · exact .inl rfl
      · split
        · exact .inl rfl
        · exact .inr (State.startRun_run _ coils)

theorem execAbortRun_run {tag : Byte} {payload : List Byte} {s t : State}
    (h : execAbortRun tag payload s = .next t) : t.run = s.run ∨ t.run = .halted .host := by
  rcases serve_run h with hrun | ⟨l, hrun⟩
  · exact .inl hrun
  · rw [hrun]
    split
    · exact .inr rfl
    · exact .inr rfl
    · exact .inr rfl
    · exact .inr rfl
    · exact .inl rfl

end Sys2Proof.Machine

namespace Sys2Proof.Laws.BeltPosition

open Sys2Proof Sys2Proof.Machine

/-- Settles O9: no other command than an encoder change reaches TC and HW, and SET refuses the settings of
SETUP elsewhere. -/
theorem onlyCountsMoveTc : Obligations.OnlyCountsMoveTc := by
  unfold Obligations.OnlyCountsMoveTc
  intro c s t h hpower
  have hstarts : startsSettings c = false := by
    cases c with
    | powerOn a b f => exact absurd rfl (hpower a b f)
    | _ => rfl
  refine ⟨fun hedge => ?_, fun hrun n hn => (PartLaws.exec h).side.setupOnly ⟨hrun, hstarts⟩ n hn⟩
  obtain ⟨htc, hhw⟩ := exec_samePlace h hpower hedge
  exact ⟨htc, hhw⟩

end Sys2Proof.Laws.BeltPosition

namespace Sys2Proof.Laws.RunControl

open Sys2Proof Sys2Proof.Machine

/-- Settles O14: the laws of the run state that every command keeps, with the effects of START and
ABORT-RUN. -/
theorem runStateRules : Obligations.RunStateRules := by
  unfold Obligations.RunStateRules
  refine ⟨fun c cause s t h hrun hwarm hresume hpower => ?_, fun c s t h hrun hleft => ?_,
    fun c s t h hrun => (PartLaws.exec h).plant.noNew hrun⟩
  · have hstands : endsHalt c = false := by
      cases c with
      | powerOn a b f => exact absurd rfl (hpower a b f)
      | warmReset => exact absurd rfl hwarm
      | resume tag p => exact absurd rfl (hresume tag p)
      | _ => rfl
    exact (PartLaws.exec h).side.halted hstands cause hrun
  · cases hends : endsSetup c with
    | false => exact absurd ((PartLaws.exec h).side.setup hends hrun) hleft
    | true =>
      cases c with
      | start tag p k =>
        have hrun' := execStart_run h
        rw [hrun] at hrun'
        exact .inl ⟨tag, p, k, rfl, hrun'.resolve_left hleft⟩
      | abortRun tag p =>
        have hrun' := execAbortRun_run h
        rw [hrun] at hrun'
        exact .inr ⟨tag, p, rfl, hrun'.resolve_left hleft⟩
      | _ => cases hends

end Sys2Proof.Laws.RunControl

/-!
SUPPORT. Power: the start at POWER_ON with its FLAG notice, SAVE and the loss of the supply (9.5, 9.6).
-/

namespace Sys2Proof.Machine

/-! ### The start at POWER_ON (R149, R162) -/

/-- The part that POWER_ON starts, with the flags it sets and the FLAG notice of them being sent. -/
def startedState (encA encB fireEn : Bool) (settings : Settings) (stored : Option Settings)
    (pending : List Instr) (flags : FlagMask) : State :=
  { fireEnable := fireEn
    settings := settings
    stored := stored
    belt := { refA := encA, refB := encB }
    pending := pending
    flags := flags
    link :=
      { transmitter := some
          { frame := { kind := 0x60, tag := 0, payload := bytes4 flags }, isReply := false, ends := 100 }
        noticeNumber := 1 } }

/-- The blocks of a part that POWER_ON has started, but for its settings and its flags. -/
def FreshBlocks (encA encB : Bool) (t : State) : Prop :=
  t.belt.tc = 0 ∧ t.belt.hw = 0 ∧ t.belt.rx = 0 ∧ t.belt.v = 0 ∧ t.belt.motion = .stopped ∧
    t.belt.refA = encA ∧ t.belt.refB = encB ∧ t.store.records = [] ∧ t.store.nextId = 0 ∧
    (∀ c : ClassCode, t.store.classTallies[c] = ⟨0, 0, 0, 0, 0, 0, 0⟩) ∧
    t.store.globals = ⟨0, 0, 0, 0, 0, 0, 0, 0, 0, 0⟩ ∧
    (∀ b : BankId, (t.bank b).state = .dark ∧ (t.bank b).level = .low ∧ (t.bank b).debt = 0) ∧
    (∀ c : Channel, (t.latch c).watch = false) ∧ (∀ h : Head, (t.heads.get h).present = false) ∧
    (∀ n : NozzleId, (t.nozzle n).grade = .ok) ∧ t.link.notices = [] ∧ t.link.noticeNumber = 1 ∧
    t.link.transmitter = some
      { frame := { kind := 0x60, tag := 0, payload := [0, 0, 0, t.flags.extractLsb' 0 8] }
        isReply := false
        ends := 100 }

theorem startedState_fresh (encA encB fireEn : Bool) (settings : Settings) (stored : Option Settings)
    (pending : List Instr) {flags : FlagMask} (hflags : bytes4 flags = [0, 0, 0, flags.extractLsb' 0 8]) :
    FreshBlocks encA encB (startedState encA encB fireEn settings stored pending flags) := by
  refine ⟨rfl, rfl, by simp [startedState, Belt.rx, serialDiff], rfl, rfl, rfl, rfl, rfl, rfl, fun c => ?_,
    rfl, fun b => ?_, fun c => ?_, fun h => ?_, fun n => ?_, rfl, rfl, ?_⟩
  · simp [startedState]
  · simp [startedState, State.bank]
  · cases c <;> rfl
  · cases h <;> rfl
  · simp [startedState, State.nozzle]
  · simp [startedState, hflags]

theorem exec_powerOn_copy {s : State} {copy : Settings} (h : s.goodCopy = some copy)
    (encA encB fireEn : Bool) : exec (.powerOn encA encB fireEn) s =
      .next (startedState encA encB fireEn copy s.keptCopy s.pending 1) := by
  show execPowerOn encA encB fireEn s = _
  simp [execPowerOn, h, startedState, closeEvent, raiseNotices, newlySet, State.raise, State.transmit,
    State.setFlag, State.setFlagIf, Flag.mask, Flag.position, Config.noticeCapacity, Notice.frame]
  rfl

theorem exec_powerOn_defaults {s : State} (h : s.goodCopy = none) (encA encB fireEn : Bool) :
    exec (.powerOn encA encB fireEn) s =
      .next (startedState encA encB fireEn {} s.keptCopy s.pending 3) := by
  show execPowerOn encA encB fireEn s = _
  simp [execPowerOn, h, startedState, closeEvent, raiseNotices, newlySet, State.raise, State.transmit,
    State.setFlag, State.setFlagIf, Flag.mask, Flag.position, Config.noticeCapacity, Notice.frame]
  rfl

theorem State.goodCopy_of_valid {s : State} {copy : Settings} (h : s.keptCopy = some copy)
    (hvalid : copy.valid = true) : s.goodCopy = some copy := by
  simp [State.goodCopy, h, hvalid]

theorem State.goodCopy_eq_none {s : State}
    (h : ∀ copy, s.keptCopy = some copy → copy.valid = false) : s.goodCopy = none := by
  unfold State.goodCopy
  split
  · rename_i copy hcopy
    simp [h copy hcopy]
  · rfl

theorem State.keptCopy_of_goodCopy {s : State} {copy : Settings} (h : s.goodCopy = some copy) :
    s.keptCopy = some copy ∧ copy.valid = true := by
  unfold State.goodCopy at h
  split at h
  · rename_i kept hkept
    split at h
    · rename_i hvalid
      cases h
      exact ⟨hkept, hvalid⟩
    · cases h
  · cases h

/-! ### SAVE and the supply (R164) -/

/-- A part without supply takes no request. -/
theorem State.takeRequest_unpowered {s : State} (h : s.powered = false) (f : Frame) :
    s.takeRequest f = none := by
  simp [State.takeRequest, h]

theorem serveAfter_unpowered {s : State} (h : s.powered = false) (prepare : State → State)
    (kind tag : Byte) (payload : List Byte) (lens : List Nat) (act : State → Answer × State) :
    serveAfter prepare kind tag payload lens act s = .next s := by
  unfold serveAfter
  rw [State.takeRequest_unpowered h]

theorem serve_unpowered {s : State} (h : s.powered = false) (kind tag : Byte) (payload : List Byte)
    (lens : List Nat) (act : State → Answer × State) : serve kind tag payload lens act s = .next s :=
  serveAfter_unpowered h _ _ _ _ _ _

theorem exec_unpowered {c : Instr} {s : State} (h : s.powered = false) (hfail : c ≠ .powerFailure)
    (hon : ∀ a b f, c ≠ .powerOn a b f) : exec c s = .next s := by
  cases c with
  | powerOn a b f => exact absurd rfl (hon a b f)
  | powerFailure => exact absurd rfl hfail
  | warmReset =>
    show execWarmReset s = _
    simp [execWarmReset, h]
  | save tag payload =>
    show execSave tag payload s = _
    unfold execSave
    rw [State.takeRequest_unpowered h]
  | unknownKind kind tag payload =>
    show execUnknownKind kind tag payload s = _
    unfold execUnknownKind
    rw [State.takeRequest_unpowered h]
  | clearFlags tag payload coils =>
    exact (serveAfter_unpowered h _ _ _ _ _ _ : execClearFlags tag payload coils s = .next s)
  | stop tag payload =>
    exact (serveAfter_unpowered h _ _ _ _ _ _ : execStop tag payload s = .next s)
  | status tag payload =>
    exact (serve_unpowered h _ _ _ _ _ : execStatus tag payload s = .next s)
  | get tag payload =>
    exact (serve_unpowered h _ _ _ _ _ : execGet tag payload s = .next s)
  | set tag payload coils =>
    exact (serve_unpowered h _ _ _ _ _ : execSet tag payload coils s = .next s)
  | start tag payload coils =>
    exact (serve_unpowered h _ _ _ _ _ : execStart tag payload coils s = .next s)
  | abortRun tag payload =>
    exact (serve_unpowered h _ _ _ _ _ : execAbortRun tag payload s = .next s)
  | resume tag payload =>
    exact (serve_unpowered h _ _ _ _ _ : execResume tag payload s = .next s)
  | reset tag payload =>
    exact (serve_unpowered h _ _ _ _ _ : execReset tag payload s = .next s)
  | read tag payload =>
    exact (serve_unpowered h _ _ _ _ _ : execRead tag payload s = .next s)
  | shortRead tag payload =>
    exact (serve_unpowered h _ _ _ _ _ : execShortRead tag payload s = .next s)
  | writeRoute tag payload =>
    exact (serve_unpowered h _ _ _ _ _ : execWriteRoute tag payload s = .next s)
  | writeNozzle tag payload =>
    exact (serve_unpowered h _ _ _ _ _ : execWriteNozzle tag payload s = .next s)
  | fence tag payload =>
    exact (serve_unpowered h _ _ _ _ _ : execFence tag payload s = .next s)
  | unfence tag payload coils =>
    exact (serve_unpowered h _ _ _ _ _ : execUnfence tag payload coils s = .next s)
  | setLevel tag payload =>
    exact (serve_unpowered h _ _ _ _ _ : execSetLevel tag payload s = .next s)
  | latchWatch tag payload =>
    exact (serve_unpowered h _ _ _ _ _ : execLatchWatch tag payload s = .next s)
  | latchNow tag payload =>
    exact (serve_unpowered h _ _ _ _ _ : execLatchNow tag payload s = .next s)
  | inject tag payload coils =>
    exact (serve_unpowered h _ _ _ _ _ : execInject tag payload coils s = .next s)
  | clearTallies tag payload =>
    exact (serve_unpowered h _ _ _ _ _ : execClearTallies tag payload s = .next s)
  | encoderEdge a b coils => exact (event_unpowered h _ : execEncoderEdge a b coils s = .next s)
  | speedSample coils => exact (event_unpowered h _ : execSpeedSample coils s = .next s)
  | stallTimerExpiry coils => exact (event_unpowered h _ : execStallTimerExpiry coils s = .next s)
  | activeEdge line high => exact (event_unpowered h _ : execActiveEdge line high s = .next s)
  | strobeReturn line high => exact (event_unpowered h _ : execStrobeReturn line high s = .next s)
  | filterExpiry line => exact (event_unpowered h _ : execFilterExpiry line s = .next s)
  | deadlineExpiry head seq => exact (event_unpowered h _ : execDeadlineExpiry head seq s = .next s)
  | frameAccepted kind tag payload =>
    exact (event_unpowered h _ : execFrameAccepted kind tag payload s = .next s)
  | frameFault port => exact (event_unpowered h _ : execFrameFault port s = .next s)
  | frameTimerExpiry port => exact (event_unpowered h _ : execFrameTimerExpiry port s = .next s)
  | report head payload coils => exact (event_unpowered h _ : execReport head payload coils s = .next s)
  | headState head payload coils =>
    exact (event_unpowered h _ : execHeadState head payload coils s = .next s)
  | silenceTimerExpiry head coils =>
    exact (event_unpowered h _ : execSilenceTimerExpiry head coils s = .next s)
  | wave b id coils => exact (event_unpowered h _ : execWave b id coils s = .next s)
  | nozzleClosing b m => exact (event_unpowered h _ : execNozzleClosing b m s = .next s)
  | pulseExpiry b id => exact (event_unpowered h _ : execPulseExpiry b id s = .next s)
  | rechargeExpiry b coils => exact (event_unpowered h _ : execRechargeExpiry b coils s = .next s)
  | switchExpiry b coils => exact (event_unpowered h _ : execSwitchExpiry b coils s = .next s)
  | fireEnableFall => exact (event_unpowered h _ : execFireEnableFall s = .next s)
  | fireEnableRise coils => exact (event_unpowered h _ : execFireEnableRise coils s = .next s)
  | purgeTimerExpiry b coils => exact (event_unpowered h _ : execPurgeTimerExpiry b coils s = .next s)
  | purgeExpiry b => exact (event_unpowered h _ : execPurgeExpiry b s = .next s)
  | conditioningStepExpiry b coils =>
    exact (event_unpowered h _ : execConditioningStepExpiry b coils s = .next s)
  | pressureSample microamps => exact (event_unpowered h _ : execPressureSample microamps s = .next s)
  | saveComplete => exact (event_unpowered h _ : execSaveComplete s = .next s)
  | frameSent => exact (event_unpowered h _ : execFrameSent s = .next s)
  | byteReceived port byte stopBit coils =>
    exact (event_unpowered h _ : execByteReceived port byte stopBit coils s = .next s)

theorem exec_save_ready {s : State} (hs : s.ready) (tag : Byte) :
    exec (.save tag []) s = .next (closeEvent s { s with link := { s.link with
      service := .writing tag s.settings (timePlus s.timeBase 200000) } }) := by
  show execSave tag [] s = _
  unfold execSave
  rw [State.takeRequest_ready hs]
  rfl

end Sys2Proof.Machine

/-!
SUPPORT. The statements of power and the stored copy, settled.
-/

namespace Sys2Proof.Laws.Power

open Sys2Proof Sys2Proof.Machine

/-- Settles O3: with a good copy and without one, the state that POWER_ON starts is written out. -/
theorem powerOnStart : Obligations.PowerOnStart := by
  unfold Obligations.PowerOnStart
  intro encA encB fireEn s
  cases hcopy : s.goodCopy with
  | some copy =>
    obtain ⟨hkept, hvalid⟩ := State.keptCopy_of_goodCopy hcopy
    refine ⟨_, exec_powerOn_copy hcopy encA encB fireEn, rfl, rfl, rfl, rfl, fun other hother _ => ?_,
      fun hbad => ?_, rfl, startedState_fresh encA encB fireEn copy s.keptCopy s.pending (by decide)⟩
    · rw [hkept] at hother
      cases hother
      exact ⟨rfl, rfl⟩
    · rw [hbad copy hkept] at hvalid
      cases hvalid
  | none =>
    refine ⟨_, exec_powerOn_defaults hcopy encA encB fireEn, rfl, rfl, rfl, rfl, fun copy hkept hvalid => ?_,
      fun _ => ⟨rfl, rfl⟩, rfl, startedState_fresh encA encB fireEn {} s.keptCopy s.pending (by decide)⟩
    rw [State.goodCopy_of_valid hkept hvalid] at hcopy
    cases hcopy

/-- Settles O4: SAVE, the end of its write, the loss of the supply, and a part without it. -/
theorem saveAndSupplyLoss : Obligations.SaveAndSupplyLoss := by
  unfold Obligations.SaveAndSupplyLoss
  refine ⟨fun tag s hs => exec_save_ready hs tag, fun tag copy ends s hp hservice => ?_, fun s => ?_,
    fun c s hp hfail hon => exec_unpowered hp hfail hon⟩
  · show execSaveComplete s = _
    unfold execSaveComplete
    rw [event_powered hp, hservice]
    rfl
  · show execPowerFailure s = _
    unfold execPowerFailure State.keptCopy
    cases s.link.service <;> rfl

end Sys2Proof.Laws.Power

/-!
SUPPORT. The state after reset (9.5): what POWER_ON makes of a part never saved, with every law.
-/

namespace Sys2Proof.Machine

theorem reset_eq_startedState : State.reset = startedState false false false {} none [] 3 := rfl

theorem exec_powerOn_never_saved {s : State} (hstored : s.stored = none) (hpending : s.pending = []) :
    exec (.powerOn false false false) s = .next State.reset := by
  have hkept : s.keptCopy = none := by
    unfold State.keptCopy
    split
    case h_1 => rfl
    all_goals exact hstored
  have hcopy : s.goodCopy = none := State.goodCopy_eq_none fun copy h => by simp [hkept] at h
  rw [exec_powerOn_defaults hcopy, hkept, hpending, reset_eq_startedState]

theorem reset_bank (b : BankId) : State.reset.bank b = {} := by simp [State.bank, State.reset]

theorem reset_maxDebt (b : BankId) : (State.reset.bankSettings b).maxDebt = 4 := by
  simp [State.bankSettings, State.reset]

theorem reset_balanced : State.reset.store.Balanced := by
  intro _
  simp [State.reset, ClassTally.outcomes]

/-- The laws of the plant hold of the reset state, whose banks are DARK and hold nothing. -/
theorem reset_plant : State.reset.FireSafe ∧ State.reset.BanksClosed ∧ State.reset.DebtsKept ∧
    State.reset.EntriesTracked ∧ State.reset.EntriesOpen := by
  refine ⟨fun _ b m => ?_, fun b => ?_, fun b => ?_, fun b e he => ?_, fun b e he => ?_⟩
  · simp [State.nozzleOpen, reset_bank]
  · simp [Bank.OutOfService, reset_bank, noNozzleOpen]
  · rw [reset_maxDebt, reset_bank]
    decide
  · simp [reset_bank] at he
  · simp [reset_bank] at he

theorem reset_withinCapacity : State.reset.WithinCapacity := by
  refine ⟨Nat.zero_le _, fun b => ?_, Nat.zero_le _, Nat.zero_le _, Nat.zero_le _, Nat.zero_le _,
    Nat.zero_le _, Nat.zero_le _⟩
  simp [reset_bank]

end Sys2Proof.Machine

namespace Sys2Proof.Laws.Power

open Sys2Proof Sys2Proof.Machine

/-- Settles O60: the laws one by one, the power-on that leads there, and the defaults. -/
theorem resetState : Obligations.ResetState := by
  unfold Obligations.ResetState
  obtain ⟨hfire, hclosed, hdebts, htracked, hopen⟩ := reset_plant
  refine ⟨⟨?_, ⟨Nat.zero_le _, List.nodup_nil⟩, reset_balanced, hfire, hclosed, hdebts, ⟨rfl, Nat.zero_le _⟩,
    fun n => ?_, ?_, reset_withinCapacity, htracked, hopen, Settings.valid_default⟩,
    fun s hstored hpending => exec_powerOn_never_saved hstored hpending, fun c => ?_, fun b => ?_, ?_⟩
  · simp [State.RxKept, State.reset, Belt.rx, serialDiff]
  · simp [State.nozzle, State.reset, Nozzle.Graded]
  · simp [State.FlagsCarried, State.reset, carriedFlags]
  · simp [State.reset]
  · simp [State.reset]
  · decide

end Sys2Proof.Laws.Power

/-!
SUPPORT. What the strobe latches do beyond one capture: the entries that leave a FIFO as UNREPORTED (R29,
R30, R35), the room made for a capture (R27), the slip check (R17, R18), and the conditions of the heads
(R31, R33, R48).
-/

namespace Sys2Proof.Machine

/-! ### Entries that leave a FIFO (R29, R30, R35) -/

@[simp] theorem State.setLatch_latch (s : State) (c : Channel) : s.setLatch c (s.latch c) = s := by
  simp [State.setLatch, State.latch]

/-- Removals as UNREPORTED take so many entries off the FIFO, count each and may move the cursor and set
the channel's flag; nothing else changes. -/
theorem State.removeOldest_eq (s : State) (c : Channel) (n : Nat) :
    ∃ k fl, s.removeOldest c n =
      { s.setLatch c { s.latch c with fifo := (s.latch c).fifo.drop n } with
        cursors := k, flags := fl
        store := { s.store with globals := { s.store.globals with
          unreported := satInc^[n] s.store.globals.unreported } } } := by
  induction n generalizing s with
  | zero => exact ⟨s.cursors, s.flags, (s.setLatch_latch c).symm⟩
  | succ n ih =>
    obtain ⟨k, fl, hrest⟩ := ih (s.removeUnreported c)
    obtain ⟨k', hpop⟩ := s.popOldest_eq c
    refine ⟨k, fl, hrest.trans ?_⟩
    cases hf : unreportedFlag c <;>
      simp [State.removeUnreported, hpop, hf, State.setFlag?, State.setFlag, State.modGlobals,
        State.setLatch, State.latch]

theorem State.flag_removeOldest (s : State) (c : Channel) (n : Nat) (f : Flag) :
    (s.removeOldest c n).flag f = (s.flag f || decide (0 < n ∧ unreportedFlag c = some f)) := by
  induction n generalizing s with
  | zero => simp [State.removeOldest]
  | succ n ih =>
    have hone : (s.removeUnreported c).flag f = (s.flag f || decide (unreportedFlag c = some f)) := by
      unfold State.removeUnreported
      rw [State.flag_setFlag?]
      exact congrArg (· || _) (s.popOldest_flag c f)
    rw [State.removeOldest, ih, hone]
    by_cases hc : unreportedFlag c = some f <;> simp [hc]

theorem olderThan_append {older newer : List LatchEntry} {e : LatchEntry}
    (h : ∀ x ∈ older, x.seq ≠ e.seq) : olderThan (older ++ e :: newer) e.seq = some older.length := by
  induction older with
  | nil => simp [olderThan]
  | cons x rest ih =>
    have hrest := ih fun y hy => h y (List.mem_cons_of_mem x hy)
    simp [olderThan, h x List.mem_cons_self, hrest]

theorem find?_seq_append {older newer : List LatchEntry} {e : LatchEntry}
    (h : ∀ x ∈ older, x.seq ≠ e.seq) :
    ((older ++ e :: newer).find? fun x => decide (x.seq = e.seq)) = some e := by
  have hnone : (older.find? fun x => decide (x.seq = e.seq)) = none := by simpa using h
  simp [List.find?_append, hnone]

/-! ### Captures (R26, R27) -/

/-- A head's FIFO with room keeps its entries for a capture. -/
theorem State.makeRoom_of_room {s : State} (h : Head)
    (hroom : (s.latch (channelOfLine (lineOfHead h))).fifo.length < 16) :
    s.makeRoom (channelOfLine (lineOfHead h)) = s := by
  cases h <;> exact if_neg (Nat.not_le.mpr hroom)

/-- A head's full FIFO loses its oldest entry as UNREPORTED with the overrun flag. -/
theorem State.makeRoom_of_full {s : State} (h : Head)
    (hfull : 16 ≤ (s.latch (channelOfLine (lineOfHead h))).fifo.length) :
    s.makeRoom (channelOfLine (lineOfHead h)) = (s.removeOldest (channelOfLine (lineOfHead h)) 1).setFlag?
      (overrunFlag (channelOfLine (lineOfHead h))) := by
  cases h <;> exact if_pos hfull

/-- The room that a head's capture finds: its FIFO without the oldest entry of 16, that one counted, and
nothing else changed but a cursor and flags. -/
theorem State.makeRoom_head (s : State) (h : Head) :
    let c := channelOfLine (lineOfHead h)
    ∃ k fl g, s.makeRoom c =
      { s.setLatch c { s.latch c with fifo :=
          if 16 ≤ (s.latch c).fifo.length then (s.latch c).fifo.tail else (s.latch c).fifo } with
        cursors := k, flags := fl, store := { s.store with globals := g } } := by
  dsimp only
  by_cases hfull : 16 ≤ (s.latch (channelOfLine (lineOfHead h))).fifo.length
  · obtain ⟨k, fl, hone⟩ := s.removeOldest_eq (channelOfLine (lineOfHead h)) 1
    rw [State.makeRoom_of_full h hfull, hone, if_pos hfull]
    rw [List.drop_one]
    cases h <;> exact ⟨k, _, _, rfl⟩
  · refine ⟨s.cursors, s.flags, s.store.globals, ?_⟩
    rw [State.makeRoom_of_room h (Nat.not_le.mp hfull), if_neg hfull]
    exact (s.setLatch_latch _).symm

/-! ### The slip check (R17, R18) -/

/-- Without a loop length, or with a loop within the tolerance, the check moves the slip condition alone;
a loop off the tolerance sets SLIP too. -/
theorem State.slipCheck_eq (s : State) (loop : Int) :
    let off := s.settings.loopLength ≠ 0 ∧
      (s.settings.slipTolerance : Int) < |loop - (s.settings.loopLength : Int)|
    ∃ fl, s.slipCheck loop = { s with
      flags := fl
      belt := { s.belt with
        slip := if s.settings.loopLength = 0 then s.belt.slip else decide off } } ∧
      (off → (s.slipCheck loop).flag .slip = true) := by
  intro off
  unfold State.slipCheck
  by_cases hzero : s.settings.loopLength = 0
  · exact ⟨s.flags, by rw [if_pos hzero, if_pos hzero], fun h => absurd hzero h.1⟩
  · rw [if_neg hzero, if_neg hzero, Int.natCast_natAbs]
    by_cases hfar : (s.settings.slipTolerance : Int) < |loop - (s.settings.loopLength : Int)|
    · rw [if_pos hfar]
      exact ⟨_, by rw [decide_eq_true (show off from ⟨hzero, hfar⟩)]; rfl,
        fun _ => by simp [State.flag_setFlag]⟩
    · rw [if_neg hfar]
      exact ⟨s.flags, by rw [decide_eq_false (show ¬off from fun h => hfar h.2)],
        fun h => absurd h.2 hfar⟩

/-! ### Edges and the filter's expiry (R25, R26) -/

theorem execActiveEdge_powered {s : State} (hs : s.powered = true) (line : Line) (high : Bool) :
    execActiveEdge line high s = .next (closeEvent s
      (if (s.latch (channelOfLine line)).watch = true ∧ high = (s.settings.line line).edge.activeHigh then
        s.setLatch (channelOfLine line) { s.latch (channelOfLine line) with
          edge := some
            { position := s.belt.tc
              time := s.timeBase
              filterEnds := timePlus s.timeBase (s.settings.line line).filter.width } }
      else s)) := event_powered hs _

theorem execStrobeReturn_powered {s : State} (hs : s.powered = true) (line : Line) (high : Bool) :
    execStrobeReturn line high s = .next (closeEvent s
      (if high = (s.settings.line line).edge.activeHigh then s
      else s.setLatch (channelOfLine line) { s.latch (channelOfLine line) with edge := none })) :=
  event_powered hs _

/-- The state in which the filter's expiry makes its capture: at the expiry's time, without the pending
edge. -/
def State.filtered (s : State) (c : Channel) (p : PendingEdge) : State :=
  (s.atTime p.filterEnds).setLatch c { s.latch c with edge := none }

theorem execFilterExpiry_powered {s : State} (hs : s.powered = true) {line : Line} {p : PendingEdge}
    (hp : (s.latch (channelOfLine line)).edge = some p) :
    execFilterExpiry line s = .next (closeEvent s
      ((s.filtered (channelOfLine line) p).lineCapture line p.position p.time)) := by
  unfold execFilterExpiry
  rw [event_powered hs, hp]
  rfl

/-- A head's capture, whole: the channel with the new entry, and nothing else but the tallies, the
LATCH cursor and flags. -/
theorem State.capture_head (s : State) (h : Head) (position : Pos) (time : Time) :
    let c := channelOfLine (lineOfHead h)
    let l := s.latch c
    ∃ k fl g, s.capture c position time =
      { s.setLatch c
          { watch := l.watch && decide (s.settings.mode c = .every)
            captured := l.captured || l.watch
            toggle := xor l.toggle l.watch
            seq := l.seq + 1
            fifo := (if 16 ≤ l.fifo.length then l.fifo.tail else l.fifo) ++
              [{ seq := l.seq, position := position, time := time
                 deadline := some (timePlus time (s.settings.reportDeadline * 1000)) }]
            edge := l.edge } with
        cursors := k, flags := fl, store := { s.store with globals := g } } := by
  obtain ⟨k, fl, g, hroom⟩ := s.makeRoom_head h
  refine ⟨k, fl, g, ?_⟩
  rw [State.capture_eq, hroom]
  cases h <;> simp [State.modLatch, State.setLatch, State.latch, State.deadlineOf, channelOfLine, lineOfHead]

/-- A capture keeps the flags and the tallies that making room leaves. -/
theorem State.capture_flags (s : State) (c : Channel) (position : Pos) (time : Time) :
    (s.capture c position time).flags = (s.makeRoom c).flags ∧
      (s.capture c position time).store = (s.makeRoom c).store := by
  rw [State.capture_eq]
  exact ⟨rfl, rfl⟩

/-- What the filter's expiry leaves on a head's line: its time, the channel with the new entry, and
nothing else but the tallies, the LATCH cursor and flags. -/
theorem State.filtered_capture_head (s : State) (h : Head) (p : PendingEdge) :
    let c := channelOfLine (lineOfHead h)
    let l := s.latch c
    ∃ k fl g, (s.filtered c p).capture c p.position p.time =
      { s with
        timeBase := laterOf s.timeBase p.filterEnds, cursors := k, flags := fl
        store := { s.store with globals := g }
        latches := s.latches.put c
          { watch := l.watch && decide (s.settings.mode c = .every)
            captured := l.captured || l.watch
            toggle := xor l.toggle l.watch
            seq := l.seq + 1
            fifo := (if 16 ≤ l.fifo.length then l.fifo.tail else l.fifo) ++
              [{ seq := l.seq, position := p.position, time := p.time
                 deadline := some (timePlus p.time (s.settings.reportDeadline * 1000)) }]
            edge := none } } := by
  obtain ⟨k, fl, g, hcap⟩ :=
    (s.filtered (channelOfLine (lineOfHead h)) p).capture_head h p.position p.time
  refine ⟨k, fl, g, hcap.trans ?_⟩
  simp only [State.filtered, State.latch, State.setLatch, State.atTime, Latches.get_put, Latches.put_put]
  rfl

/-- What the filter's expiry leaves on BM before the slip check: the channel with the new entry in the
place of the one held. -/
theorem State.filtered_capture_bm {s : State} (hdepth : s.latches.bm.fifo.length ≤ 1) (p : PendingEdge) :
    let l := s.latches.bm
    let u := (s.filtered .bm p).capture .bm p.position p.time
    u.latches.bm =
        { watch := l.watch && decide (s.settings.bm.mode = .every)
          captured := l.captured || l.watch
          toggle := xor l.toggle l.watch
          seq := l.seq + 1
          fifo := [{ seq := l.seq, position := p.position, time := p.time, deadline := none }]
          edge := none } ∧
      u.belt = s.belt ∧ u.store = s.store ∧ u.banks = s.banks ∧ u.run = s.run ∧
      u.settings = s.settings := by
  obtain ⟨k, hcap⟩ := State.capture_single (s := s.filtered .bm p) (.inl rfl) hdepth p.position p.time
  dsimp only
  rw [hcap]
  exact ⟨rfl, rfl, rfl, rfl, rfl, rfl⟩

theorem State.lineCapture_first {s : State} (hm : s.settings.bm.mode = .first) (position : Pos)
    (time : Time) : s.lineCapture .bm position time = s.capture .bm position time := by
  have hmode : s.settings.mode .bm = .first := hm
  simp [State.lineCapture, hmode, channelOfLine]

theorem State.lineCapture_every {s : State} (hm : s.settings.bm.mode = .every) (position : Pos)
    (time : Time) :
    s.lineCapture .bm position time = (s.capture .bm position time).markCapture position := by
  have hmode : s.settings.mode .bm = .every := hm
  simp [State.lineCapture, hmode, channelOfLine]

theorem State.markCapture_first {s : State} (h : s.belt.prevMark = none) (position : Pos) :
    s.markCapture position = { s with belt := { s.belt with prevMark := some position } } := by
  simp only [State.markCapture, h]

/-- A further mark: the loop is kept and checked, and nothing else changes but flags. -/
theorem State.markCapture_next {s : State} {previous : Pos} (h : s.belt.prevMark = some previous)
    (position : Pos) :
    let loop := serialDiff position previous
    let off := s.settings.loopLength ≠ 0 ∧
      (s.settings.slipTolerance : Int) < |loop - (s.settings.loopLength : Int)|
    ∃ fl, s.markCapture position = { s with
      flags := fl
      belt := { s.belt with
        prevMark := some position
        lastLoop := some loop
        slip := if s.settings.loopLength = 0 then s.belt.slip else decide off } } ∧
      (off → (s.markCapture position).flag .slip = true) := by
  simp only [State.markCapture, h]
  exact State.slipCheck_eq ({ s with belt := { s.belt with
    lastLoop := some (serialDiff position previous), prevMark := some position } } : State) _

theorem execDeadlineExpiry_held {s : State} (hs : s.powered = true) {h : Head}
    {older newer : List LatchEntry} {e : LatchEntry} {due : Time}
    (hfifo : (s.latch (channelOfLine (lineOfHead h))).fifo = older ++ e :: newer)
    (hne : ∀ x ∈ older, x.seq ≠ e.seq) (hdue : e.deadline = some due) :
    execDeadlineExpiry h e.seq s = .next (closeEvent s
      ((s.atTime due).removeOldest (channelOfLine (lineOfHead h)) (older.length + 1))) := by
  unfold execDeadlineExpiry
  rw [event_powered hs]
  simp only [hfifo, find?_seq_append hne, hdue, olderThan_append hne]

/-! ### What the work on records keeps (R48, R52, R61) -/

/-- No record of the store is JOINING. -/
def State.NoneJoining (s : State) : Prop := ∀ r ∈ s.store.records, r.state ≠ .joining

/-- The work of the store, the Planner and the banks on records makes no record JOINING and counts no
entry UNREPORTED. -/
structure RecordWork (s t : State) : Prop where
  noneJoining : s.NoneJoining → t.NoneJoining
  unreported : t.store.globals.unreported = s.store.globals.unreported

namespace RecordWork

theorem refl (s : State) : RecordWork s s := ⟨id, rfl⟩

theorem trans {s t u : State} (h : RecordWork s t) (k : RecordWork t u) : RecordWork s u :=
  ⟨fun hs => k.noneJoining (h.noneJoining hs), k.unreported.trans h.unreported⟩

/-- A change of tallies, or of anything off the store. -/
theorem of_eq {s t : State} (hr : t.store.records = s.store.records)
    (hu : t.store.globals.unreported = s.store.globals.unreported) : RecordWork s t :=
  ⟨fun hs => by unfold State.NoneJoining; rw [hr]; exact hs, hu⟩

theorem of_store {s t : State} (h : t.store = s.store) : RecordWork s t := of_eq (by rw [h]) (by rw [h])

theorem foldl {α : Type} {f : State → α → State} (h : ∀ t a, RecordWork t (f t a)) (l : List α)
    (s : State) : RecordWork s (l.foldl f s) := by
  induction l generalizing s with
  | nil => exact refl s
  | cons a l ih => exact (h s a).trans (ih (f s a))

theorem modRecord (s : State) (id : TrackId) {f : Record → Record}
    (hf : ∀ r, r.state ≠ .joining → (f r).state ≠ .joining) : RecordWork s (s.modRecord id f) := by
  refine ⟨fun hs r hr => ?_, rfl⟩
  obtain ⟨q, hq, rfl⟩ := List.mem_map.mp hr
  split
  · exact hf q (hs q hq)
  · exact hs q hq

theorem countCause (s : State) (c : Cause) : RecordWork s (s.countCause c) :=
  of_eq rfl (by cases c <;> rfl)

theorem retireTest (s : State) (id : TrackId) : RecordWork s (s.retireTest id) := by
  unfold State.retireTest
  split
  · exact refl s
  · split
    · refine ⟨fun hs r hr => ?_, by rw [State.removeRecord_store]; rfl⟩
      rw [State.removeRecord_store] at hr
      exact hs r (List.mem_of_mem_filter hr)
    · exact refl s

theorem endRecord (s : State) (id : TrackId) {st : RecState} (hst : st ≠ .joining) (miss : Option Cause) :
    RecordWork s (s.endRecord id st miss) :=
  (modRecord s id fun _ _ => hst).trans (retireTest _ id)

theorem outcomeRule (s : State) (id : TrackId) : RecordWork s (s.outcomeRule id) := by
  unfold State.outcomeRule
  split
  · exact refl s
  · split
    · exact refl s
    · split
      · refine endRecord s id ?_ _
        unfold outcomeOf
        split
        · nofun
        · split
          · nofun
          · split <;> nofun
      · exact refl s

theorem reportPart (s : State) (id : TrackId) (b : BankId) (result : PartResult)
    (level : Option Level) : RecordWork s (s.reportPart id b result level) := by
  have hreport : RecordWork s (s.modRecord id fun q => q.report b result level) :=
    modRecord s id fun r hr => by
      dsimp only [Record.report]
      split
      · nofun
      · exact hr
  unfold State.reportPart
  split
  · exact refl s
  · split
    · refine .trans ?_ (outcomeRule _ id)
      split
      · exact hreport.trans (countCause _ _)
      · exact hreport
    · exact refl s

/-! #### Fences and purges -/

theorem fenceBank (s : State) (b : BankId) : RecordWork s (s.fenceBank b) := by
  unfold State.fenceBank
  split
  · exact refl s
  · have hready : ∀ t : State, RecordWork t t.readinessTest := fun t =>
      of_store (by unfold State.readinessTest; split <;> rfl)
    refine .trans (.trans ?_ (foldl (fun t (e : Entry) => reportPart t e.track b _ none) _ _)) (hready _)
    exact of_store rfl

theorem autoFence (s : State) (b : BankId) : RecordWork s (s.autoFence b) := by
  unfold State.autoFence
  split
  · exact (fenceBank s b).trans (of_store rfl)
  · exact refl s

theorem badCheck (s : State) (b : BankId) (m : Member) : RecordWork s (s.badCheck b m) := by
  have hset : RecordWork s (s.setNozzle (nozzleOf b m) (s.nozzle (nozzleOf b m)).bad) := of_store rfl
  unfold State.badCheck
  dsimp only
  split
  · refine hset.trans (.trans ?_ (autoFence _ b))
    exact of_store rfl
  · exact hset

theorem drive (s : State) (b : BankId) (m : Member) (closing : Time) (coils : Coils) :
    RecordWork s (s.drive b m closing coils) := by
  unfold State.drive
  split
  · split
    · exact of_store rfl
    · exact badCheck s b m
  · exact refl s

theorem purgeMember (b : BankId) (closing : Time) (coils : Coils) (s : State) (m : Member) :
    RecordWork s (State.purgeMember b closing coils s m) := by
  unfold State.purgeMember
  split
  · exact refl s
  · split
    · exact (drive s b m closing coils).trans (of_store rfl)
    · exact drive s b m closing coils

theorem startPurge (s : State) (b : BankId) (kind : PurgeKind) (coils : Coils) :
    RecordWork s (s.startPurge b kind coils) := by
  refine .trans ?_ (foldl (purgeMember b _ coils) _ _)
  cases kind <;> exact of_store rfl

theorem purgeTest (coils : Coils) (s : State) (b : BankId) : RecordWork s (State.purgeTest coils s b) := by
  unfold State.purgeTest
  dsimp only
  split
  · split
    · exact startPurge s b .forced coils
    · split
      · exact startPurge s b .opportunistic coils
      · exact refl s
  · exact refl s

theorem purgeTests (s : State) (coils : Coils) : RecordWork s (s.purgeTests coils) :=
  foldl (purgeTest coils) _ s

/-! #### Offers and the planning event -/

theorem headTest (s : State) (b : BankId) : RecordWork s (s.headTest b) := by
  unfold State.headTest
  split
  · split
    · exact of_store rfl
    · exact refl s
  · exact refl s

theorem offer (s : State) (b : BankId) (o : Offer) : RecordWork s (s.offer b o) := by
  unfold State.offer
  split
  · refine .trans (.trans ?_ (reportPart _ o.track b .waiting (some _))) (headTest _ b)
    exact of_store rfl
  · exact reportPart s o.track b _ none

theorem missRecord (s : State) (id : TrackId) (cause : Cause) : RecordWork s (s.missRecord id cause) :=
  (countCause s cause).trans (endRecord _ id (by decide) _)

theorem planPass (s : State) (r : Record) (route : Route) (bar : Bar) :
    RecordWork s (s.planPass r route bar) := by
  unfold State.planPass
  split
  · split
    · exact missRecord s r.id .slow
    · exact refl s
  · dsimp only
    split
    · exact missRecord s r.id .late
    · split
      · refine .trans (modRecord s r.id ?_) (missRecord _ r.id .unavailable)
        exact fun _ h => h
      · exact (modRecord s r.id fun _ _ => RecState.noConfusion).trans (foldl (fun t (p : Part) => offer t p.bank _) _ _)

theorem dealReady (s : State) (id : TrackId) : RecordWork s (s.dealReady id) := by
  unfold State.dealReady
  split
  · exact refl s
  · split
    · split
      · exact endRecord s id (by decide) none
      · exact planPass s _ _ _
    · exact refl s

theorem planningEvent (s : State) (id : TrackId) : RecordWork s (s.planningEvent id) := by
  refine .trans (modRecord s id fun r hr => ?_) (dealReady _ id)
  rw [if_neg hr]
  exact hr

theorem horizonTest (s : State) (id : TrackId) : RecordWork s (s.horizonTest id) := by
  unfold State.horizonTest
  split
  · exact refl s
  · split
    · exact planningEvent s id
    · exact refl s

end RecordWork

theorem State.resolveJoining_noneJoining (s : State) : s.resolveJoining.NoneJoining := by
  intro r hr
  obtain ⟨q, -, rfl⟩ := List.mem_map.mp hr
  split
  · simp [State.resolveReady]
  · assumption

theorem State.joiningLost_noneJoining (s : State) (coils : Coils) : (s.joiningLost coils).NoneJoining := by
  unfold State.joiningLost
  split
  · exact (RecordWork.purgeTests _ coils).noneJoining s.resolveJoining_noneJoining
  · rename_i hnone
    simpa [State.NoneJoining] using hnone

/-- A head report in RUN counts no entry UNREPORTED. -/
theorem State.handReport_unreported (s : State) (h : Head) (p : HeadPart) (coils : Coils) :
    (s.handReport h p coils).store.globals.unreported = s.store.globals.unreported := by
  have hcreate : ∀ make, (s.createOrDrop p make coils).store.globals.unreported =
      s.store.globals.unreported := fun make => by
    unfold State.createOrDrop
    split
    · rfl
    · unfold State.addRecord
      rw [(RecordWork.purgeTests _ coils).unreported, (RecordWork.horizonTest _ _).unreported]
      rfl
  unfold State.handReport
  split
  · cases h with
    | a => exact hcreate _
    | b =>
      dsimp only [State.reportB]
      split
      · unfold State.join
        rw [(RecordWork.purgeTests _ coils).unreported, (RecordWork.horizonTest _ _).unreported]
      · exact hcreate _
  · rfl

/-! ### The heads (R31, R33, R48) -/

@[simp] theorem Heads.put_get (l : Heads) (h : Head) : l.put h (l.get h) = l := by cases h <;> rfl

@[simp] theorem Heads.put_put (l : Heads) (h : Head) (v w : HeadStatus) :
    (l.put h v).put h w = l.put h w := by cases h <;> rfl

theorem State.headLost_heads (s : State) (h : Head) (coils : Coils) :
    (s.headLost h coils).heads = s.heads.put h { s.heads.get h with present := false } := by
  unfold State.headLost
  split
  · cases h with
    | a => rfl
    | b => exact (BankSide.joiningLost _ coils).heads
  · rename_i hlost
    have hsame : { s.heads.get h with present := false } = s.heads.get h := by
      rw [← Bool.eq_false_iff.mpr hlost]
    rw [hsame, Heads.put_get]

theorem State.headLost_timeBase (s : State) (h : Head) (coils : Coils) :
    (s.headLost h coils).timeBase = s.timeBase := by
  unfold State.headLost
  split
  · cases h with
    | a => rfl
    | b => exact (BankSide.joiningLost _ coils).timeBase
  · rfl

theorem State.headLost_sets {s : State} {h : Head} (hp : (s.heads.get h).present = true) (coils : Coils) :
    (s.headLost h coils).flag (headLostFlag h) = true := by
  unfold State.headLost
  rw [if_pos hp]
  cases h with
  | a => simp [State.flag_setFlag]
  | b => exact (BankSide.joiningLost _ coils).flag_of_flag (by simp [State.flag_setFlag])

theorem State.headLost_noneJoining {s : State} (hp : (s.heads.get .b).present = true) (coils : Coils) :
    (s.headLost .b coils).NoneJoining := by
  unfold State.headLost
  rw [if_pos hp]
  exact State.joiningLost_noneJoining _ coils

theorem execHeadState_powered {s : State} (hs : s.powered = true) (h : Head) (payload : List Byte)
    (coils : Coils) : execHeadState h payload coils s =
      .next (closeEvent s ((s.huntHead h).takeHeadState h payload coils)) := event_powered hs _

theorem headLostFlag_ne_noticeDropped (h : Head) : headLostFlag h ≠ .noticeDropped := by cases h <;> decide

/-- The close of an event that set no flag and left the run state leaves the flags. -/
theorem closeEvent_flags_quiet {b a : State} (hf : a.flags = b.flags) (hr : a.run = b.run) :
    (closeEvent b a).flags = b.flags := by
  rw [closeEvent_quiet hf hr]
  obtain ⟨l, htransmit⟩ := State.transmit_eq a
  rw [htransmit, ← hf]

/-! ### Binding (R35) -/

/-- The state in which a REPORT of 7 bytes is bound: the receiver in HUNT, the silence timer restarted and
REPORT_CLAMPED set where a field was out of range. -/
def State.asked (s : State) (h : Head) (payload : List Byte) : State :=
  ((s.huntHead h).restartSilence h).setFlagIf
    (decide (readReport payload ≠ (readReport payload).clamped)) .reportClamped

theorem State.takeReport_asked (s : State) (h : Head) {payload : List Byte} (hlen : payload.length = 7)
    (coils : Coils) : (s.huntHead h).takeReport h payload coils =
      (s.asked h payload).bind h (readReport payload).clamped coils := if_pos hlen

theorem State.asked_eq (s : State) (h : Head) (payload : List Byte) :
    ∃ fl l, s.asked h payload = { s with
      flags := fl, link := l
      heads := s.heads.put h { s.heads.get h with
        silence := some (timePlus s.timeBase (s.settings.silenceTimeout * 1000)) } } ∧
      (readReport payload = (readReport payload).clamped → fl = s.flags) := by
  unfold State.asked State.setFlagIf
  split
  · rename_i hout
    exact ⟨_, _, rfl, fun hin => absurd hin (of_decide_eq_true hout)⟩
  · exact ⟨_, _, rfl, fun _ => rfl⟩

/-- The channel of a bound report loses the matched entry and the older ones; nothing else changes but the
tally of UNREPORTED entries, the LATCH cursor and flags. -/
theorem State.removeOldest_popOldest (s : State) (c : Channel) (n : Nat) :
    ∃ k fl, (s.removeOldest c n).popOldest c =
      { s.setLatch c { s.latch c with fifo := (s.latch c).fifo.drop (n + 1) } with
        cursors := k, flags := fl
        store := { s.store with globals := { s.store.globals with
          unreported := satInc^[n] s.store.globals.unreported } } } ∧ (n = 0 → fl = s.flags) := by
  obtain ⟨k, fl, hrem⟩ := s.removeOldest_eq c n
  obtain ⟨k', hpop⟩ := (s.removeOldest c n).popOldest_eq c
  refine ⟨k', fl, ?_, fun hn => ?_⟩
  · rw [hpop, hrem]
    simp [State.setLatch, State.latch]
  · subst hn
    exact (congrArg State.flags hrem).symm

/-- The state that a bound report of 7 bytes is handed on in: the channel without the matched entry and the
older ones, these counted, the silence timer restarted, and nothing else changed but flags, the receiver
and the LATCH cursor. -/
theorem State.asked_bound (s : State) (h : Head) (payload : List Byte) {older newer : List LatchEntry}
    {e : LatchEntry} (hfifo : (s.latch (channelOfLine (lineOfHead h))).fifo = older ++ e :: newer) :
    let c := channelOfLine (lineOfHead h)
    ∃ k fl l, ((s.asked h payload).removeOldest c older.length).popOldest c = { s with
      latches := s.latches.put c { s.latch c with fifo := newer }
      heads := s.heads.put h { s.heads.get h with
        silence := some (timePlus s.timeBase (s.settings.silenceTimeout * 1000)) }
      store := { s.store with globals := { s.store.globals with
        unreported := satInc^[older.length] s.store.globals.unreported } }
      cursors := k, flags := fl, link := l } ∧
      (older = [] → readReport payload = (readReport payload).clamped → fl = s.flags) := by
  obtain ⟨fl, l, hask, hquiet⟩ := s.asked_eq h payload
  obtain ⟨k, fl', hrem, hkeep⟩ :=
    (s.asked h payload).removeOldest_popOldest (channelOfLine (lineOfHead h)) older.length
  have hsame : ((s.asked h payload).latch (channelOfLine (lineOfHead h))).fifo = older ++ e :: newer := by
    rw [hask]
    exact hfifo
  have hdrop : (older ++ e :: newer).drop (older.length + 1) = newer := by simp
  rw [hsame, hdrop] at hrem
  refine ⟨k, fl', l, ?_, fun hold hin => ?_⟩
  · rw [hrem, hask]
    rfl
  · rw [hkeep (by rw [hold]; rfl), hask, hquiet hin]

/-- A report that matches an entry takes it and the older ones out and is handed on with its position. -/
theorem State.bind_bound {s : State} {h : Head} {r : ReportFields} {older newer : List LatchEntry}
    {e : LatchEntry} (hfifo : (s.latch (channelOfLine (lineOfHead h))).fifo = older ++ e :: newer)
    (hseq : e.seq = r.seq) (hne : ∀ x ∈ older, x.seq ≠ e.seq) (coils : Coils) :
    s.bind h r coils = ((s.removeOldest (channelOfLine (lineOfHead h)) older.length).popOldest
      (channelOfLine (lineOfHead h))).handReport h (r.part e.position) coils := by
  unfold State.bind
  simp only [hfifo, ← hseq, find?_seq_append hne, olderThan_append hne]

theorem State.bind_orphan {s : State} {h : Head} {r : ReportFields}
    (hnone : ∀ x ∈ (s.latch (channelOfLine (lineOfHead h))).fifo, x.seq ≠ r.seq) (coils : Coils) :
    s.bind h r coils = s.setFlag (orphanFlag h) := by
  have hfind : ((s.latch (channelOfLine (lineOfHead h))).fifo.find? fun e => decide (e.seq = r.seq)) =
      none := by simpa using hnone
  unfold State.bind
  simp only [hfind]

end Sys2Proof.Machine

/-!
SUPPORT. The statements of the strobe latches and of the head conditions, settled (R25 to R36, R48).
-/

namespace Sys2Proof.Laws.StrobeLatches

open Sys2Proof Sys2Proof.Machine

/-- Settles O15: each event is one test of the level and the watch. -/
theorem strobeEdges : Obligations.StrobeEdges := by
  unfold Obligations.StrobeEdges
  intro line high s hs
  refine ⟨fun hw ha => ?_, fun hno => ?_, fun hne => ?_, fun heq => ?_⟩
  · exact (execActiveEdge_powered hs line high).trans (by rw [if_pos ⟨hw, ha⟩])
  · exact (execActiveEdge_powered hs line high).trans (by rw [if_neg hno])
  · exact (execStrobeReturn_powered hs line high).trans (by rw [if_neg hne])
  · exact (execStrobeReturn_powered hs line high).trans (by rw [if_pos heq])

/-- A capture from a pending edge on a head's line, at the filter's expiry. -/
theorem filterExpiry_head {h : Head} {p : PendingEdge} {s : State} (hs : s.powered = true)
    (hp : (s.latch (channelOfLine (lineOfHead h))).edge = some p) :
    exec (.filterExpiry (lineOfHead h)) s = .next (closeEvent s
      ((s.filtered (channelOfLine (lineOfHead h)) p).capture (channelOfLine (lineOfHead h)) p.position
        p.time)) := by
  show execFilterExpiry _ s = _
  rw [execFilterExpiry_powered hs hp]
  cases h <;> rfl

/-- Settles O16: on a head's line the capture is `State.capture_head`, with the flags and the tally of the
room made; on BM it is `State.capture_single`, and the slip check follows in EVERY mode. -/
theorem strobeCapture : Obligations.StrobeCapture := by
  unfold Obligations.StrobeCapture
  refine ⟨fun h p s hs => ?_, fun p s hs => ?_⟩
  · dsimp only
    intro hp
    refine ⟨_, filterExpiry_head hs hp, ?_⟩
    have hflags := (s.filtered (channelOfLine (lineOfHead h)) p).capture_flags (channelOfLine (lineOfHead h))
      p.position p.time
    have hfifo : ((s.filtered (channelOfLine (lineOfHead h)) p).latch (channelOfLine (lineOfHead h))).fifo =
        (s.latch (channelOfLine (lineOfHead h))).fifo := by
      simp [State.filtered, State.latch, State.setLatch]
    obtain ⟨k, fl, g, hcap⟩ := s.filtered_capture_head h p
    rw [hcap] at hflags ⊢
    refine ⟨?_, fun d hd => ?_, closeEvent_timeBase _ _, closeEvent_belt _ _, closeEvent_banks _ _,
      closeEvent_run _ _, closeEvent_settings _ _, (by rw [closeEvent_store]),
      fun hroom => ?_, fun hfull => ?_⟩
    · simp [State.latch]
    · simp [State.latch, Latches.get_put_ne, hd]
    · rw [State.makeRoom_of_room h (hfifo ▸ hroom)] at hflags
      refine ⟨(closeEvent_store _ _).trans hflags.2, fun f hf => ?_⟩
      rw [closeEvent_flag _ _ hf]
      exact congrArg (fun m : FlagMask => m.getLsbD f.position) hflags.1
    · obtain ⟨k', fl', hone⟩ :=
        (s.filtered (channelOfLine (lineOfHead h)) p).removeOldest_eq (channelOfLine (lineOfHead h)) 1
      have hflag := (s.filtered (channelOfLine (lineOfHead h)) p).flag_removeOldest
        (channelOfLine (lineOfHead h)) 1
      rw [State.makeRoom_of_full h (hfifo ▸ hfull)] at hflags
      have hset : ∀ f : Flag, fl.getLsbD f.position =
          ((s.filtered (channelOfLine (lineOfHead h)) p).flag f ||
            decide (unreportedFlag (channelOfLine (lineOfHead h)) = some f) ||
            decide (overrunFlag (channelOfLine (lineOfHead h)) = some f)) := fun f => by
        refine (congrArg (fun m : FlagMask => m.getLsbD f.position) hflags.1).trans ?_
        refine (State.flag_setFlag? _ _ f).trans ?_
        rw [hflag]
        simp
      refine ⟨?_, ?_, ?_⟩
      · rw [hone] at hflags
        rw [closeEvent_store]
        refine (congrArg (fun st : Store => st.globals.unreported) hflags.2).trans ?_
        cases h <;> rfl
      · rw [closeEvent_flag _ _ (by cases h <;> decide)]
        refine (hset _).trans ?_
        cases h <;> simp [overrunFlag, channelOfLine, lineOfHead]
      · rw [closeEvent_flag _ _ (by cases h <;> decide)]
        refine (hset _).trans ?_
        cases h <;> simp [unreportedFlag, channelOfLine, lineOfHead]
  · dsimp only
    intro hp hdepth
    refine ⟨_, execFilterExpiry_powered (line := .bm) hs hp, ?_⟩
    have hcap := State.filtered_capture_bm hdepth p
    dsimp only at hcap
    have hchannel : channelOfLine .bm = .bm := rfl
    rw [hchannel, closeEvent_latches, closeEvent_belt, closeEvent_store, closeEvent_banks, closeEvent_run,
      closeEvent_settings]
    cases hm : s.settings.bm.mode with
    | first =>
      rw [State.lineCapture_first (s := s.filtered .bm p) hm]
      generalize (s.filtered .bm p).capture .bm p.position p.time = u at hcap ⊢
      obtain ⟨hbm, hbelt, hstore, hbanks, hrun, hset⟩ := hcap
      exact ⟨hm ▸ hbm, fun _ => hbelt, nofun, nofun, hstore, hbanks, hrun, hset⟩
    | every =>
      rw [State.lineCapture_every (s := s.filtered .bm p) hm]
      generalize (s.filtered .bm p).capture .bm p.position p.time = u at hcap ⊢
      obtain ⟨hbm, hbelt, hstore, hbanks, hrun, hset⟩ := hcap
      cases hprev : s.belt.prevMark with
      | none =>
        rw [State.markCapture_first (hbelt ▸ hprev)]
        exact ⟨hm ▸ hbm, nofun, fun _ _ => by rw [hbelt], nofun, hstore, hbanks, hrun, hset⟩
      | some previous =>
        obtain ⟨fl, hmark, hslip⟩ := State.markCapture_next (s := u) (hbelt ▸ hprev) p.position
        rw [hset, hbelt] at hmark
        rw [hset] at hslip
        refine ⟨?_, nofun, nofun, fun q _ hq => ?_, ?_⟩
        · rw [hmark]
          exact hm ▸ hbm
        · obtain rfl := Option.some.inj hq
          refine ⟨by rw [hmark], fun hoff => ?_⟩
          rw [closeEvent_flag _ _ (by decide)]
          exact hslip hoff
        · rw [hmark]
          exact ⟨hstore, hbanks, hrun, rfl⟩

/-- Settles O17: the removals are the entry and those before it in the FIFO; a number that no entry has
is not found. -/
theorem deadlineExpiry : Obligations.DeadlineExpiry := by
  unfold Obligations.DeadlineExpiry
  intro h s hs
  refine ⟨fun older newer e due hfifo hne hdue => ?_, fun n hnone => ?_⟩
  · refine ⟨_, execDeadlineExpiry_held hs hfifo hne hdue, ?_⟩
    obtain ⟨k, fl, hrem⟩ :=
      (s.atTime due).removeOldest_eq (channelOfLine (lineOfHead h)) (older.length + 1)
    have hflag := (s.atTime due).flag_removeOldest (channelOfLine (lineOfHead h)) (older.length + 1)
    have hdrop : ((s.atTime due).latch (channelOfLine (lineOfHead h))).fifo.drop (older.length + 1) =
        newer := by simp [State.latch, State.atTime, show (s.latches.get _).fifo = _ from hfifo]
    refine ⟨?_, ?_, ?_, ?_, ?_, ?_, ?_, ?_⟩
    · rw [State.latch, closeEvent_latches, hrem, hdrop]
      exact Latches.get_put _ _ _
    · rw [closeEvent_store, hrem]
      rfl
    · rw [closeEvent_flag _ _ (by cases h <;> decide), hflag]
      cases h <;> simp [unreportedFlag, channelOfLine, lineOfHead]
    · rw [closeEvent_timeBase, hrem]
      rfl
    · rw [closeEvent_store, hrem]
      rfl
    · rw [closeEvent_belt, hrem]
      rfl
    · rw [closeEvent_banks, hrem]
      rfl
    · rw [closeEvent_run, hrem]
      rfl
  · have hfind : ((s.latch (channelOfLine (lineOfHead h))).fifo.find? fun e => decide (e.seq = n)) = none := by
      simpa using hnone
    show execDeadlineExpiry h n s = _
    unfold execDeadlineExpiry
    rw [event_powered hs]
    simp only [hfind]

/-- A frame of a length that a head's port does not take is a frame error (R31). -/
theorem frameError_huntHead (h : Head) (s : State) :
    (s.huntHead h).frameError h = { (s.setReceiver (.head h) {}) with
      heads := s.heads.put h { s.heads.get h with frameErrors :=
        if (s.heads.get h).frameErrors < 65535 then (s.heads.get h).frameErrors + 1
        else (s.heads.get h).frameErrors } } := by
  cases h <;> rfl

/-- Settles O19: the head's own status is written, and for head B no JOINING record outlives its loss. -/
theorem headConditions : Obligations.HeadConditions := by
  unfold Obligations.HeadConditions
  refine ⟨fun h coils s hs => ⟨?_, fun b hb => ?_⟩, fun h coils due s hs hdue => ?_,
    fun h payload coils s hs => ⟨fun hlen => ?_, fun hlen => ?_⟩⟩
  · refine (execHeadState_powered hs h [0x01] coils).trans ?_
    simp [State.takeHeadState, State.restartSilence, State.modHead, State.huntHead]
  · have htake : (s.huntHead h).takeHeadState h [b] coils =
        ((s.huntHead h).restartSilence h).headLost h coils := if_neg hb
    have hheads : ((s.huntHead h).restartSilence h).heads.get h = { s.heads.get h with
        silence := some (timePlus s.timeBase (s.settings.silenceTimeout * 1000)) } := by
      simp [State.restartSilence, State.modHead, State.huntHead]
    refine ⟨_, (execHeadState_powered hs h [b] coils).trans (by rw [htake]), ?_, fun hp => ?_,
      fun hb hp => ?_⟩
    · rw [closeEvent_heads, State.headLost_heads, hheads]
      simp [State.restartSilence, State.modHead, State.huntHead]
    · rw [closeEvent_flag _ _ (headLostFlag_ne_noticeDropped h)]
      exact State.headLost_sets (by rw [hheads]; exact hp) coils
    · subst hb
      exact (RecordWork.of_store (closeEvent_store _ _)).noneJoining
        (State.headLost_noneJoining (by rw [hheads]; exact hp) coils)
  · have hexec : execSilenceTimerExpiry h coils s = .next (closeEvent s
        (((s.atTime due).modHead h fun k => { k with silence := none }).headLost h coils)) := by
      unfold execSilenceTimerExpiry
      rw [event_powered hs, hdue]
    have hheads : ((s.atTime due).modHead h fun k => { k with silence := none }).heads.get h =
        { s.heads.get h with silence := none } := by simp [State.modHead, State.atTime]
    refine ⟨_, hexec, ?_, ?_, fun hp => ?_, fun hb hp => ?_⟩
    · rw [closeEvent_heads, State.headLost_heads, hheads]
      simp [State.modHead, State.atTime]
    · rw [closeEvent_timeBase, State.headLost_timeBase]
      rfl
    · rw [closeEvent_flag _ _ (headLostFlag_ne_noticeDropped h)]
      exact State.headLost_sets (by rw [hheads]; exact hp) coils
    · subst hb
      exact (RecordWork.of_store (closeEvent_store _ _)).noneJoining
        (State.headLost_noneJoining (by rw [hheads]; exact hp) coils)
  · have htake : (s.huntHead h).takeHeadState h payload coils = (s.huntHead h).frameError h := by
      unfold State.takeHeadState
      split
      · exact absurd rfl hlen
      · rfl
    refine (execHeadState_powered hs h payload coils).trans ?_
    rw [htake, frameError_huntHead]
  · have htake : (s.huntHead h).takeReport h payload coils = (s.huntHead h).frameError h := if_neg hlen
    refine (execReport_powered hs h payload coils).trans ?_
    rw [htake, frameError_huntHead]

/-- Settles O21: a bound report leaves its entry's FIFO as the removals do, and hands on to the bank side;
an orphan leaves it. -/
theorem reportBinding : Obligations.ReportBinding := by
  unfold Obligations.ReportBinding
  intro h payload coils s hs hlen
  refine ⟨fun older newer e hfifo hseq hne => ?_, fun hnone => ?_⟩
  · refine ⟨_, execReport_powered hs h payload coils, ?_⟩
    obtain ⟨fl, l, hask, -⟩ := s.asked_eq h payload
    have hfifo' : ((s.asked h payload).latch (channelOfLine (lineOfHead h))).fifo = older ++ e :: newer := by
      rw [hask]
      exact hfifo
    have hflag := (s.asked h payload).flag_removeOldest (channelOfLine (lineOfHead h)) older.length
    obtain ⟨k, fl', l', hrem, hkeep⟩ := s.asked_bound h payload hfifo
    rw [State.takeReport_asked s h hlen, State.bind_bound hfifo' (by rw [hseq]; rfl) hne]
    have hkept := State.handReport_unreported (((s.asked h payload).removeOldest
      (channelOfLine (lineOfHead h)) older.length).popOldest (channelOfLine (lineOfHead h))) h
      ((readReport payload).clamped.part e.position) coils
    have hside := BankSide.handReport (((s.asked h payload).removeOldest (channelOfLine (lineOfHead h))
      older.length).popOldest (channelOfLine (lineOfHead h))) h
      ((readReport payload).clamped.part e.position) coils
    refine ⟨?_, ?_, fun hold => ?_, ?_, ?_, fun hrun => ?_⟩
    · rw [State.latch, closeEvent_latches, hside.latches, hrem]
      exact Latches.get_put _ _ _
    · rw [closeEvent_store, hkept, hrem]
    · rw [closeEvent_flag _ _ (by cases h <;> decide)]
      refine hside.flag_of_flag ?_
      rw [State.popOldest_flag, hflag]
      cases h <;> simp [unreportedFlag, channelOfLine, lineOfHead, List.length_pos_iff.mpr hold]
    · rw [closeEvent_heads, hside.heads, hrem]
      exact congrArg HeadStatus.silence (Heads.get_put _ _ _)
    · rw [closeEvent_heads, hside.heads, hrem]
      exact (congrArg HeadStatus.present (Heads.get_put s.heads h _)).trans rfl
    · rw [State.handReport_of_ne_run (by rw [hrem]; exact hrun), closeEvent_store, closeEvent_banks,
        closeEvent_health, closeEvent_run, hrem]
      refine ⟨rfl, rfl, rfl, rfl, fun hold hin => ?_⟩
      exact closeEvent_flags_quiet (hkeep hold hin) rfl
  · refine ⟨_, execReport_powered hs h payload coils, ?_⟩
    obtain ⟨fl, l, hask, -⟩ := s.asked_eq h payload
    rw [State.takeReport_asked s h hlen, State.bind_orphan (by rw [hask]; exact hnone)]
    refine ⟨?_, ?_, ?_, ?_, ?_⟩
    · rw [closeEvent_latches, hask]
      rfl
    · rw [closeEvent_flag _ _ (by cases h <;> decide)]
      simp [State.flag_setFlag]
    · rw [closeEvent_store, hask]
      rfl
    · rw [closeEvent_banks, hask]
      rfl
    · rw [closeEvent_health, hask]
      rfl

end Sys2Proof.Laws.StrobeLatches

/-!
SUPPORT. What the counts, the speed sample and the stall timer leave of the belt (1.2 to 1.6), and the
entry to HALTED with the work that finds nothing left to do after it (R158).
-/

namespace Sys2Proof.Machine

/-! ### States that agree off the plant -/

namespace State.SameOffPlant

theorem of_fields {s t : State} (hpowered : t.powered = s.powered) (htime : t.timeBase = s.timeBase)
    (hfire : t.fireEnable = s.fireEnable) (hsettings : t.settings = s.settings)
    (hstored : t.stored = s.stored) (hbelt : t.belt = s.belt) (hlatches : t.latches = s.latches)
    (hheads : t.heads = s.heads) (hsupply : t.supply = s.supply) (hpending : t.pending = s.pending) :
    s.SameOffPlant t := by
  cases s
  cases t
  simp only [State.SameOffPlant, State.mk.injEq] at *
  exact ⟨hpowered, htime, hfire, trivial, trivial, hsettings, hstored, hbelt, hlatches, hheads, trivial,
    trivial, trivial, hsupply, trivial, trivial, hpending⟩

theorem trans {s t u : State} (h : s.SameOffPlant t) (k : t.SameOffPlant u) : s.SameOffPlant u := by
  unfold State.SameOffPlant at *
  rw [k, h]

theorem of_bankSide {s t : State} (h : BankSide s t) : s.SameOffPlant t :=
  of_fields h.powered h.timeBase h.fireEnable h.settings h.stored h.belt h.latches h.heads h.supply
    h.pending

theorem closeEvent (b t : State) : t.SameOffPlant (Machine.closeEvent b t) := by
  obtain ⟨l, fl, h⟩ := closeEvent_eq b t
  rw [h]
  rfl

end State.SameOffPlant

/-! ### The entry to HALTED (R58, R124, R158, R174) -/

theorem State.enterHalted_eq (s : State) (cause : HaltCause) : ∃ st bk k, s.enterHalted cause =
    { s with run := .halted cause, store := st, banks := bk, latches := {}, cursors := k } := by
  obtain ⟨st, k, hflush⟩ := s.flush_eq
  unfold State.enterHalted State.darkenBanks
  rw [hflush]
  exact ⟨_, _, _, rfl⟩

/-- The tallies of a flush: each class has its FLUSHED moved on once for each record counted under it. -/
theorem Store.foldl_countFlushed (l : List Record) (st : Store) :
    (l.foldl Store.countFlushed st).nextId = st.nextId ∧
      (l.foldl Store.countFlushed st).globals = st.globals ∧
      ∀ c : ClassCode, (l.foldl Store.countFlushed st).classTallies[c] =
        { st.classTallies[c] with
          flushed := satInc^[l.countP fun r => decide (r.tallyClass = c)] st.classTallies[c].flushed } := by
  induction l generalizing st with
  | nil => exact ⟨rfl, rfl, fun _ => rfl⟩
  | cons r l ih =>
    obtain ⟨hid, hglobals, htallies⟩ := ih (st.countFlushed r)
    refine ⟨hid, hglobals, fun c => (htallies c).trans ?_⟩
    by_cases hc : r.tallyClass = c
    · subst hc
      simp [Store.countFlushed]
    · have hne : r.tallyClass.val ≠ c.val := fun h => hc (Fin.ext h)
      simp [Store.countFlushed, hc, Vector.getElem_set_ne, hne]

/-- The entry to HALTED tears down a state with the store and the banks of `s`. -/
theorem State.tornDown_enterHalted {s u : State} (hstore : u.store = s.store) (hbanks : u.banks = s.banks)
    (cause : HaltCause) : s.TornDown (u.enterHalted cause) := by
  obtain ⟨hid, hglobals, htallies⟩ := Store.foldl_countFlushed u.store.records u.store
  have hst : (u.enterHalted cause).store =
      { u.store.records.foldl Store.countFlushed u.store with records := [] } := u.flush_store
  rw [hstore] at hid hglobals htallies hst
  obtain ⟨st, k, hflush⟩ := u.flush_eq
  refine ⟨?_, ?_, ?_, fun c => ?_, fun b => ?_, fun c => ?_, ?_, fun b => ?_, fun c => ?_⟩
  · rw [hst]
  · rw [hst]
    exact hid
  · rw [hst]
    exact hglobals
  · rw [hst]
    exact htallies c
  · have hbank : (u.enterHalted cause).bank b = (u.flush.bank b).darkened := State.bank_darkenBanks _ b
    have hsame : u.flush.bank b = s.bank b := by
      rw [hflush]
      exact congrArg (fun v : Vector Bank 16 => v[b]) hbanks
    rw [hbank, hsame]
    rfl
  · cases c <;> rfl
  · rfl
  · simp [State.enterHalted, Cursors.collectionsAtEnd]
  · cases c <;> rfl

theorem State.TornDown.of_eq {s t u : State} (h : s.TornDown t) (hstore : u.store = t.store)
    (hbanks : u.banks = t.banks) (hlatches : u.latches = t.latches) (hcursors : u.cursors = t.cursors) :
    s.TornDown u := by
  unfold State.TornDown State.bank State.latch at *
  rw [hstore, hbanks, hlatches, hcursors]
  exact h

theorem State.TornDown.closeEvent {s t : State} (h : s.TornDown t) (b : State) :
    s.TornDown (Machine.closeEvent b t) :=
  h.of_eq (closeEvent_store b t) (closeEvent_banks b t) (closeEvent_latches b t) (closeEvent_cursors b t)

/-! ### Work that finds nothing to do -/

theorem State.purgeTest_of_ne_idle {s : State} {b : BankId} (h : (s.bank b).state ≠ .idle) (coils : Coils) :
    State.purgeTest coils s b = s := if_neg fun hidle => h hidle.1

theorem State.purgeTest_of_no_debt {s : State} {b : BankId} (h : (s.bank b).debt = 0) (coils : Coils) :
    State.purgeTest coils s b = s := if_neg fun hdebt => absurd hdebt.2.1 (by omega)

/-- Where no bank owes a purge, the purge tests do nothing. -/
theorem State.purgeTests_of_noDebts {s : State} (h : s.noDebts) (coils : Coils) :
    s.purgeTests coils = s :=
  List.foldl_fixed' (fun b => State.purgeTest_of_no_debt (h b) coils) allBanks

theorem State.triggerTest_of_empty {s : State} {b : BankId} (h : (s.bank b).queue = []) (coils : Coils) :
    State.triggerTest coils s b = s := by
  simp [State.triggerTest, State.reachedTriggers, h]

/-- A torn down state: no record, no entry, no bank that could purge. -/
theorem State.TornDown.still {s t : State} (h : s.TornDown t) :
    t.store.records = [] ∧ ∀ b, (t.bank b).queue = [] ∧ (t.bank b).debt = 0 := by
  obtain ⟨hrecords, -, -, -, hbank, -⟩ := h
  refine ⟨hrecords, fun b => ?_⟩
  rw [hbank b]
  exact ⟨rfl, rfl⟩

/-- After the teardown a speed sample has no held record to plan and no bank to purge. -/
theorem State.TornDown.planHeld_purgeTests {s t : State} (h : s.TornDown t) (coils : Coils) :
    t.planHeld.purgeTests coils = t := by
  obtain ⟨hrecords, hbanks⟩ := h.still
  have hplan : t.planHeld = t := by simp [State.planHeld, hrecords]
  rw [hplan, State.purgeTests_of_noDebts fun b => (hbanks b).2]

/-- After the teardown a count finds nothing to move. -/
theorem State.TornDown.handCount {s t : State} (h : s.TornDown t) (forward : Bool) (coils : Coils) :
    t.handCount forward coils = t := by
  obtain ⟨hrecords, hbanks⟩ := h.still
  have hhorizon : t.horizonAll = t := by simp [State.horizonAll, hrecords]
  have hretire : t.retireAll = t := by simp [State.retireAll, hrecords]
  have htrigger : allBanks.foldl (State.triggerTest coils) t = t :=
    List.foldl_fixed' (fun b => State.triggerTest_of_empty (hbanks b).1 coils) allBanks
  unfold State.handCount
  simp only [hhorizon, hretire, htrigger, ite_self, State.purgeTests_of_noDebts fun b => (hbanks b).2]

/-! ### The travel limits (R13, R14, R15) -/

theorem State.limitCrossed_of_ne_halt {s : State} (h : s.settings.limitAction ≠ .halt) (cause : HaltCause) :
    s.limitCrossed cause = s := by
  unfold State.limitCrossed
  split
  · rfl
  · rfl
  · rename_i hhalt
    exact absurd hhalt h

/-- A state in which a halt request is taken. -/
def State.Running (s : State) : Prop := s.run = .conditioning ∨ s.run = .run ∨ s.run = .drain

theorem State.haltRequest_running {s : State} (h : s.Running) (cause : HaltCause) :
    s.haltRequest cause = s.enterHalted cause := by
  unfold State.haltRequest
  rcases h with h | h | h <;> rw [h]

theorem State.limitCrossed_halt {s : State} (h : s.settings.limitAction = .halt) (hrun : s.Running)
    (cause : HaltCause) : s.limitCrossed cause = s.enterHalted cause := by
  unfold State.limitCrossed
  rw [h]
  exact State.haltRequest_running hrun cause

theorem State.limitCrossed_eq (s : State) (cause : HaltCause) : ∃ st bk la k r, s.limitCrossed cause =
    { s with run := r, store := st, banks := bk, latches := la, cursors := k } := by
  unfold State.limitCrossed State.haltRequest
  split
  · exact ⟨_, _, _, _, _, rfl⟩
  · exact ⟨_, _, _, _, _, rfl⟩
  · split
    · obtain ⟨st, bk, k, h⟩ := s.enterHalted_eq cause
      exact ⟨_, _, _, _, _, h⟩
    · obtain ⟨st, bk, k, h⟩ := s.enterHalted_eq cause
      exact ⟨_, _, _, _, _, h⟩
    · obtain ⟨st, bk, k, h⟩ := s.enterHalted_eq cause
      exact ⟨_, _, _, _, _, h⟩
    · exact ⟨_, _, _, _, _, rfl⟩
    · exact ⟨_, _, _, _, _, rfl⟩

/-- A reverse count past the limit, with the condition inactive (R14). -/
def State.CrossesReverse (s : State) (forward : Bool) : Prop :=
  s.belt.reverse = false ∧ forward = false ∧ s.settings.reverseLimit ≠ 0 ∧
    (s.settings.reverseLimit : Int) < s.belt.rx

theorem State.reverseTest_crossing {s : State} {forward : Bool} (h : s.CrossesReverse forward) :
    s.reverseTest forward =
      (({ s with belt := { s.belt with reverse := true } } : State).setFlag .limitReverse).limitCrossed
        .reverseLimit := by
  obtain ⟨hinactive, hcross⟩ := h
  unfold State.reverseTest
  rw [if_neg (by simp [hinactive]), if_pos hcross]

theorem State.reverseTest_active {s : State} (h : s.belt.reverse = true) (forward : Bool) :
    s.reverseTest forward =
      { s with belt := { s.belt with reverse := decide (s.belt.rx ≠ 0) } } := by
  unfold State.reverseTest
  rw [if_pos h]
  by_cases hrx : s.belt.rx = 0
  · simp [hrx]
  · simp [hrx, ← h]

theorem State.reverseTest_quiet {s : State} {forward : Bool} (hinactive : s.belt.reverse = false)
    (h : ¬s.CrossesReverse forward) : s.reverseTest forward = s := by
  unfold State.reverseTest
  rw [if_neg (by simp [hinactive]), if_neg fun hcross => h ⟨hinactive, hcross⟩]

/-- The reverse test moves the reverse condition, and without HALT nothing else but flags. -/
theorem State.reverseTest_eq (s : State) (forward : Bool) (active : Bool)
    (hactive : active = true ↔ s.CrossesReverse forward ∨ (s.belt.reverse = true ∧ s.belt.rx ≠ 0)) :
    ∃ st bk la k r fl, s.reverseTest forward =
      { s with
        belt := { s.belt with reverse := active }
        run := r, store := st, banks := bk, latches := la, cursors := k, flags := fl } ∧
      (s.settings.limitAction ≠ .halt → la = s.latches) ∧
      (s.CrossesReverse forward → fl.getLsbD (Flag.position .limitReverse) = true) := by
  by_cases hcross : s.CrossesReverse forward
  · obtain ⟨st, bk, la, k, r, hlimit⟩ :=
      (({ s with belt := { s.belt with reverse := true } } : State).setFlag .limitReverse).limitCrossed_eq
        .reverseLimit
    obtain rfl : active = true := hactive.mpr (.inl hcross)
    refine ⟨st, bk, la, k, r, _, (State.reverseTest_crossing hcross).trans hlimit, fun hnote => ?_, fun _ => ?_⟩
    · rw [State.limitCrossed_of_ne_halt (by exact hnote)] at hlimit
      exact (congrArg State.latches hlimit).symm
    · exact (State.flag_setFlag _ .limitReverse .limitReverse).trans (by simp)
  · cases hrev : s.belt.reverse with
    | true =>
      have hval : active = decide (s.belt.rx ≠ 0) := by
        rw [Bool.eq_iff_iff, hactive]
        simp [hcross, hrev]
      subst hval
      exact ⟨_, _, _, _, _, _, State.reverseTest_active hrev forward, fun _ => rfl, fun h => absurd h hcross⟩
    | false =>
      have hval : active = s.belt.reverse := by
        rw [Bool.eq_iff_iff, hactive]
        simp [hcross, hrev]
      subst hval
      exact ⟨_, _, _, _, _, _, State.reverseTest_quiet hrev hcross, fun _ => rfl, fun h => absurd h hcross⟩

/-! ### The speed sample (R8, R9, R13) -/

/-- A sample past the overspeed limit, with the condition inactive (R13). -/
def State.CrossesSpeed (s : State) : Prop :=
  s.settings.overspeedLimit ≠ 0 ∧ s.belt.overspeed = false ∧ (s.settings.overspeedLimit : Int) < s.belt.v

theorem State.overspeedTest_crossing {s : State} (h : s.CrossesSpeed) :
    s.overspeedTest =
      (({ s with belt := { s.belt with overspeed := true } } : State).setFlag .limitSpeed).limitCrossed
        .speedLimit := by
  obtain ⟨hlimit, hinactive, hcross⟩ := h
  unfold State.overspeedTest
  rw [if_neg hlimit, if_neg (by simp [hinactive]), if_pos hcross]

/-- Without a crossing the test can only end the condition, at 15/16 of the limit (R13). -/
theorem State.overspeedTest_quiet {s : State} (h : ¬s.CrossesSpeed) :
    s.overspeedTest = { s with belt := { s.belt with
      overspeed := decide (s.belt.overspeed = true ∧
        ¬(s.settings.overspeedLimit ≠ 0 ∧ s.belt.v * 16 ≤ (s.settings.overspeedLimit : Int) * 15)) } } := by
  unfold State.overspeedTest
  by_cases hzero : s.settings.overspeedLimit = 0
  · simp [hzero]
  · rw [if_neg hzero]
    cases hover : s.belt.overspeed with
    | true =>
      by_cases hend : s.belt.v * 16 ≤ (s.settings.overspeedLimit : Int) * 15
      · simp [hend, hzero]
      · simp [hend, ← hover]
    | false =>
      rw [if_neg Bool.false_ne_true, if_neg fun hcross => h ⟨hzero, hover, hcross⟩,
        decide_eq_false (by simp), ← hover]

/-- The overspeed test moves the overspeed condition, and without HALT nothing else off the plant. -/
theorem State.overspeedTest_eq (s : State) (active : Bool)
    (hactive : active = true ↔ s.CrossesSpeed ∨ (s.belt.overspeed = true ∧
      ¬(s.settings.overspeedLimit ≠ 0 ∧ s.belt.v * 16 ≤ (s.settings.overspeedLimit : Int) * 15))) :
    s.overspeedTest.belt = { s.belt with overspeed := active } ∧
      s.overspeedTest.timeBase = s.timeBase ∧
      (s.CrossesSpeed → s.overspeedTest.flag .limitSpeed = true) ∧
      (s.settings.limitAction ≠ .halt →
        ({ s with belt := { s.belt with overspeed := active } } : State).SameOffPlant s.overspeedTest) := by
  by_cases hcross : s.CrossesSpeed
  · obtain ⟨st, bk, la, k, r, hlimit⟩ :=
      (({ s with belt := { s.belt with overspeed := true } } : State).setFlag .limitSpeed).limitCrossed_eq
        .speedLimit
    obtain rfl : active = true := hactive.mpr (.inl hcross)
    rw [State.overspeedTest_crossing hcross]
    refine ⟨by rw [hlimit]; rfl, by rw [hlimit]; rfl, fun _ => ?_, fun hnote => ?_⟩
    · rw [hlimit]
      exact (State.flag_setFlag _ .limitSpeed .limitSpeed).trans (by simp)
    · rw [State.limitCrossed_of_ne_halt (by exact hnote)]
      rfl
  · have hval : active = decide (s.belt.overspeed = true ∧
        ¬(s.settings.overspeedLimit ≠ 0 ∧ s.belt.v * 16 ≤ (s.settings.overspeedLimit : Int) * 15)) := by
      rw [Bool.eq_iff_iff, hactive, decide_eq_true_iff]
      simp only [hcross, false_or]
    rw [State.overspeedTest_quiet hcross, ← hval]
    exact ⟨rfl, rfl, fun h => absurd h hcross, fun _ => rfl⟩

theorem clampInt_eq {lo hi : Int} (h : lo ≤ hi) (x : Int) : clampInt lo hi x = max lo (min hi x) := by
  unfold clampInt
  split
  · omega
  · split <;> omega

theorem smoothed_eq (v sample : Int) (k : Nat) :
    smoothed v sample k = max (-65535) (min 65535 (v + (sample - v) / 2 ^ k)) := by
  unfold smoothed
  rw [Int.shiftRight_eq_div_pow, clampInt_eq (by decide)]
  push_cast
  rfl

/-- The state after the sample and before its tests (R8, R9). -/
theorem State.takeSample_eq (s : State) :
    s.takeSample = { s with
      timeBase := laterOf s.timeBase s.belt.sampleTimer
      belt := { s.belt with
        v := max (-65535) (min 65535 (s.belt.v +
          (max (-255) (min 255 (serialDiff s.belt.tc s.belt.sampleRef)) * 256 - s.belt.v) /
            2 ^ s.settings.smoothing))
        sampleRef := s.belt.tc
        sampleTimer := timePlus s.belt.sampleTimer 1000 } } := by
  unfold State.takeSample
  simp only [smoothed_eq, State.atTime, Belt.sampleDelta, Config.samplePeriod,
    clampInt_eq (show (-255 : Int) ≤ 255 by decide)]

/-- What the work after the overspeed test leaves to the bank side. -/
theorem BankSide.planHeld_purgeTests (s : State) (coils : Coils) :
    BankSide s (s.planHeld.purgeTests coils) := (BankSide.planHeld s).trans (.purgeTests _ coils)

/-! ### The commands of the belt -/

theorem execEncoderEdge_powered {s : State} (hs : s.powered = true) (a b : Bool) (coils : Coils) :
    execEncoderEdge a b coils s = .next (closeEvent s
      (match decodeEdge s.settings.decodeMode s.settings.direction s.belt.refA s.belt.refB a b with
      | .unchanged => s
      | .phaseError => (s.takeLevels a b).setFlag .phaseErr
      | .silent => s.takeLevels a b
      | .counts forward => (s.takeLevels a b).count forward coils)) := event_powered hs _

theorem execSpeedSample_powered {s : State} (hs : s.powered = true) (coils : Coils) :
    execSpeedSample coils s =
      .next (closeEvent s (s.takeSample.overspeedTest.planHeld.purgeTests coils)) := event_powered hs _

theorem decodeEdge_differ {mode : DecodeMode} {d : Direction} {refA refB a b : Bool} (ha : a ≠ refA)
    (hb : b ≠ refB) : decodeEdge mode d refA refB a b = .phaseError := by
  rw [Bool.eq_not_of_ne ha, Bool.eq_not_of_ne hb, decodeEdge_both]

/-- The belt after a count and before the reverse test. -/
def State.countedBelt (s : State) (a b forward : Bool) : State :=
  { s with belt := { s.belt.counted forward with
    refA := a, refB := b
    motion := (s.belt.counted forward).motionAfter forward
    stallTimer := some (timePlus s.timeBase (s.settings.stallWindow * 1000)) } }

theorem State.takeLevels_count (s : State) (a b forward : Bool) (coils : Coils) :
    (s.takeLevels a b).count forward coils =
      ((s.countedBelt a b forward).reverseTest forward).handCount forward coils := by
  cases forward <;> rfl

/-! ### The causes of a halt (R158) -/

theorem execPressureSample_powered {s : State} (hs : s.powered = true) (microamps : Nat) :
    execPressureSample microamps s = .next (closeEvent s
      (({ s.atTime s.supply.timer with supply := { s.supply with
          timer := timePlus s.supply.timer Config.pressurePeriod
          reading := readingOf microamps } } : State).lowTest (readingOf microamps))) :=
  event_powered hs _

/-- The third low sample sets PRESSURE_LOW, makes the low run 0 and stops the test (R140). -/
theorem State.lowTest_third {s : State} (htesting : s.supply.testing = true) (hrun : s.supply.lowRun = 2)
    {reading : Nat} (hlow : reading < s.settings.pressureThreshold) :
    s.lowTest reading =
      ({ s with supply := { s.supply with lowRun := 0, testing := false } } : State).pressureLow := by
  unfold State.lowTest
  rw [if_pos htesting, if_pos hlow, if_neg (by omega)]

theorem State.pressureLow_halt {s : State} (hpolicy : s.settings.pressurePolicy = .halt)
    (hrun : s.Running) : s.pressureLow = (s.setFlag .pressureLow).enterHalted .pressure := by
  unfold State.pressureLow
  rw [hpolicy]
  exact State.haltRequest_running (s := s.setFlag .pressureLow) hrun .pressure

theorem execAbortRun_taken {s : State} (hs : s.ready) (hrun : ∀ cause, s.run ≠ .halted cause)
    (tag : Byte) : execAbortRun tag [] s =
      .next (closeEvent s ((s.enterHalted .host).replied 0x88 tag [0x00])) := by
  unfold execAbortRun
  rw [serve_ready hs rfl]
  cases h : s.run with
  | halted cause => exact absurd h (hrun cause)
  | setup => rfl
  | conditioning => rfl
  | run => rfl
  | drain => rfl

theorem execAbortRun_halted {s : State} (hs : s.ready) {cause : HaltCause} (hrun : s.run = .halted cause)
    (tag : Byte) : execAbortRun tag [] s = .next (closeEvent s (s.replied 0x88 tag [0x10])) := by
  unfold execAbortRun
  rw [serve_ready hs rfl]
  simp only [hrun]
  rfl

/-! ### The end of a frame, and the warm reset (R161, R171) -/

/-- At the end of a frame the transmitter is free and takes its next frame, and no notice is raised. -/
theorem execFrameSent_sending {s : State} (hs : s.powered = true) {x : Transmission}
    (hx : s.link.transmitter = some x) :
    execFrameSent s = .next (State.transmit { s with
      timeBase := laterOf s.timeBase x.ends
      link := { s.link with
        transmitter := none
        service := if x.isReply then s.link.service.replySent else s.link.service } }) := by
  unfold execFrameSent
  rw [event_powered hs, hx]
  exact congrArg Host.Outcome.next (closeEvent_quiet rfl rfl)

theorem State.warmReset_cursors (s : State) : s.warmReset.cursors = {} := by simp only [State.warmReset]

end Sys2Proof.Machine

/-!
SUPPORT. The statements of the belt and of the entry to HALTED, settled (R3 to R15, R158).
-/

namespace Sys2Proof.Laws.BeltPosition

open Sys2Proof Sys2Proof.Machine

/-- Settles O6: the decoding decides what the event is; the stall timer's expiry is bank side work. -/
theorem noCountEvents : Obligations.NoCountEvents := by
  unfold Obligations.NoCountEvents
  refine ⟨fun a b coils s hs ha hb => ?_, fun a b coils s hs hsilent => ?_, fun coils due s hs hdue => ?_,
    fun coils s hs hstopped => ?_⟩
  · refine (execEncoderEdge_powered hs a b coils).trans ?_
    rw [decodeEdge_differ ha hb]
    rfl
  · refine (execEncoderEdge_powered hs a b coils).trans ?_
    rw [hsilent]
    rfl
  · have hexec : execStallTimerExpiry coils s = .next (closeEvent s
        ((({ s.atTime due with belt := { s.belt with motion := .stopped, stallTimer := none } } :
          State).setFlag .beltStopSeen).purgeTests coils)) := by
      unfold execStallTimerExpiry
      rw [event_powered hs, hdue]
      rfl
    have hside := BankSide.purgeTests (({ s.atTime due with
      belt := { s.belt with motion := .stopped, stallTimer := none } } : State).setFlag .beltStopSeen) coils
    refine ⟨_, hexec, ?_, ?_⟩
    · exact State.SameOffPlant.trans (t := State.setFlag _ .beltStopSeen) rfl
        ((State.SameOffPlant.of_bankSide hside).trans (.closeEvent s _))
    · rw [closeEvent_flag _ _ (by decide)]
      exact hside.flag_of_flag (by simp [State.flag_setFlag])
  · show execStallTimerExpiry coils s = _
    unfold execStallTimerExpiry
    rw [event_powered hs, hstopped]

/-- Settles O7: the count writes the belt, the reverse test its condition, and the rest is bank side work. -/
theorem countMovesTheBelt : Obligations.CountMovesTheBelt := by
  unfold Obligations.CountMovesTheBelt
  intro a b forward coils s hs hcounts tc hw rx crossing
  have hexec : execEncoderEdge a b coils s = .next (closeEvent s
      (((s.countedBelt a b forward).reverseTest forward).handCount forward coils)) := by
    rw [execEncoderEdge_powered hs, hcounts]
    exact congrArg (fun t => Host.Outcome.next (closeEvent s t)) (s.takeLevels_count a b forward coils)
  have hcross : (s.countedBelt a b forward).CrossesReverse forward ↔ crossing := by cases forward <;> rfl
  have hrx : (s.countedBelt a b forward).belt.rx = rx := by cases forward <;> rfl
  have hrev : (s.countedBelt a b forward).belt.reverse = s.belt.reverse := by cases forward <;> rfl
  obtain ⟨st, bk, la, k, r, fl, htest, hlatches, hflag⟩ :=
    (s.countedBelt a b forward).reverseTest_eq forward
      (decide (crossing ∨ (s.belt.reverse = true ∧ rx ≠ 0)))
      (by rw [decide_eq_true_iff, hcross, hrx, hrev])
  have hside := BankSide.handCount ((s.countedBelt a b forward).reverseTest forward) forward coils
  refine ⟨_, hexec, ?_, fun hc => ?_, ?_, ?_, ?_, ?_, fun hnote => ?_⟩
  · rw [closeEvent_belt, hside.belt, htest]
    cases forward <;> rfl
  · rw [closeEvent_flag _ _ (by decide)]
    refine hside.flag_of_flag ?_
    rw [htest]
    exact hflag (hcross.mpr hc)
  · rw [closeEvent_timeBase, hside.timeBase, htest]
    rfl
  · rw [closeEvent_settings, hside.settings, htest]
    rfl
  · rw [closeEvent_heads, hside.heads, htest]
    rfl
  · rw [closeEvent_supply, hside.supply, htest]
    rfl
  · rw [closeEvent_latches, hside.latches, htest]
    exact hlatches hnote

/-- Settles O10: the sample writes V and the timer, the overspeed test its condition, and the rest is bank
side work. -/
theorem speedSample : Obligations.SpeedSample := by
  unfold Obligations.SpeedSample
  intro coils s hs delta v limit crossing
  have hside := BankSide.planHeld_purgeTests s.takeSample.overspeedTest coils
  have hcross : s.takeSample.CrossesSpeed ↔ crossing := by rw [State.takeSample_eq]; rfl
  obtain ⟨hbelt, htime, hflag, hsame⟩ := s.takeSample.overspeedTest_eq
    (decide (crossing ∨ (s.belt.overspeed = true ∧ ¬ (limit ≠ 0 ∧ v * 16 ≤ (limit : Int) * 15))))
    (by rw [decide_eq_true_iff, hcross, State.takeSample_eq])
  refine ⟨_, execSpeedSample_powered hs coils, ?_, ?_, fun hc => ?_, fun hnote => ?_⟩
  · rw [closeEvent_timeBase, hside.timeBase, htime, State.takeSample_eq]
  · rw [closeEvent_belt, hside.belt, hbelt, State.takeSample_eq]
  · rw [closeEvent_flag _ _ (by decide)]
    exact hside.flag_of_flag (hflag (hcross.mpr hc))
  · rw [closeEvent_timeBase, closeEvent_belt, hside.timeBase, hside.belt, hbelt, htime]
    refine State.SameOffPlant.trans ?_ ((State.SameOffPlant.of_bankSide hside).trans (.closeEvent s _))
    rw [State.takeSample_eq] at hsame ⊢
    exact hsame hnote

end Sys2Proof.Laws.BeltPosition

namespace Sys2Proof.Laws.RunControl

open Sys2Proof Sys2Proof.Machine

/-- Settles O11: each cause ends in `State.enterHalted`, which tears down the state it comes to, and the
rest of the event finds nothing left to do. -/
theorem entryToHalted : Obligations.EntryToHalted := by
  unfold Obligations.EntryToHalted
  refine ⟨fun coils s hs hact hrun hlimit hoff hover => ?_,
    fun a b coils s hs hact hrun hdec hoff hlimit hover => ?_,
    fun microamps s hs hpolicy hrun htest hlow hread => ?_, fun tag s hs hrun => ?_,
    fun tag cause s hs hrun => execAbortRun_halted hs hrun tag⟩
  · have hcross : s.takeSample.CrossesSpeed := ⟨hlimit, hoff, hover⟩
    have htorn : s.TornDown s.takeSample.overspeedTest := by
      rw [State.overspeedTest_crossing hcross, State.limitCrossed_halt (by exact hact) (by exact hrun)]
      exact State.tornDown_enterHalted rfl rfl _
    refine ⟨_, execSpeedSample_powered hs coils, ?_, ?_⟩
    · rw [closeEvent_run, htorn.planHeld_purgeTests, State.overspeedTest_crossing hcross,
        State.limitCrossed_halt (by exact hact) (by exact hrun)]
      rfl
    · rw [htorn.planHeld_purgeTests]
      exact htorn.closeEvent s
  · have hcross : (s.countedBelt a b false).CrossesReverse false := ⟨hoff, rfl, hlimit, hover⟩
    have htest : (s.countedBelt a b false).reverseTest false = State.enterHalted _ .reverseLimit :=
      (State.reverseTest_crossing hcross).trans (State.limitCrossed_halt (by exact hact) (by exact hrun) _)
    have htorn : s.TornDown ((s.countedBelt a b false).reverseTest false) := by
      rw [htest]
      exact State.tornDown_enterHalted rfl rfl _
    have hexec : execEncoderEdge a b coils s =
        .next (closeEvent s ((s.countedBelt a b false).reverseTest false)) := by
      rw [execEncoderEdge_powered hs, hdec, ← htorn.handCount false coils]
      exact congrArg (fun t => Host.Outcome.next (closeEvent s t)) (s.takeLevels_count a b false coils)
    refine ⟨_, hexec, ?_, htorn.closeEvent s⟩
    rw [closeEvent_run, htest]
    rfl
  · refine ⟨_, execPressureSample_powered hs microamps, ?_⟩
    rw [State.lowTest_third (by exact htest) (by exact hlow) (by exact hread),
      State.pressureLow_halt (by exact hpolicy) (by exact hrun)]
    refine ⟨?_, ?_, (State.tornDown_enterHalted rfl rfl _).closeEvent s⟩
    · rw [closeEvent_run]
      rfl
    · rw [closeEvent_flag _ _ (by decide)]
      obtain ⟨st, bk, k, h⟩ := State.enterHalted_eq (State.setFlag { s.atTime s.supply.timer with
        supply := { s.supply with
          timer := timePlus s.supply.timer Config.pressurePeriod, reading := readingOf microamps
          lowRun := 0, testing := false } } .pressureLow) .pressure
      rw [h]
      exact (State.flag_setFlag _ .pressureLow .pressureLow).trans (by simp)
  · refine ⟨s.enterHalted .host, _, execAbortRun_taken hs hrun tag, rfl,
      State.tornDown_enterHalted rfl rfl _, ?_⟩
    obtain ⟨st, bk, k, h⟩ := s.enterHalted_eq .host
    rw [h]

end Sys2Proof.Laws.RunControl

namespace Sys2Proof.Laws.RunControl

open Sys2Proof Sys2Proof.Machine

/-- Settles O13: RESET answers, the end of its reply leaves nothing to send, and the warm reset that then
stands ready takes each block back. -/
theorem resetSequence : Obligations.ResetSequence := by
  unfold Obligations.ResetSequence
  refine ⟨fun tag s hs => ?_, fun x s hs hsend hx hreply => ?_, fun s hs hres => ?_, fun s hres => ?_⟩
  · show execReset tag [] s = _
    unfold execReset
    rw [serve_ready hs rfl]
    rfl
  · refine (execFrameSent_sending hs hx).trans ?_
    rw [hreply, if_pos rfl, hsend]
    rfl
  · refine ⟨s.warmReset, ?_, ?_, ?_⟩
    · show execWarmReset s = _
      unfold execWarmReset
      rw [if_pos ⟨hs, hres⟩]
    · simp only [State.warmReset, State.darkenBanks, Belt.reset, HeadStatus.reset, Link.reset]
      rfl
    · rw [s.warmReset_store, s.warmReset_cursors]
      refine ⟨rfl, rfl, fun c => ?_, rfl, fun b => s.warmReset_bank b, fun c => ?_, rfl, fun b => ?_,
        fun c => ?_, rfl, rfl, rfl, rfl, rfl⟩
      · exact Vector.getElem_replicate c.isLt
      · unfold State.latch
        rw [s.warmReset_latches]
        cases c <;> rfl
      · exact Vector.getElem_replicate b.isLt
      · cases c <;> rfl
  · show execWarmReset s = _
    unfold execWarmReset
    rw [if_neg fun h => hres h.2]

end Sys2Proof.Laws.RunControl

/-!
SUPPORT. A record that the store holds once, and what a bank's report makes of it: the parts, the tally of
a loss and the outcome rule (R52 to R54, R102).
-/

namespace Sys2Proof.Machine

/-! ### A record that the store holds once -/

/-- The store holds the record between these others, and none of them has its id. -/
structure State.Holds (s : State) (before : List Record) (r : Record) (after : List Record) : Prop where
  records : s.store.records = before ++ r :: after
  alone : ∀ x ∈ before ++ after, x.id ≠ r.id

namespace State.Holds

variable {s : State} {before after : List Record} {r : Record}

theorem of_single (h : s.store.records = [r]) : s.Holds [] r [] := ⟨h, by simp⟩

theorem record? (h : s.Holds before r after) : s.record? r.id = some r := by
  have hbefore : (before.find? fun x => decide (x.id = r.id)) = none := by
    simpa using fun x hx => h.alone x (List.mem_append_left _ hx)
  simp [State.record?, h.records, List.find?_append, hbefore]

theorem modRecord (h : s.Holds before r after) (f : Record → Record) :
    s.modRecord r.id f = { s with store := { s.store with records := before ++ f r :: after } } := by
  have hkeep : ∀ l : List Record, (∀ x ∈ l, x.id ≠ r.id) → (l.map fun x => if x.id = r.id then f x else x) = l :=
    fun l hl => (List.map_congr_left fun x hx => if_neg (hl x hx)).trans (List.map_id' l)
  have hrecords : (s.store.records.map fun x => if x.id = r.id then f x else x) = before ++ f r :: after := by
    rw [h.records, List.map_append, List.map_cons, if_pos rfl,
      hkeep before fun x hx => h.alone x (List.mem_append_left _ hx),
      hkeep after fun x hx => h.alone x (List.mem_append_right _ hx)]
  unfold State.modRecord
  rw [hrecords]

/-- A change of the record that keeps its id leaves it the only one of that id. -/
theorem change (h : s.Holds before r after) {t : State} {q : Record}
    (ht : t.store.records = before ++ q :: after) (hid : q.id = r.id) : t.Holds before q after :=
  ⟨ht, fun x hx => by rw [hid]; exact h.alone x hx⟩

/-- A terminal record whose trailing edge has not crossed stays (R56). -/
theorem retireTest (h : s.Holds before r after) (hedge : s.edgePassed r = false) :
    s.retireTest r.id = s := by
  unfold State.retireTest
  simp only [h.record?, hedge, Bool.and_false, Bool.false_eq_true, if_false]

theorem endRecord (h : s.Holds before r after) (hedge : s.edgePassed r = false) (st : RecState)
    (miss : Option Cause) : s.endRecord r.id st miss =
      { s with store := { s.store with
        records := before ++ { r with state := st, missCause := miss } :: after } } := by
  unfold State.endRecord
  rw [h.modRecord]
  exact (h.change (q := { r with state := st, missCause := miss }) rfl rfl).retireTest hedge

end State.Holds

/-! ### The outcome (R54) -/

theorem outcomeOf_all_lost {parts : List Part} (hne : parts ≠ [])
    (h : ∀ p ∈ parts, p.result.isLost = true) :
    ∃ c, (parts.head?.map fun p => p.result) = some (.lost c) ∧ outcomeOf parts = (.missed, some c) := by
  obtain ⟨p, rest, rfl⟩ := List.exists_cons_of_ne_nil hne
  obtain ⟨c, hc⟩ : ∃ c, p.result = .lost c := by
    have hp := h p List.mem_cons_self
    cases hr : p.result with
    | lost c => exact ⟨c, rfl⟩
    | waiting => simp [hr, PartResult.isLost] at hp
    | opened => simp [hr, PartResult.isLost] at hp
    | done => simp [hr, PartResult.isLost] at hp
    | doneDegraded => simp [hr, PartResult.isLost] at hp
  refine ⟨c, by simp [hc], ?_⟩
  unfold outcomeOf
  rw [if_pos (List.all_eq_true.mpr h)]
  simp [hc, PartResult.cause?]

theorem outcomeOf_some_lost {parts : List Part} (h : ∃ p ∈ parts, p.result.isLost = true)
    (hkept : ∃ p ∈ parts, p.result.isLost = false) : outcomeOf parts = (.partHit, none) := by
  have hall : ¬(parts.all fun p => p.result.isLost) = true := by simpa using hkept
  unfold outcomeOf
  rw [if_neg hall, if_pos (List.any_eq_true.mpr h)]

theorem outcomeOf_none_lost {parts : List Part} (hne : parts ≠ [])
    (h : ∀ p ∈ parts, p.result.isLost = false) :
    outcomeOf parts = if parts.any fun p => decide (p.result = .doneDegraded) then (.degraded, none)
      else (.fired, none) := by
  obtain ⟨p, rest, rfl⟩ := List.exists_cons_of_ne_nil hne
  have hall : ¬((p :: rest).all fun q => q.result.isLost) = true := by
    simp [h p List.mem_cons_self]
  have hany : ¬((p :: rest).any fun q => q.result.isLost) = true := by simpa using h
  unfold outcomeOf
  rw [if_neg hall, if_neg hany]

/-- The outcome rule of a record in work: nothing while a part is not final, and else the outcome (R54). -/
theorem State.Holds.outcomeRule {s : State} {before after : List Record} {r : Record} {p : Plan}
    (h : s.Holds before r after) (hplan : r.plan = some p) (hwork : r.state = .planned ∨ r.state = .firing)
    (hedge : s.edgePassed r = false) :
    s.outcomeRule r.id = { s with store := { s.store with
      records := before ++ { r with
        state := if p.parts.all fun q => q.result.final then (outcomeOf p.parts).1 else r.state
        missCause := if p.parts.all fun q => q.result.final then (outcomeOf p.parts).2 else r.missCause }
        :: after } } := by
  have hin : (decide (r.state = .planned) || decide (r.state = .firing)) = true := by simpa using hwork
  unfold State.outcomeRule
  simp only [h.record?, hplan, hin, Bool.true_and]
  split
  · exact (h.endRecord hedge _ _).trans (by rw [hplan])
  · rw [← hplan]
    show s = { s with store := { s.store with records := before ++ r :: after } }
    rw [← h.records]

/-! ### A bank's report (R52, R53, R102) -/

/-- The parts of a plan after a bank's report. -/
def Plan.partsAfter (plan : Plan) (b : BankId) (result : PartResult) (level : Option Level) : List Part :=
  plan.parts.map fun q =>
    if q.bank = b then { q with result := result, level := level.getD q.level } else q

/-- Where the bank's part awaits a result, a report writes it. -/
theorem Plan.awaits.report {plan : Plan} {b : BankId} {old : PartResult} (h : plan.awaits b old)
    (hold : old.final = false) (result : PartResult) (level : Option Level) :
    (plan.parts.map fun q => q.report b result level) = plan.partsAfter b result level := by
  refine List.map_congr_left fun q hq => ?_
  unfold Part.report
  by_cases hb : q.bank = b
  · rw [if_pos ⟨hb, by rw [h.2 q hq hb]; exact hold⟩, if_pos hb]
  · rw [if_neg fun hand => hb hand.1, if_neg hb]

theorem Record.openPart_of_awaits {r : Record} {plan : Plan} {b : BankId} {old : PartResult}
    (hplan : r.plan = some plan) (h : plan.awaits b old) (hold : old.final = false) :
    r.openPart b = true := by
  obtain ⟨q, hq, hb⟩ := h.1
  unfold Record.openPart
  rw [hplan]
  exact List.any_eq_true.mpr ⟨q, hq, by simp [hb, h.2 q hq hb, hold]⟩

/-- A report of a result of the part that a record in work awaits: the part, the tally of a loss, and the
outcome at the last part. -/
theorem State.Holds.reportPart {s : State} {before after : List Record} {r : Record} {plan : Plan}
    {b : BankId} {old : PartResult} (h : s.Holds before r after) (hplan : r.plan = some plan)
    (hwork : r.state = .planned ∨ r.state = .firing) (hawaits : plan.awaits b old)
    (hold : old.final = false) (hedge : s.edgePassed r = false) (result : PartResult)
    (level : Option Level) :
    s.reportPart r.id b result level = { s with store := { s.store with
      records := before ++ r.reported plan b result level :: after
      globals := match result with
        | .lost c => s.store.globals.count c
        | _ => s.store.globals } } := by
  have hreport : r.report b result level = { r with
      plan := some { plan with parts := plan.partsAfter b result level }
      state := if r.state = .planned ∧ result = .opened then .firing else r.state } := by
    simp only [Record.report, hplan, Option.map_some, hawaits.report hold]
  have hwork' : (r.report b result level).state = .planned ∨ (r.report b result level).state = .firing := by
    rw [hreport]
    dsimp only
    split
    · exact .inr rfl
    · exact hwork
  have hplan' : (r.report b result level).plan =
      some { plan with parts := plan.partsAfter b result level } := by rw [hreport]
  unfold State.reportPart
  simp only [h.record?, Record.openPart_of_awaits hplan hawaits hold, if_true, h.modRecord]
  have hwritten : ∀ g, State.outcomeRule { s with store := { s.store with
      records := before ++ r.report b result level :: after, globals := g } } r.id =
        { s with store := { s.store with
          records := before ++ r.reported plan b result level :: after, globals := g } } := fun g => by
    have hholds : State.Holds { s with store := { s.store with
        records := before ++ r.report b result level :: after, globals := g } } before
          (r.report b result level) after := h.change rfl rfl
    refine (hholds.outcomeRule hplan' hwork' hedge).trans ?_
    rw [hreport]
    rfl
  cases result <;> exact hwritten _

end Sys2Proof.Machine

namespace Sys2Proof.Laws.TrackStore

open Sys2Proof Sys2Proof.Machine

/-- Settles O28: the outcomes case by case, and the report of the one part of a single record. -/
theorem outcomeRule : Obligations.OutcomeRule := by
  unfold Obligations.OutcomeRule
  refine ⟨fun parts hne hfinal => ⟨outcomeOf_all_lost hne, outcomeOf_some_lost, fun hkept hdeg => ?_,
    fun hdone => ?_⟩, fun r plan b mask level result s hrecords hplan hwork hfinal hparts hedge => ?_⟩
  · rw [outcomeOf_none_lost hne hkept, if_pos (by simpa using hdeg)]
  · have hkept : ∀ p ∈ parts, p.result.isLost = false := fun p hp => by rw [hdone p hp]; rfl
    have hdeg : ¬(parts.any fun p => decide (p.result = .doneDegraded)) = true := by
      simp only [List.any_eq_true, decide_eq_true_eq, not_exists, not_and]
      exact fun p hp => by rw [hdone p hp]; nofun
    rw [outcomeOf_none_lost hne hkept, if_neg hdeg]
  · have hawaits : plan.awaits b .opened := by
      unfold Plan.awaits
      rw [hparts]
      exact ⟨⟨_, List.mem_singleton.mpr rfl, rfl⟩, by simp⟩
    rw [(State.Holds.of_single hrecords).reportPart hplan hwork hawaits rfl hedge]
    simp [Record.reported, hparts, hfinal] <;> rfl

end Sys2Proof.Laws.TrackStore

/-!
SUPPORT. The Planner's arithmetic and columns (5.3 to 5.8), and a bank's admission (6.2, 6.3).
-/

namespace Sys2Proof.Machine

/-! ### Roundings (R84, R85, R94) -/

theorem ceilDiv_le_iff {a b : Nat} (hb : 0 < b) (n : Nat) : ceilDiv a b ≤ n ↔ a ≤ n * b := by
  unfold ceilDiv
  rw [← Nat.lt_succ_iff, Nat.div_lt_iff_lt_mul hb, Nat.succ_mul]
  omega

theorem clampNat_eq {lo hi : Nat} (h : lo ≤ hi) (x : Nat) : clampNat lo hi x = max lo (min hi x) := by
  unfold clampNat
  split
  · omega
  · split <;> omega

theorem leadOf_natCast {v latency : Nat} (hv : v ≤ 65535) (hl : latency ≤ 8000) :
    leadOf v latency = (v * latency + 128000) / 256000 ∧ (v * latency + 128000) / 256000 ≤ 2048 := by
  have hmul : v * latency ≤ 65535 * 8000 := Nat.mul_le_mul hv hl
  have hle : (v * latency + 128000) / 256000 ≤ 2048 := by omega
  unfold leadOf
  rw [clampNat_eq (by decide), Int.toNat_natCast]
  exact ⟨by omega, hle⟩

theorem unitsOf_le_iff {v : Nat} (hv : 0 < v) (length pad n : Nat) :
    unitsOf v length pad ≤ n ↔ (length + 2 * pad) * 512 ≤ n * v := ceilDiv_le_iff hv n

theorem countEquivalent_of_nonpos {v : Int} (h : v ≤ 0) (us : Nat) : countEquivalent v us = 0 := if_pos h

theorem countEquivalent_le_iff {v : Int} (h : 0 < v) (us n : Nat) :
    countEquivalent v us ≤ n ↔ v * us ≤ n * 256000 := by
  unfold countEquivalent
  rw [if_neg (by omega), ceilDiv_le_iff (by decide)]
  have hv : (v.toNat : Int) = v := Int.toNat_of_nonneg h.le
  rw [← hv]
  norm_cast

/-! ### The columns of an eject (R88, R89) -/

theorem State.healthyColumn_iff (s : State) (bar : Bar) (c : Nat) :
    s.healthyColumn bar c = true ↔ c ≤ 63 ∧ s.faulty (nozzleAt bar c) = false := by
  simp [State.healthyColumn]

theorem mem_spanColumns {f l c : Nat} (hl : l ≤ 63) : c ∈ spanColumns f l ↔ f ≤ c ∧ c ≤ l := by
  simp only [spanColumns, List.mem_filter, List.mem_range, decide_eq_true_eq]
  omega

/-- A column of the span whose nozzle is FAULTY. -/
def State.lostColumn (s : State) (bar : Bar) (f l c : Nat) : Prop :=
  f ≤ c ∧ c ≤ l ∧ s.faulty (nozzleAt bar c) = true

/-- The columns of the span that are left out. -/
def State.removedColumns (s : State) (bar : Bar) (f l : Nat) : List Nat :=
  (spanColumns f l).filter fun c => !s.healthyColumn bar c

theorem State.mem_removedColumns {s : State} {bar : Bar} {f l c : Nat} (hl : l ≤ 63) :
    c ∈ s.removedColumns bar f l ↔ s.lostColumn bar f l c := by
  unfold State.removedColumns State.lostColumn
  rw [List.mem_filter, mem_spanColumns hl]
  constructor
  · rintro ⟨⟨hf, hc⟩, hbad⟩
    refine ⟨hf, hc, ?_⟩
    by_contra hgood
    simp [(s.healthyColumn_iff bar c).mpr ⟨by omega, by simpa using hgood⟩] at hbad
  · rintro ⟨hf, hc, hbad⟩
    refine ⟨⟨hf, hc⟩, ?_⟩
    have hnot : ¬s.healthyColumn bar c = true := fun h => by
      simp [((s.healthyColumn_iff bar c).mp h).2] at hbad
    simpa using hnot

/-- The lower side of the span lost a column. -/
def State.lowerLost (s : State) (bar : Bar) (f l : Nat) : Prop :=
  ∃ c, s.lostColumn bar f l c ∧ c - f ≤ l - c

/-- The upper side of the span lost a column. -/
def State.upperLost (s : State) (bar : Bar) (f l : Nat) : Prop :=
  ∃ c, s.lostColumn bar f l c ∧ l - c < c - f

theorem State.any_lowerSide {s : State} {bar : Bar} {f l : Nat} (hl : l ≤ 63) :
    (s.removedColumns bar f l).any (lowerSide f l) = true ↔ s.lowerLost bar f l := by
  simp only [List.any_eq_true, State.mem_removedColumns hl, lowerSide, decide_eq_true_eq, State.lowerLost]

theorem State.any_upperSide {s : State} {bar : Bar} {f l : Nat} (hl : l ≤ 63) :
    ((s.removedColumns bar f l).any fun c => !lowerSide f l c) = true ↔ s.upperLost bar f l := by
  simp only [List.any_eq_true, State.mem_removedColumns hl, lowerSide, Bool.not_eq_true',
    decide_eq_false_iff_not, not_le, State.upperLost]

/-- The substitute of the lower side, where it lost a column. -/
def State.lowerColumns (s : State) (bar : Bar) (f l : Nat) : List Nat :=
  if (s.removedColumns bar f l).any (lowerSide f l) then (s.lowerSubstitute bar f).toList else []

/-- The substitute of the upper side, where it lost a column. -/
def State.upperColumns (s : State) (bar : Bar) (f l : Nat) : List Nat :=
  if (s.removedColumns bar f l).any fun c => !lowerSide f l c then (s.upperSubstitute bar l).toList else []

theorem State.ejectColumns_eq (s : State) (bar : Bar) (f l : Nat) : s.ejectColumns bar f l =
    s.lowerColumns bar f l ++ ((spanColumns f l).filter fun c => s.healthyColumn bar c) ++
      s.upperColumns bar f l := rfl

theorem State.mem_lowerColumns {s : State} {bar : Bar} {f l c : Nat} (hl : l ≤ 63) :
    c ∈ s.lowerColumns bar f l ↔ s.lowerLost bar f l ∧ s.lowerSubstitute bar f = some c := by
  unfold State.lowerColumns
  rw [← State.any_lowerSide hl]
  split
  · rename_i h
    simp [h]
  · rename_i h
    simp [h]

theorem State.mem_upperColumns {s : State} {bar : Bar} {f l c : Nat} (hl : l ≤ 63) :
    c ∈ s.upperColumns bar f l ↔ s.upperLost bar f l ∧ s.upperSubstitute bar l = some c := by
  unfold State.upperColumns
  rw [← State.any_upperSide hl]
  split
  · rename_i h
    simp [h]
  · rename_i h
    simp [h]

/-- A substitute of the lower side is healthy and one or two columns below the span. -/
theorem State.lowerSubstitute_some {s : State} {bar : Bar} {f c : Nat} (h : s.lowerSubstitute bar f = some c) :
    c < f ∧ f ≤ c + 2 ∧ s.healthyColumn bar c = true := by
  unfold State.lowerSubstitute at h
  split at h
  · rename_i hone
    obtain rfl := Option.some.inj h
    exact ⟨by omega, by omega, hone.2⟩
  · split at h
    · rename_i htwo
      obtain rfl := Option.some.inj h
      exact ⟨by omega, by omega, htwo.2⟩
    · cases h

/-- A substitute of the upper side is healthy and one or two columns above the span. -/
theorem State.upperSubstitute_some {s : State} {bar : Bar} {l c : Nat} (h : s.upperSubstitute bar l = some c) :
    l < c ∧ c ≤ l + 2 ∧ s.healthyColumn bar c = true := by
  unfold State.upperSubstitute at h
  split at h
  · rename_i hone
    obtain rfl := Option.some.inj h
    exact ⟨by omega, by omega, hone⟩
  · split at h
    · rename_i htwo
      obtain rfl := Option.some.inj h
      exact ⟨by omega, by omega, htwo⟩
    · cases h

theorem State.mem_ejectColumns {s : State} {bar : Bar} {f l c : Nat} (hl : l ≤ 63) :
    c ∈ s.ejectColumns bar f l ↔ (s.lowerLost bar f l ∧ s.lowerSubstitute bar f = some c) ∨
      ((f ≤ c ∧ c ≤ l) ∧ s.healthyColumn bar c = true) ∨
      (s.upperLost bar f l ∧ s.upperSubstitute bar l = some c) := by
  rw [State.ejectColumns_eq, List.mem_append, List.mem_append, State.mem_lowerColumns hl,
    State.mem_upperColumns hl, List.mem_filter, mem_spanColumns hl, or_assoc]

/-- In the span the columns are the healthy ones. -/
theorem State.mem_ejectColumns_span {s : State} {bar : Bar} {f l c : Nat} (hl : l ≤ 63) (hf : f ≤ c)
    (hc : c ≤ l) : c ∈ s.ejectColumns bar f l ↔ s.faulty (nozzleAt bar c) = false := by
  rw [State.mem_ejectColumns hl]
  constructor
  · rintro (⟨-, h⟩ | ⟨-, h⟩ | ⟨-, h⟩)
    · have := (State.lowerSubstitute_some h).1
      omega
    · exact ((s.healthyColumn_iff bar c).mp h).2
    · have := (State.upperSubstitute_some h).1
      omega
  · exact fun h => .inr (.inl ⟨⟨hf, hc⟩, (s.healthyColumn_iff bar c).mpr ⟨by omega, h⟩⟩)

theorem State.ejectColumns_healthy {s : State} {bar : Bar} {f l c : Nat} (hl : l ≤ 63)
    (h : c ∈ s.ejectColumns bar f l) :
    s.healthyColumn bar c = true ∧ f ≤ c + 2 ∧ c ≤ l + 2 := by
  rcases (State.mem_ejectColumns hl).mp h with ⟨⟨d, hd, -⟩, h⟩ | ⟨⟨hf, hc⟩, h⟩ | ⟨⟨d, hd, -⟩, h⟩
  · obtain ⟨hlt, hle, hgood⟩ := State.lowerSubstitute_some h
    have := hd.1
    have := hd.2.1
    exact ⟨hgood, hle, by omega⟩
  · exact ⟨h, by omega, by omega⟩
  · obtain ⟨hlt, hle, hgood⟩ := State.upperSubstitute_some h
    have := hd.1
    have := hd.2.1
    exact ⟨hgood, by omega, hle⟩

/-- At most one column of an eject lies below the span. -/
theorem State.ejectColumns_below {s : State} {bar : Bar} {f l : Nat} (hl : l ≤ 63) :
    ((s.ejectColumns bar f l).filter fun c => decide (c < f)).length ≤ 1 := by
  have hspan : (((spanColumns f l).filter fun c => s.healthyColumn bar c).filter fun c => decide (c < f)) =
      [] := by
    simp only [List.filter_eq_nil_iff, List.mem_filter, mem_spanColumns hl, decide_eq_true_eq]
    omega
  have hupper : ((s.upperColumns bar f l).filter fun c => decide (c < f)) = [] := by
    simp only [List.filter_eq_nil_iff, State.mem_upperColumns hl, decide_eq_true_eq]
    rintro c ⟨⟨d, ⟨hf, hd, -⟩, -⟩, h⟩
    have := (State.upperSubstitute_some h).1
    omega
  have hone : (s.lowerColumns bar f l).length ≤ 1 := by
    unfold State.lowerColumns
    split
    · cases s.lowerSubstitute bar f <;> simp
    · simp
  rw [State.ejectColumns_eq, List.filter_append, List.filter_append, hspan, hupper, List.append_nil,
    List.append_nil]
  exact (List.length_filter_le _ _).trans hone

/-- At most one column of an eject lies above the span. -/
theorem State.ejectColumns_above {s : State} {bar : Bar} {f l : Nat} (hl : l ≤ 63) :
    ((s.ejectColumns bar f l).filter fun c => decide (l < c)).length ≤ 1 := by
  have hspan : (((spanColumns f l).filter fun c => s.healthyColumn bar c).filter fun c => decide (l < c)) =
      [] := by
    simp only [List.filter_eq_nil_iff, List.mem_filter, mem_spanColumns hl, decide_eq_true_eq]
    omega
  have hlower : ((s.lowerColumns bar f l).filter fun c => decide (l < c)) = [] := by
    simp only [List.filter_eq_nil_iff, State.mem_lowerColumns hl, decide_eq_true_eq]
    rintro c ⟨⟨d, ⟨hf, hd, -⟩, -⟩, h⟩
    have := (State.lowerSubstitute_some h).1
    omega
  have hone : (s.upperColumns bar f l).length ≤ 1 := by
    unfold State.upperColumns
    split
    · cases s.upperSubstitute bar l <;> simp
    · simp
  rw [State.ejectColumns_eq, List.filter_append, List.filter_append, hspan, hlower, List.nil_append,
    List.nil_append]
  exact (List.length_filter_le _ _).trans hone

/-- The nearest healthy column below the span, or else the second, is the lower side's substitute. -/
theorem State.lowerSubstitute_near {s : State} {bar : Bar} {f : Nat} (hf : 1 ≤ f)
    (h : s.healthyColumn bar (f - 1) = true) : s.lowerSubstitute bar f = some (f - 1) := if_pos ⟨hf, h⟩

theorem State.lowerSubstitute_second {s : State} {bar : Bar} {f : Nat} (hf : 2 ≤ f)
    (hnear : s.healthyColumn bar (f - 1) = false) (h : s.healthyColumn bar (f - 2) = true) :
    s.lowerSubstitute bar f = some (f - 2) := by
  unfold State.lowerSubstitute
  rw [if_neg (by simp [hnear]), if_pos ⟨hf, h⟩]

theorem State.upperSubstitute_near {s : State} {bar : Bar} {l : Nat}
    (h : s.healthyColumn bar (l + 1) = true) : s.upperSubstitute bar l = some (l + 1) := if_pos h

theorem State.upperSubstitute_second {s : State} {bar : Bar} {l : Nat}
    (hnear : s.healthyColumn bar (l + 1) = false) (h : s.healthyColumn bar (l + 2) = true) :
    s.upperSubstitute bar l = some (l + 2) := by
  unfold State.upperSubstitute
  rw [if_neg (by simp [hnear]), if_pos h]

theorem State.healthyColumn_of_faulty {s : State} {bar : Bar} {c : Nat}
    (h : s.faulty (nozzleAt bar c) = true) : s.healthyColumn bar c = false := by
  simp [State.healthyColumn, h]

/-! ### The parts of an eject (R90) -/

theorem getLsbD_maskOfColumns (columns : List Nat) (n i : Nat) :
    (maskOfColumns columns n).getLsbD i = true ↔ ∃ c ∈ columns, c / 8 = n ∧ c % 8 = i := by
  have hfold : ∀ (l : List Nat) (m : Mask), (l.foldl (fun acc c =>
      if c / 8 = n then acc ||| BitVec.twoPow 8 (c % 8) else acc) m).getLsbD i = true ↔
        m.getLsbD i = true ∨ ∃ c ∈ l, c / 8 = n ∧ c % 8 = i := by
    intro l
    induction l with
    | nil => simp
    | cons c l ih =>
      intro m
      rw [List.foldl_cons, ih, List.exists_mem_cons_iff]
      have hmod : c % 8 < 8 := Nat.mod_lt c (by decide)
      by_cases hc : c / 8 = n
      · simp only [hc, if_true, BitVec.getLsbD_or, BitVec.getLsbD_twoPow, Bool.or_eq_true, Bool.and_eq_true,
          decide_eq_true_eq, true_and, or_assoc, hmod]
      · simp [hc]
  exact (hfold columns 0).trans (by simp)

theorem mem_partsOf {bar : Bar} {level : Level} {columns : List Nat} {p : Part} :
    p ∈ partsOf bar level columns ↔ ∃ n < 8, maskOfColumns columns n ≠ 0 ∧
      p = { bank := bankOf bar (8 * n), mask := maskOfColumns columns n, level := level
            result := .waiting } := by
  simp only [partsOf, List.mem_filterMap, List.mem_range]
  constructor
  · rintro ⟨n, hn, h⟩
    split at h
    · cases h
    · exact ⟨n, hn, ‹_›, (Option.some.inj h).symm⟩
  · rintro ⟨n, hn, hmask, rfl⟩
    exact ⟨n, hn, if_neg hmask⟩

theorem bankOf_val {bar : Bar} {c : Nat} (h : c ≤ 63) :
    (bankOf bar c).val = (match bar with | .up => 0 | .down => 8) + c / 8 := by
  cases bar <;> simp only [bankOf, Fin.ofNat] <;> omega

theorem barOfBank_bankOf {bar : Bar} {c : Nat} (h : c ≤ 63) : barOfBank (bankOf bar c) = bar := by
  have hval := bankOf_val (bar := bar) h
  unfold barOfBank
  cases bar with
  | up => exact if_pos (by dsimp only at hval; omega)
  | down => exact if_neg (by dsimp only at hval; omega)

/-- Two columns lie on one bank of a bar exactly when they lie in one group of eight. -/
theorem bankOf_inj {bar : Bar} {c d : Nat} (hc : c ≤ 63) (hd : d ≤ 63) :
    bankOf bar c = bankOf bar d ↔ c / 8 = d / 8 := by
  rw [Fin.ext_iff, bankOf_val hc, bankOf_val hd]
  omega

/-- A column is a member of the part on its bank exactly when it is one of the eject's. -/
theorem mem_columns_iff_partsOf {bar : Bar} {level : Level} {columns : List Nat} {c : Nat}
    (hc : c ≤ 63) :
    c ∈ columns ↔ ∃ p ∈ partsOf bar level columns, p.bank = bankOf bar c ∧
      p.mask.getLsbD (c % 8) = true := by
  constructor
  · intro h
    have hmask : (maskOfColumns columns (c / 8)).getLsbD (c % 8) = true :=
      (getLsbD_maskOfColumns columns _ _).mpr ⟨c, h, rfl, rfl⟩
    refine ⟨_, mem_partsOf.mpr ⟨c / 8, by omega, fun hzero => by simp [hzero] at hmask, rfl⟩, ?_, hmask⟩
    exact (bankOf_inj (by omega) hc).mpr (by omega)
  · rintro ⟨p, hp, hbank, hmask⟩
    obtain ⟨n, hn, -, rfl⟩ := mem_partsOf.mp hp
    obtain ⟨d, hd, hdn, hdc⟩ := (getLsbD_maskOfColumns columns n _).mp hmask
    have hgroup := (bankOf_inj (bar := bar) (by omega) hc).mp hbank
    obtain rfl : d = c := by omega
    exact hd

theorem partsOf_ascending (bar : Bar) (level : Level) (columns : List Nat) :
    ((partsOf bar level columns).map fun p => p.bank.val).Pairwise (· < ·) := by
  have hmap : (partsOf bar level columns).map (fun p => p.bank.val) =
      ((List.range 8).filter fun n => !decide (maskOfColumns columns n = 0)).map
        fun n => (bankOf bar (8 * n)).val := by
    have h := congrArg (List.map Fin.val) (map_bank_partsOf bar level columns)
    rw [List.map_map, List.map_map] at h
    exact h
  rw [hmap, List.pairwise_map]
  refine (List.pairwise_lt_range.filter _).imp_of_mem fun {m n} hm hn hlt => ?_
  have hm8 := List.mem_range.mp (List.mem_of_mem_filter hm)
  have hn8 := List.mem_range.mp (List.mem_of_mem_filter hn)
  rw [bankOf_val (by omega), bankOf_val (by omega)]
  omega

/-! ### Admission (R98, R99, R103 to R108) -/

theorem State.admission_unavailable {s : State} {b : BankId} (h : (s.bank b).unavailable = true)
    (o : Offer) : s.admission b o = .error .unavailable := if_pos h

theorem State.admission_free {s : State} {b : BankId} {o : Offer} (h : (s.bank b).unavailable = false)
    (hfree : s.conflictAt b o o.level = false) : s.admission b o = .ok o.level := by
  unfold State.admission
  rw [if_neg (by simp [h]), if_pos hfree]

/-- On a conflict the policy decides (R107). -/
theorem State.admission_conflict {s : State} {b : BankId} {o : Offer} (h : (s.bank b).unavailable = false)
    (hconflict : s.conflictAt b o o.level = true) :
    s.admission b o = match o.policy with
      | .yield => .error .conflict
      | .degrade => if s.conflictAt b o o.level.other then .error .conflict else .ok o.level.other := by
  unfold State.admission
  rw [if_neg (by simp [h]), if_neg (by simp [hconflict])] <;> rfl

theorem Bank.unavailable_iff (k : Bank) : k.unavailable = true ↔
    k.state.awaited = true ∨ k.state = .fenced ∨ k.due = true ∨ 16 ≤ k.queue.length := by
  rw [show (16 : Nat) = Config.queueCapacity from rfl]
  unfold Bank.unavailable BankState.awaited
  cases k.state <;> simp

theorem State.queueConflict_iff (s : State) (b : BankId) (o : Offer) (level : Level) :
    s.queueConflict b o level = true ↔ ∃ e ∈ (s.bank b).queue, e.level ≠ level ∧
      serialDiff o.trigger (posPlus e.busyEnd
        (countEquivalent o.speed ((s.bankSettings b).tSW * 1000) : Nat)) < 0 ∧
      serialDiff e.trigger (posPlus (busyEndOf (s.bankSettings b) o)
        (countEquivalent o.speed ((s.bankSettings b).tSW * 1000) : Nat)) < 0 := by
  simp only [State.queueConflict, List.any_eq_true, Bool.and_eq_true, decide_eq_true_eq, and_assoc]

theorem State.standingConflict_iff (s : State) (b : BankId) (o : Offer) (level : Level) :
    s.standingConflict b o level = true ↔ (s.bank b).standingLevel ≠ level ∧
      serialDiff o.trigger s.belt.tc < countEquivalent o.speed (s.switchTime b) := by
  simp only [State.standingConflict, Bool.and_eq_true, decide_eq_true_eq]

/-- Under SHED a HIGH part is in conflict; else the two tests decide (R103). -/
theorem State.conflictAt_of_unbarred {s : State} {level : Level} (h : s.shed = false ∨ level = .low)
    (b : BankId) (o : Offer) : s.conflictAt b o level = true ↔
      s.queueConflict b o level = true ∨ s.standingConflict b o level = true := by
  have hbar : (s.shed && decide (level = .high)) = false := by
    rcases h with h | h <;> simp [h]
  unfold State.conflictAt
  rw [hbar, Bool.false_or, Bool.or_eq_true]

/-- The greatest time left to an OPEN entry's pulse expiry is what a bank needs first (R106). -/
theorem Bank.openTimeLeft_eq {k : Bank} {now : Time} {last : Nat}
    (hreach : ∃ e ∈ k.queue, e.state = .opened ∧ ∃ p, e.pulse = some p ∧ timeLeft p.expiry now = last)
    (hmax : ∀ e ∈ k.queue, e.state = .opened → ∀ p, e.pulse = some p → timeLeft p.expiry now ≤ last) :
    k.openTimeLeft now = last := by
  have hfold : ∀ (l : List Entry) (n : Nat),
      (∀ e ∈ l, e.state = .opened → ∀ p, e.pulse = some p → timeLeft p.expiry now ≤ last) → n ≤ last →
      (n = last ∨ ∃ e ∈ l, e.state = .opened ∧ ∃ p, e.pulse = some p ∧ timeLeft p.expiry now = last) →
      l.foldl (fun acc e => match e.state, e.pulse with
        | .opened, some p => max acc (timeLeft p.expiry now)
        | _, _ => acc) n = last := by
    intro l
    induction l with
    | nil => exact fun n _ _ h => h.elim id (by simp)
    | cons e l ih =>
      intro n hmax hn hreach
      rw [List.foldl_cons]
      refine ih _ (fun x hx => hmax x (List.mem_cons_of_mem e hx)) ?_ ?_
      · split
        · rename_i p hs hp
          exact max_le hn (hmax e List.mem_cons_self hs p hp)
        · exact hn
      · rcases hreach with rfl | ⟨x, hx, hs, p, hp, hlast⟩
        · left
          split
          · rename_i p hs hp
            exact max_eq_left (hmax e List.mem_cons_self hs p hp)
          · rfl
        · rcases List.mem_cons.mp hx with rfl | hx
          · left
            rw [hs, hp]
            exact (max_eq_right (hlast ▸ hn)).trans hlast
          · exact .inr ⟨x, hx, hs, p, hp, hlast⟩
  exact hfold k.queue 0 hmax (Nat.zero_le _) (.inr hreach)

/-- A new entry stands after every entry of a trigger not later and before the first of a later one
(R101). -/
theorem queueEntry_split (e : Entry) (queue : List Entry) : ∃ before after : List Entry,
    queue = before ++ after ∧ queueEntry e queue = before ++ e :: after ∧
    (∀ x ∈ before, 0 ≤ serialDiff e.trigger x.trigger) ∧
    ∀ x rest, after = x :: rest → serialDiff e.trigger x.trigger < 0 := by
  induction queue with
  | nil => exact ⟨[], [], rfl, rfl, by simp, by simp⟩
  | cons x queue ih =>
    by_cases hlater : serialDiff e.trigger x.trigger < 0
    · refine ⟨[], x :: queue, rfl, if_pos hlater, by simp, fun y rest h => ?_⟩
      obtain ⟨rfl, -⟩ := List.cons.inj h
      exact hlater
    · obtain ⟨before, after, hsplit, hqueue, hbefore, hafter⟩ := ih
      refine ⟨x :: before, after, by rw [hsplit]; rfl, ?_, fun y hy => ?_, hafter⟩
      · rw [List.cons_append, ← hqueue]
        exact if_neg hlater
      · rcases List.mem_cons.mp hy with rfl | hy
        · exact not_lt.mp hlater
        · exact hbefore y hy

end Sys2Proof.Machine

namespace Sys2Proof.Laws.Planner

open Sys2Proof Sys2Proof.Machine

/-- Settles O29: each rounding is the least integer that its bound allows. -/
theorem windowArithmetic : Obligations.WindowArithmetic := by
  unfold Obligations.WindowArithmetic
  refine ⟨fun v latency _ hv _ hl => ?_, fun v length pad r hv hlen hroute => ?_, fun v us => ?_⟩
  · obtain ⟨hlead, hle⟩ := leadOf_natCast hv hl
    exact ⟨hlead, hlead ▸ hle⟩
  · have hpos : 1 ≤ unitsOf v length pad := by
      by_contra hzero
      have := (unitsOf_le_iff hv length pad 0).mp (by omega)
      omega
    have hdur : durationOf v length pad r = max r.dmin (min r.dmax (unitsOf v length pad)) :=
      clampNat_eq hroute _
    exact ⟨unitsOf_le_iff hv length pad, hpos, hdur, by omega, by omega⟩
  · refine ⟨fun hv => countEquivalent_le_iff hv us, fun hv => countEquivalent_of_nonpos hv us,
      fun hv hus => ?_⟩
    by_contra hzero
    have hmul := (countEquivalent_le_iff hv us 0).mp (by omega)
    have : 0 < v * us := Int.mul_pos hv (by omega)
    omega

/-- Settles O30: the columns are the healthy ones of the span and the substitutes; the parts hold exactly
the columns; and a plan's span is the clipped one. -/
theorem ejectColumnsAndParts : Obligations.EjectColumnsAndParts := by
  unfold Obligations.EjectColumnsAndParts
  refine ⟨fun bar f l s hfl hl => ⟨fun c hc => ?_, fun c hf hc => State.mem_ejectColumns_span hl hf hc,
    fun hlow c hc => ?_, fun hup c hc => ?_, fun hlow => ⟨fun hf hgood => ?_, fun hf hbad hgood => ?_⟩,
    fun hup => ⟨fun hf hgood => ?_, fun hf hbad hgood => ?_⟩, State.ejectColumns_below hl,
    State.ejectColumns_above hl⟩,
    fun bar level columns _ => ⟨fun p hp => ?_, partsOf_ascending bar level columns,
      fun c hc => mem_columns_iff_partsOf hc⟩,
    fun r route bar s => ?_⟩
  · obtain ⟨hgood, hf, hc⟩ := State.ejectColumns_healthy hl hc
    obtain ⟨h63, hgood⟩ := (s.healthyColumn_iff bar c).mp hgood
    exact ⟨h63, hgood, hf, hc⟩
  · rcases (State.mem_ejectColumns hl).mp hc with ⟨⟨d, hd, hside⟩, -⟩ | ⟨⟨hf, -⟩, -⟩ | ⟨-, h⟩
    · exact absurd hside (hlow d hd)
    · exact hf
    · have := (State.upperSubstitute_some h).1
      omega
  · rcases (State.mem_ejectColumns hl).mp hc with ⟨-, h⟩ | ⟨⟨-, hc⟩, -⟩ | ⟨⟨d, hd, hside⟩, -⟩
    · have := (State.lowerSubstitute_some h).1
      omega
    · exact hc
    · exact absurd hside (hup d hd)
  · exact (State.mem_ejectColumns hl).mpr (.inl ⟨hlow, State.lowerSubstitute_near hf
      ((s.healthyColumn_iff bar _).mpr ⟨by omega, hgood⟩)⟩)
  · exact (State.mem_ejectColumns hl).mpr (.inl ⟨hlow, State.lowerSubstitute_second hf
      (State.healthyColumn_of_faulty hbad) ((s.healthyColumn_iff bar _).mpr ⟨by omega, hgood⟩)⟩)
  · exact (State.mem_ejectColumns hl).mpr (.inr (.inr ⟨hup, State.upperSubstitute_near
      ((s.healthyColumn_iff bar _).mpr ⟨hf, hgood⟩)⟩))
  · exact (State.mem_ejectColumns hl).mpr (.inr (.inr ⟨hup, State.upperSubstitute_second
      (State.healthyColumn_of_faulty hbad) ((s.healthyColumn_iff bar _).mpr ⟨hf, hgood⟩)⟩))
  · obtain ⟨n, hn, hmask, rfl⟩ := mem_partsOf.mp hp
    exact ⟨rfl, rfl, hmask, barOfBank_bankOf (by omega)⟩
  · intro f l parts
    have hf : r.first - route.spanPad = f := by
      show _ = if r.first < route.spanPad then 0 else r.first - route.spanPad
      split <;> omega
    have hl : min (r.last + route.spanPad) 63 = l := by
      show _ = if 63 < r.last + route.spanPad then 63 else r.last + route.spanPad
      split <;> omega
    clear_value f l
    have hparts : parts = partsOf bar route.level (s.ejectColumns bar f l) := by
      rw [← hf, ← hl]
      rfl
    refine ⟨hparts, fun hbox h63 => ⟨by omega, by omega, by omega, fun c hc hlo hhi => ?_⟩⟩
    rw [hparts, ← mem_columns_iff_partsOf hc]
    exact State.mem_ejectColumns_span (by omega) (by omega) (by omega)

end Sys2Proof.Laws.Planner

namespace Sys2Proof.Laws.ValveBanks

open Sys2Proof Sys2Proof.Machine

/-- Settles O32: the admission's branches, the two tests that make a conflict, the time a bank needs in
each state, and the place of a new entry. -/
theorem admission : Obligations.Admission := by
  unfold Obligations.Admission
  refine ⟨fun b o s => ⟨fun h => State.admission_unavailable h o, State.admission_free,
      fun h hconflict => ⟨fun hpolicy => ?_, fun hpolicy hother => ?_, fun hpolicy hother => ?_⟩⟩,
    fun b o level s => ⟨fun hshed => ?_, fun hbar => ?_⟩,
    fun b s => ⟨⟨fun target ends h => ?_, fun h => ?_⟩, fun h => ?_, fun last h hreach hmax => ?_,
      fun ends h => ?_, fun kind ends hit h => ?_, fun target ends h => ?_⟩,
    fun b s => (s.bank b).unavailable_iff, queueEntry_split⟩
  · rw [State.admission_conflict h hconflict, hpolicy]
  · rw [State.admission_conflict h hconflict, hpolicy]
    simp [hother]
  · rw [State.admission_conflict h hconflict, hpolicy]
    simp [hother]
  · simp [State.conflictAt, hshed]
  · have hbusy : busyTime (s.bankSettings b) o = o.dp * 500 +
        (wavesOf o.mask (s.bankSettings b).mso - 1) * (s.bankSettings b).waveGap * 500 +
        (s.bankSettings b).tRC * 500 := rfl
    rw [State.conflictAt_of_unbarred hbar, State.queueConflict_iff, State.standingConflict_iff, ← hbusy]
    rfl
  · simp [Bank.standingLevel, h]
  · unfold Bank.standingLevel
    split
    · rename_i target ends hs
      exact absurd hs (h target ends)
    · rfl
  · simp [State.switchTime, h]
  · have hleft : (s.bank b).openTimeLeft s.timeBase = last := Bank.openTimeLeft_eq hreach hmax
    simp [State.switchTime, h, hleft, halfMs]
  · simp [State.switchTime, h, timeLeft]
  · simp [State.switchTime, h, timeLeft, halfMs]
  · simp [State.switchTime, h, timeLeft]

end Sys2Proof.Laws.ValveBanks

/-!
SUPPORT. The pressure sample (8.1), STOP and the end of a drain (9.3), and the link's receivers,
transmitter and notices (10.1 to 10.3, 10.7).
-/

namespace Sys2Proof.Machine

/-! ### The pressure sample (R139, R140, R143) -/

theorem readingOf_eq (ua : Nat) :
    readingOf ua = if ua < 4000 then 0 else if 20000 < ua then 1000 else (ua - 4000) / 16 := by
  unfold readingOf
  split
  · rfl
  · split
    · rfl
    · omega

theorem readingOf_le (ua : Nat) : readingOf ua ≤ 1000 := by
  rw [readingOf_eq]
  split
  · omega
  · split <;> omega

theorem State.lowTest_stopped {s : State} (h : s.supply.testing = false) (reading : Nat) :
    s.lowTest reading = s := if_neg (by simp [h])

theorem State.lowTest_high {s : State} (h : s.supply.testing = true) {reading : Nat}
    (hhigh : s.settings.pressureThreshold ≤ reading) :
    s.lowTest reading = { s with supply := { s.supply with lowRun := 0 } } := by
  unfold State.lowTest
  rw [if_pos h, if_neg (by omega)]

theorem State.lowTest_low {s : State} (h : s.supply.testing = true) {reading : Nat}
    (hlow : reading < s.settings.pressureThreshold) (hrun : s.supply.lowRun < 2) :
    s.lowTest reading = { s with supply := { s.supply with lowRun := s.supply.lowRun + 1 } } := by
  unfold State.lowTest
  rw [if_pos h, if_pos hlow, if_pos hrun]

/-- PRESSURE_LOW brings no halt under another policy than HALT, nor in SETUP (R143). -/
theorem State.pressureLow_no_halt {s : State} (h : s.settings.pressurePolicy ≠ .halt ∨ s.run = .setup) :
    s.pressureLow = s.setFlag .pressureLow := by
  unfold State.pressureLow
  split
  · rfl
  · rfl
  · rename_i hpolicy
    have hsetup : (s.setFlag .pressureLow).run = .setup := h.resolve_left (not_not_intro hpolicy)
    unfold State.haltRequest
    rw [hsetup]

/-! ### STOP and the end of a drain (R156, R157) -/

theorem serveAfter_ready {s : State} (h : s.ready) {payload : List Byte} {lens : List Nat}
    (hl : lens.contains payload.length = true) (prepare : State → State) (kind tag : Byte)
    (act : State → Answer × State) :
    serveAfter prepare kind tag payload lens act s = .next (closeEvent (prepare s)
      ((act (prepare s)).2.handReply ((act (prepare s)).1.reply kind tag)
        (act (prepare s)).1.thenReset)) := by
  unfold serveAfter
  simp only [State.takeRequest_ready h, hl, if_true]

theorem State.passDrain_other {s : State} (h : ¬(s.run = .run ∧ s.store.records = [])) : s.passDrain = s :=
  if_neg h

theorem execStop_draining {s : State} (hs : s.ready) (hrun : s.run = .run) (hne : s.store.records ≠ [])
    (tag : Byte) : execStop tag [] s =
      .next (closeEvent s (({ s with run := .drain } : State).replied 0x87 tag [0x00, 0x03])) := by
  unfold execStop
  rw [serveAfter_ready hs rfl, State.passDrain_other fun h => hne h.2]
  simp only [hrun, if_neg hne]
  rfl

theorem execStop_conditioning {s : State} (hs : s.ready) (hrun : s.run = .conditioning) (tag : Byte) :
    execStop tag [] s =
      .next (closeEvent s (({ s with run := .setup } : State).replied 0x87 tag [0x00, 0x00])) := by
  unfold execStop
  rw [serveAfter_ready hs rfl, State.passDrain_other fun h => by simp [hrun] at h]
  simp only [hrun]
  rfl

theorem execStop_refused {s : State} (hs : s.ready) (hrun : s.run ≠ .run) (hcond : s.run ≠ .conditioning)
    (tag : Byte) : execStop tag [] s = .next (closeEvent s (s.replied 0x87 tag [0x10])) := by
  unfold execStop
  rw [serveAfter_ready hs rfl, State.passDrain_other fun h => hrun h.1]
  cases h : s.run with
  | run => exact absurd h hrun
  | conditioning => exact absurd h hcond
  | setup => rfl
  | drain => rfl
  | halted cause => rfl

/-- STOP in RUN with an empty store passes through DRAIN, with its notice, to SETUP (R153, R156). -/
theorem execStop_empty {s : State} (hs : s.ready) (hrun : s.run = .run) (hempty : s.store.records = [])
    (tag : Byte) : execStop tag [] s = .next (closeEvent (s.raise (.state .drain))
      (({ s.raise (.state .drain) with run := .setup } : State).replied 0x87 tag [0x00, 0x00])) := by
  obtain ⟨l, fl, hraise⟩ := s.raise_eq (.state .drain)
  unfold execStop
  rw [serveAfter_ready hs rfl, show s.passDrain = s.raise (.state .drain) from if_pos ⟨hrun, hempty⟩, hraise]
  simp only [hrun, if_pos hempty]
  rfl

/-- A change of run state that sets no flag, with room for its notice, leaves the flags. -/
theorem closeEvent_flags_stateNotice {b a : State} (hf : a.flags = b.flags) (hr : b.run ≠ a.run)
    (hroom : a.link.notices.length < 8) : (closeEvent b a).flags = b.flags := by
  obtain ⟨l, htransmit⟩ := State.transmit_eq (a.raise (.state a.run))
  rw [closeEvent_stateNotice hf hr, htransmit, State.raise_room hroom, ← hf]

theorem State.drainEnd_setup {s : State} (hrun : s.run = .drain ∨ s.run = .setup)
    (hempty : s.store.records = []) : s.drainEnd.run = .setup := by
  unfold State.drainEnd
  split
  · rfl
  · rename_i h
    exact hrun.resolve_left fun hdrain => h ⟨hdrain, hempty⟩

/-- The last record's leave ends a drain (R157). -/
theorem State.removeRecord_last {s : State} {r : Record} (hrun : s.run = .drain)
    (hrecords : s.store.records = [r]) :
    (s.removeRecord r.id).run = .setup ∧ (s.removeRecord r.id).store.records = [] := by
  have hstore : (s.removeRecord r.id).store.records = [] := by simp [State.removeRecord_store, hrecords]
  refine ⟨?_, hstore⟩
  have hside := (BankSide.foldl (fun t b => BankSide.dropEntries t r.id b) allBanks { s with
    store := { s.store with records := s.store.records.filter fun q => decide (q.id ≠ r.id) }
    cursors := { s.cursors with track := s.cursors.track.leave s.store.keys r.id.toNat } }).run
  rw [State.removeRecord, State.drainEnd_store] at hstore
  refine State.drainEnd_setup ?_ hstore
  rcases hside with h | ⟨-, h⟩ | ⟨h, -⟩
  · exact .inl (h.trans hrun)
  · exact .inr h
  · exact absurd (h.symm.trans hrun) (by decide)

/-! ### The receivers (R31, R168, R169) -/

theorem execByteReceived_powered {s : State} (hs : s.powered = true) (p : Port) (b : Byte) (stopBit : Bool)
    (coils : Coils) : execByteReceived p b stopBit coils s = .next (closeEvent s (s.takeByte p
      (if stopBit then (s.link.receiver p).state.take b else (s.link.receiver p).state.takeBroken) coils)) :=
  event_powered hs _

theorem RxState.takeBroken_of_ne_hunt {r : RxState} (h : r ≠ .hunt) : r.takeBroken = .faults := by
  cases r with
  | hunt => exact absurd rfl h
  | header got => rfl
  | payload kind tag len got => rfl
  | check f first => rfl

theorem State.frameFault_control (s : State) : s.frameFault .control =
    { s.setReceiver .control {} with flags := s.flags ||| 0x00400000 } := rfl

theorem State.frameFault_head (s : State) (h : Head) : s.frameFault (.head h) =
    { s.setReceiver (.head h) {} with
      heads := s.heads.put h { s.heads.get h with frameErrors :=
        if (s.heads.get h).frameErrors < 65535 then (s.heads.get h).frameErrors + 1
        else (s.heads.get h).frameErrors } } := by cases h <;> rfl

theorem execFrameFault_powered {s : State} (hs : s.powered = true) (p : Port) :
    execFrameFault p s = .next (closeEvent s (s.frameFault p)) := event_powered hs _

/-- A byte without its stop bit is a fault of the frame under way. -/
theorem execByteReceived_broken {s : State} (hs : s.powered = true) {p : Port}
    (hframe : (s.link.receiver p).state ≠ .hunt) (b : Byte) (coils : Coils) :
    execByteReceived p b false coils s = .next (closeEvent s (s.frameFault p)) := by
  rw [execByteReceived_powered hs, if_neg Bool.false_ne_true, RxState.takeBroken_of_ne_hunt hframe]
  rfl

theorem execFrameTimerExpiry_running {s : State} (hs : s.powered = true) {p : Port} {due : Time}
    (h : (s.link.receiver p).timer = some due) :
    execFrameTimerExpiry p s = .next (closeEvent s ((s.atTime due).frameFault p)) := by
  unfold execFrameTimerExpiry
  rw [event_powered hs, h]

theorem execFrameTimerExpiry_stopped {s : State} (hs : s.powered = true) {p : Port}
    (h : (s.link.receiver p).timer = none) :
    execFrameTimerExpiry p s = .next (closeEvent s s) := by
  unfold execFrameTimerExpiry
  rw [event_powered hs, h]

theorem execFrameAccepted_powered {s : State} (hs : s.powered = true) (kind tag : Byte)
    (payload : List Byte) : execFrameAccepted kind tag payload s = .next (closeEvent s
      ((s.setReceiver .control {}).acceptRequest { kind := kind, tag := tag, payload := payload })) :=
  event_powered hs _

/-! ### The transmitter and the notices (R171, R180) -/

theorem State.transmit_busy {s : State} (h : s.link.transmitter.isSome = true) : s.transmit = s := by
  obtain ⟨x, hx⟩ := Option.isSome_iff_exists.mp h
  simp [State.transmit, hx]

theorem State.transmit_reply {s : State} {reply : Frame} {reset : Bool} (h : s.link.transmitter = none)
    (hservice : s.link.service = .replying reply reset) :
    s.transmit = { s with link := { s.link with
      service := .sending reset
      transmitter := some
        { frame := reply, isReply := true, ends := timePlus s.timeBase reply.lineTime } } } := by
  simp [State.transmit, h, hservice]

/-- The service leaves the transmitter to the notices: no reply waits, and no reset stands ready. -/
def Service.leavesLine : Service → Bool
  | .replying _ _ | .resetting => false
  | .free | .writing _ _ _ | .sending _ => true

theorem leavesLine_of_free_or_writing {v : Service}
    (h : v = .free ∨ ∃ tag copy ends, v = .writing tag copy ends) : v.leavesLine = true := by
  rcases h with rfl | ⟨tag, copy, ends, rfl⟩ <;> rfl

theorem State.transmit_notice {s : State} {n : Notice} {rest : List Notice} (h : s.link.transmitter = none)
    (hservice : s.link.service.leavesLine = true) (hnotices : s.link.notices = n :: rest) :
    s.transmit = { s with link := { s.link with
      notices := rest
      transmitter := some
        { frame := n.frame, isReply := false, ends := timePlus s.timeBase n.frame.lineTime } } } := by
  unfold State.transmit
  cases hs : s.link.service <;> simp [h, hs, hnotices, Service.leavesLine] at hservice ⊢

theorem State.transmit_nothing {s : State} (h : s.link.transmitter = none)
    (hservice : s.link.service.leavesLine = true) (hnotices : s.link.notices = []) : s.transmit = s := by
  unfold State.transmit
  cases hs : s.link.service <;> simp [h, hs, hnotices, Service.leavesLine] at hservice ⊢

theorem State.raise_dropped {s : State} (h : 8 ≤ s.link.notices.length)
    (hflag : s.flag .noticeDropped = true) (k : NoticeKind) :
    s.raise k = { s with link := { s.link with noticeNumber := s.link.noticeNumber + 1 } } := by
  have hfull : ¬s.link.notices.length < Config.noticeCapacity := Nat.not_lt.mpr h
  unfold State.raise
  simp only [if_neg hfull, hflag, if_true]

theorem State.raise_newlyDropped {s : State} (h : 8 ≤ s.link.notices.length)
    (hflag : s.flag .noticeDropped = false) (k : NoticeKind) :
    s.raise k = { s with
      flags := s.flags ||| 0x00800000
      link := { s.link with noticeNumber := s.link.noticeNumber + 2 } } := by
  have hfull : ¬s.link.notices.length < Config.noticeCapacity := Nat.not_lt.mpr h
  unfold State.raise
  simp only [if_neg hfull, hflag, Bool.false_eq_true, if_false]
  rfl

/-- With a busy transmitter an event of one run state raises a FLAG notice of the flags it newly set, and
nothing without any. -/
theorem closeEvent_busy {b a : State} (hr : b.run = a.run) (hbusy : a.link.transmitter.isSome = true) :
    closeEvent b a = if newlySet b.flags a.flags = 0 then a else a.raise (.flag (newlySet b.flags a.flags)) := by
  unfold closeEvent raiseNotices
  simp only [hr, if_true]
  split
  · exact State.transmit_busy hbusy
  · exact State.transmit_busy (by rw [(State.raise_link a _).2.2.2.2.2]; exact hbusy)

end Sys2Proof.Machine

namespace Sys2Proof.Laws.Supply

open Sys2Proof Sys2Proof.Machine

/-- Settles O44: the low test's branches on the sample's reading. -/
theorem pressureSample : Obligations.PressureSample := by
  unfold Obligations.PressureSample
  intro ua s hs
  have hexec := execPressureSample_powered hs ua
  dsimp only
  rw [← readingOf_eq]
  refine ⟨readingOf_le ua, fun htest => hexec.trans ?_, fun htest hhigh => hexec.trans ?_,
    fun htest hlow hrun => hexec.trans ?_, fun htest hlow hrun hno => hexec.trans ?_⟩
  · rw [State.lowTest_stopped (by exact htest)]
    rfl
  · rw [State.lowTest_high (by exact htest) (by exact hhigh)]
    rfl
  · rw [State.lowTest_low (by exact htest) (by exact hlow) (by exact hrun)]
    rfl
  · rw [State.lowTest_third (by exact htest) (by exact hrun) (by exact hlow),
      State.pressureLow_no_halt (by exact hno)]
    rfl

end Sys2Proof.Laws.Supply

namespace Sys2Proof.Laws.RunControl

open Sys2Proof Sys2Proof.Machine

/-- Settles O48: STOP by run state, and the retirement of the last record in DRAIN. -/
theorem stop : Obligations.Stop := by
  unfold Obligations.Stop
  refine ⟨fun tag s hs => ⟨fun hrun hne => execStop_draining hs hrun hne tag, fun hrun hempty hroom => ?_,
    fun hrun => execStop_conditioning hs hrun tag, fun hrun hcond => execStop_refused hs hrun hcond tag⟩,
    fun r s hrun hrecords hterminal hedge => ?_⟩
  · have hraise := State.raise_room (s := s) (by omega) (.state .drain)
    obtain ⟨hnotices, hreply⟩ := closeEvent_replied_stateNotice (b := s.raise (.state .drain))
      (u := { s.raise (.state .drain) with run := .setup }) rfl (by rw [hraise]; simp [hrun])
      (by rw [hraise]; simp; omega) 0x87 tag [0x00, 0x00]
    refine ⟨_, execStop_empty hs hrun hempty tag, closeEvent_run _ _, ?_, hreply, ?_, ?_, ?_, ?_⟩
    · have hflags := closeEvent_flags_stateNotice (b := s.raise (.state .drain))
        (a := ({ s.raise (.state .drain) with run := .setup } : State).replied 0x87 tag [0x00, 0x00]) rfl
        (by rw [hraise]; simp [hrun, State.replied])
        (by rw [hraise]; simp [State.replied, State.handReply]; omega)
      rw [hflags, hraise]
    · rw [hnotices, hraise]
      simp
    · refine State.SameOffPlant.trans ?_ (.closeEvent _ _)
      rw [hraise]
      rfl
    · rw [closeEvent_store, hraise]
      rfl
    · rw [closeEvent_banks, hraise]
      rfl
  · have hheld := State.Holds.of_single hrecords
    have hretire : s.retireTest r.id =
        (s.modTally r.tallyClass fun k => k.countOutcome r.state).removeRecord r.id := by
      unfold State.retireTest
      simp only [hheld.record?, hterminal, hedge, Bool.and_self, if_true]
    rw [hretire]
    exact State.removeRecord_last (s := s.modTally r.tallyClass fun k => k.countOutcome r.state) hrun hrecords

end Sys2Proof.Laws.RunControl

namespace Sys2Proof.Laws.Framing

open Sys2Proof Sys2Proof.Machine

/-- Settles O52: each byte, frame and fault by the receiver's state and the queue's room. -/
theorem receiverRules : Obligations.ReceiverRules := by
  unfold Obligations.ReceiverRules
  refine ⟨fun p b coils s hs hhunt => ⟨fun hb => ?_, ?_, ?_⟩, fun b coils s hs => ?_, fun h s hs => ?_,
    fun kind tag payload s hs => ⟨fun hroom => ?_, fun hfull => ?_⟩⟩
  · refine (execByteReceived_powered hs p b true coils).trans ?_
    rw [if_pos rfl, hhunt, show RxState.hunt.take b = .goes .hunt from if_neg hb]
    rfl
  · refine (execByteReceived_powered hs p 0xA5 true coils).trans ?_
    rw [if_pos rfl, hhunt]
    rfl
  · refine (execByteReceived_powered hs p b false coils).trans ?_
    rw [if_neg Bool.false_ne_true, hhunt]
    rfl
  · exact ⟨fun hframe => execByteReceived_broken (p := .control) hs hframe b coils,
      execFrameFault_powered hs .control, fun due hdue => execFrameTimerExpiry_running (p := .control) hs hdue,
      fun hstopped => execFrameTimerExpiry_stopped (p := .control) hs hstopped⟩
  · have hfault := s.frameFault_head h
    refine ⟨(execFrameFault_powered hs (.head h)).trans (by rw [hfault]),
      fun b coils hframe => (execByteReceived_broken hs hframe b coils).trans (by rw [hfault]),
      fun due hdue => (execFrameTimerExpiry_running hs hdue).trans ?_,
      fun hstopped => execFrameTimerExpiry_stopped hs hstopped⟩
    rw [State.frameFault_head]
    cases h <;> rfl
  · refine (execFrameAccepted_powered hs kind tag payload).trans ?_
    rw [State.acceptRequest, if_pos (by exact hroom)]
    rfl
  · refine (execFrameAccepted_powered hs kind tag payload).trans ?_
    rw [State.acceptRequest, if_neg (by exact Nat.not_lt.mpr hfull)]
    rfl

/-- Settles O53: the frame that a free transmitter takes, and the notice queue with and without room. -/
theorem transmitterAndNotices : Obligations.TransmitterAndNotices := by
  unfold Obligations.TransmitterAndNotices
  refine ⟨fun x s hs hx => ⟨fun reply reset hno hservice => ?_, fun n rest hreply hservice hnotices => ?_,
      fun hreply hservice hnotices => ?_, fun hno hservice => ⟨fun n rest hnotices => ?_, fun hnotices => ?_⟩⟩,
    fun s hs hidle => ?_, fun s => State.transmit_busy, fun k s => ⟨fun hroom => State.raise_room hroom k,
      fun hfull hset => State.raise_dropped hfull hset k,
      fun hfull hclear => State.raise_newlyDropped hfull hclear k⟩,
    fun before after hrun hbusy => ⟨fun hnone => ?_, fun hsome => ?_⟩, fun n => ?_⟩
  · refine (execFrameSent_sending hs hx).trans (congrArg Host.Outcome.next ?_)
    rw [hno, if_neg Bool.false_ne_true]
    exact State.transmit_reply rfl hservice
  · refine (execFrameSent_sending hs hx).trans (congrArg Host.Outcome.next ?_)
    rw [hreply, if_pos rfl, hservice]
    exact State.transmit_notice rfl rfl hnotices
  · refine (execFrameSent_sending hs hx).trans (congrArg Host.Outcome.next ?_)
    rw [hreply, if_pos rfl, hservice]
    exact State.transmit_nothing rfl rfl hnotices
  · refine (execFrameSent_sending hs hx).trans (congrArg Host.Outcome.next ?_)
    rw [hno, if_neg Bool.false_ne_true]
    exact State.transmit_notice rfl (leavesLine_of_free_or_writing hservice) hnotices
  · refine (execFrameSent_sending hs hx).trans (congrArg Host.Outcome.next ?_)
    rw [hno, if_neg Bool.false_ne_true]
    exact State.transmit_nothing rfl (leavesLine_of_free_or_writing hservice) hnotices
  · show execFrameSent s = _
    unfold execFrameSent
    rw [event_powered hs, hidle]
  · rw [closeEvent_busy hrun hbusy]
    exact if_pos hnone
  · rw [closeEvent_busy hrun hbusy]
    exact if_neg hsome
  · unfold Notice.frame
    cases hk : n.kind with
    | flag mask =>
      refine ⟨rfl, fun m hm => ?_, nofun⟩
      obtain rfl := NoticeKind.flag.inj hm
      exact ⟨rfl, rfl⟩
    | state r =>
      refine ⟨rfl, nofun, fun q hq => ?_⟩
      obtain rfl := NoticeKind.state.inj hq
      exact ⟨rfl, rfl⟩

end Sys2Proof.Laws.Framing

/-!
SUPPORT. A frame received byte by byte on the control link (10.1, 10.2), and the service of requests
(10.3): what is refused, taken into service, or left alone.
-/

namespace Sys2Proof.Machine

/-! ### Bytes received one after another -/

theorem receive_append {p : Port} {coils : Coils} {xs ys : List Byte} {s t : State}
    (h : receive p coils xs s = .next t) : receive p coils (xs ++ ys) s = receive p coils ys t := by
  induction xs generalizing s with
  | nil =>
    obtain rfl : s = t := Host.Outcome.next.inj h
    rfl
  | cons b xs ih =>
    simp only [receive, List.cons_append] at h ⊢
    split
    · rename_i u hu
      rw [hu] at h
      exact ih h
    · rename_i r hr
      rw [hr] at h
      cases h
    · rename_i r hr
      rw [hr] at h
      cases h

theorem receive_single {p : Port} {coils : Coils} {b : Byte} {s t : State}
    (h : exec (.byteReceived p b true coils) s = .next t) : receive p coils [b] s = .next t := by
  simp only [receive, h]

/-- `t` is `s` with the control receiver in a state and the request queue as it was; the transmitter may
have taken other work. -/
structure State.Listening (s t : State) (r : RxState) : Prop where
  off : t = { s with link := t.link }
  state : t.link.rxControl.state = r
  requests : t.link.requests = s.link.requests

theorem State.Listening.powered {s t : State} {r : RxState} (h : s.Listening t r) :
    t.powered = s.powered := by rw [h.off]

/-- An event that sets no flag and leaves the run state changes the link alone. -/
theorem closeEvent_off {s t u : State} (h : t = { s with link := t.link })
    (hu : u = { t with link := u.link }) :
    closeEvent t u = { s with link := (closeEvent t u).link } := by
  have hquiet : closeEvent t u = u.transmit := closeEvent_quiet (by rw [hu]) (by rw [hu])
  obtain ⟨l, htransmit⟩ := State.transmit_eq u
  rw [hquiet, htransmit, hu, h]

/-- A byte that carries the receiver on to a state. -/
theorem State.Listening.goes {s t : State} {r r' : RxState} {b : Byte} (h : s.Listening t r)
    (hs : s.powered = true) (htake : r.take b = .goes r') (coils : Coils) :
    ∃ u, receive .control coils [b] t = .next u ∧ s.Listening u r' := by
  have hexec := execByteReceived_powered (h.powered.trans hs) .control b true coils
  have hr : (t.link.receiver .control).state = r := h.state
  rw [if_pos rfl, hr, htake] at hexec
  refine ⟨_, receive_single hexec, ?_, ?_, ?_⟩
  · exact closeEvent_off h.off rfl
  · rw [closeEvent_rxControl]
    rfl
  · rw [closeEvent_requests]
    exact h.requests

/-- SYNC begins a frame. -/
theorem State.Listening.begins {s : State} (hs : s.powered = true)
    (hhunt : s.link.rxControl.state = .hunt) (coils : Coils) :
    ∃ u, receive .control coils [0xA5] s = .next u ∧ s.Listening u (.header []) := by
  have hexec := execByteReceived_powered hs .control 0xA5 true coils
  have hr : (s.link.receiver .control).state = .hunt := hhunt
  rw [if_pos rfl, hr, show RxState.hunt.take 0xA5 = .begins from rfl] at hexec
  refine ⟨_, receive_single hexec, ?_, ?_, ?_⟩
  · exact closeEvent_off rfl rfl
  · rw [closeEvent_rxControl]
    rfl
  · rw [closeEvent_requests]
    rfl

/-- The rest of a payload, not empty, carries the receiver to the CRC. -/
theorem State.Listening.payload {s t : State} {kind tag : Byte} {len : Nat} {got rest : List Byte}
    (h : s.Listening t (.payload kind tag len got)) (hs : s.powered = true)
    (hlen : got.length + rest.length = len) (hrest : rest ≠ []) (coils : Coils) :
    ∃ u, receive .control coils rest t = .next u ∧
      s.Listening u (.check { kind := kind, tag := tag, payload := got ++ rest } none) := by
  induction rest generalizing t got with
  | nil => exact absurd rfl hrest
  | cons b rest ih =>
    cases rest with
    | nil =>
      exact h.goes hs (if_pos (by simp at hlen; omega)) coils
    | cons c rest =>
      obtain ⟨u, hu, hlisten⟩ := h.goes hs (if_neg (by simp at hlen; omega)) coils (b := b)
      obtain ⟨v, hv, hdone⟩ := ih hlisten (by simp at hlen ⊢; omega) (by simp)
      refine ⟨v, ?_, by simpa using hdone⟩
      rw [← List.singleton_append, receive_append hu, hv]

/-- SYNC, header and payload of a frame carry the receiver to the frame's CRC. -/
theorem State.Listening.body {s : State} {f : Frame} (hs : s.powered = true)
    (hhunt : s.link.rxControl.state = .hunt) (hlen : f.payload.length ≤ 240) (coils : Coils) :
    ∃ u, receive .control coils ([0xA5] ++ f.body) s = .next u ∧ s.Listening u (.check f none) := by
  obtain ⟨u, hu, h⟩ := State.Listening.begins hs hhunt coils
  obtain ⟨u1, hu1, h⟩ := h.goes hs (b := f.kind) rfl coils
  obtain ⟨u2, hu2, h⟩ := h.goes hs (b := f.tag) rfl coils
  have hlenByte : (BitVec.ofNat 8 f.payload.length).toNat = f.payload.length := by
    rw [BitVec.toNat_ofNat]
    omega
  have hheader : RxState.take (.header [f.kind, f.tag]) (BitVec.ofNat 8 f.payload.length) =
      if f.payload.length = 0 then .goes (.check { kind := f.kind, tag := f.tag, payload := [] } none)
      else .goes (.payload f.kind f.tag f.payload.length []) := by
    simp only [RxState.take, afterHeader, hlenByte]
    exact if_neg (Nat.not_lt.mpr hlen)
  have hsplit : [0xA5] ++ f.body =
      [0xA5] ++ ([f.kind] ++ ([f.tag] ++ ([BitVec.ofNat 8 f.payload.length] ++ f.payload))) := rfl
  rw [hsplit, receive_append hu, receive_append hu1, receive_append hu2]
  obtain ⟨kind, tag, payload⟩ := f
  cases payload with
  | nil =>
    obtain ⟨v, hv, h⟩ := h.goes hs hheader coils
    exact ⟨v, hv, h⟩
  | cons b rest =>
    obtain ⟨v, hv, h⟩ := h.goes hs hheader coils
    obtain ⟨w, hw, h⟩ := h.payload (rest := b :: rest) hs (by simp) (by simp) coils
    exact ⟨w, (receive_append hv).trans hw, h⟩

end Sys2Proof.Machine

namespace Sys2Proof.Laws.Framing

open Sys2Proof Sys2Proof.Machine

/-- The two bytes of a 16-bit value, high byte first, make it up again. -/
theorem bytes_append (x : BitVec 16) : x.extractLsb' 8 8 ++ x.extractLsb' 0 8 = x := by
  refine BitVec.eq_of_getLsbD_eq fun i hi => ?_
  rw [BitVec.getLsbD_append]
  by_cases hlow : i < 8
  · simp [hlow]
  · simp [hlow, show i - 8 < 8 by omega, show 8 + (i - 8) = i by omega]

/-- Settles O51: the bytes up to the CRC carry the receiver to the check of that frame, and the last one
accepts it or finds a fault. -/
theorem frameReception : Obligations.FrameReception := by
  unfold Obligations.FrameReception
  refine ⟨fun f coils s hs hlen hhunt hroom => ?_, fun f x y coils s hs hlen hhunt hcrc => ?_⟩
  · obtain ⟨u, hu, h⟩ := State.Listening.body hs hhunt hlen coils
    obtain ⟨v, hv, h⟩ := h.goes hs (b := (crcOf f.body).extractLsb' 8 8) rfl coils
    have hexec := execByteReceived_powered (h.powered.trans hs) .control ((crcOf f.body).extractLsb' 0 8)
      true coils
    have hr : (v.link.receiver .control).state = _ := h.state
    rw [if_pos rfl, hr, RxState.take, if_pos (bytes_append _)] at hexec
    have hjoin : v.takeByte .control (.accepts f) coils = { v with link := { v.link with
        rxControl := {}, requests := v.link.requests ++ [f] } } :=
      if_pos (by rw [show (v.setReceiver .control {}).link.requests = _ from h.requests]; exact hroom)
    rw [hjoin] at hexec
    refine ⟨_, (receive_append hu).trans ((receive_append (ys := [_]) hv).trans (receive_single hexec)),
      ?_, ?_, ?_⟩
    · rw [closeEvent_requests, h.requests]
    · rw [closeEvent_rxControl]
    · exact closeEvent_off h.off rfl
  · obtain ⟨u, hu, h⟩ := State.Listening.body hs hhunt hlen coils
    obtain ⟨v, hv, h⟩ := h.goes hs (b := x) rfl coils
    have hexec := execByteReceived_powered (h.powered.trans hs) .control y true coils
    have hr : (v.link.receiver .control).state = _ := h.state
    rw [if_pos rfl, hr, RxState.take, if_neg hcrc] at hexec
    refine ⟨_, (receive_append hu).trans ((receive_append (ys := [_]) hv).trans (receive_single hexec)),
      ?_, ?_, ?_, ?_⟩
    · rw [closeEvent_requests]
      exact h.requests
    · rw [closeEvent_rxControl]
      rfl
    · rw [closeEvent_flag _ _ (by decide)]
      exact (State.flag_setFlag _ .linkFault .linkFault).trans (by simp)
    · obtain ⟨l, fl, hclose⟩ := closeEvent_eq v (v.takeByte .control .faults coils)
      rw [hclose, show v.takeByte .control .faults coils = v.frameFault .control from rfl,
        State.frameFault_control, State.setReceiver, h.off]

end Sys2Proof.Laws.Framing

/-!
SUPPORT. The service of a request (10.3): what is refused, taken into service, or left alone.
-/

namespace Sys2Proof.Machine

/-- What every answer to a request in a state keeps to: the link is not its own to change, and a refusal
leaves the state as it was (R169, R170). -/
structure Modest (t : State) (r : Answer × State) : Prop where
  link : r.2.link = t.link
  refused : r.1.status.taken = false → r.2 = t ∧ r.1.thenReset = false

theorem Modest.refusal (status : Status) (t : State) : Modest t (refusal status, t) :=
  ⟨rfl, fun _ => ⟨rfl, rfl⟩⟩

theorem Modest.of_taken {t : State} {r : Answer × State} (hlink : r.2.link = t.link)
    (htaken : r.1.status.taken = true) : Modest t r :=
  ⟨hlink, fun h => by rw [htaken] at h; cases h⟩

theorem Modest.ok {t u : State} (data : List Byte) (hlink : u.link = t.link) : Modest t (okWith data, u) :=
  .of_taken hlink rfl

theorem State.readRequest_modest (t : State) (payload : List Byte) : Modest t (t.readRequest payload) := by
  unfold State.readRequest
  split
  · exact .refusal _ _
  · unfold State.readFrom
    split
    · exact .refusal _ _
    · split
      · exact .ok _ rfl
      · unfold State.readCollection
        dsimp only
        split
        · exact .refusal _ _
        · exact .ok _ rfl

theorem State.writeRoute_modest (t : State) (l : Locator) (bs : List Byte) :
    Modest t (t.writeRoute l bs) := by
  unfold State.writeRoute
  split
  · exact .refusal _ _
  · split
    · exact .refusal _ _
    · refine .of_taken rfl ?_
      dsimp only
      split <;> rfl

theorem State.writeNozzle_modest (t : State) (l : Locator) (grade : Byte) :
    Modest t (t.writeNozzle l grade) := by
  unfold State.writeNozzle
  dsimp only
  split
  · exact .ok _ rfl
  · refine .ok _ ?_
    split
    · rfl
    · exact (BankSide.autoFence _ _).link
  · exact .refusal _ _

theorem State.writeRequest_modest (t : State) (payload : List Byte) : Modest t (t.writeRequest payload) := by
  unfold State.writeRequest
  dsimp only
  split
  · exact .refusal _ _
  · split
    · exact .refusal _ _
    · split
      · exact .refusal _ _
      · split
        · exact State.writeRoute_modest t _ _
        · exact State.writeNozzle_modest t _ _

theorem State.popOldest_link (s : State) (c : Channel) : (s.popOldest c).link = s.link := by
  unfold State.popOldest
  split <;> rfl

theorem State.capture_mx_link (s : State) (position : Pos) (time : Time) :
    (s.capture .mx position time).link = s.link := by
  rw [State.capture_eq]
  exact s.popOldest_link .mx

theorem State.passDrain_requests (s : State) : s.passDrain.link.requests = s.link.requests := by
  unfold State.passDrain
  split
  · exact (State.raise_link _ _).1
  · rfl

theorem State.passDrain_run (s : State) : s.passDrain.run = s.run := by
  unfold State.passDrain
  split
  · obtain ⟨l, fl, h⟩ := State.raise_eq s (.state .drain)
    rw [h]
  · rfl

theorem State.passDrain_of_ne_run {s : State} (h : s.run ≠ .run) : s.passDrain = s :=
  if_neg fun k => h k.1

theorem State.putSetting_link (s : State) (n : SettingName) (v : Int) (coils : Coils) :
    (s.putSetting n v coils).link = s.link := by
  unfold State.putSetting State.settingTaken
  split
  · split <;> rfl
  · split <;> rfl
  · split <;> rfl
  · exact (BankSide.purgeTest _ _ _).link
  · exact (BankSide.afterShed _ _ _).link
  · rfl

theorem State.startRun_link (s : State) (coils : Coils) : (s.startRun coils).link = s.link := by
  have h := BankSide.foldl (BankSide.conditionDark coils) allBanks s
  simp only [State.startRun]
  exact h.link

theorem State.unfenceBank_link (s : State) (b : BankId) (coils : Coils) :
    (s.unfenceBank b coils).link = s.link := by
  unfold State.unfenceBank
  cases s.run with
  | run => exact (BankSide.beginConditioning _ _ _).link
  | conditioning => exact (BankSide.beginConditioning _ _ _).link
  | setup => rfl
  | drain => rfl
  | halted cause => rfl

/-- What the service of a request of a form makes of a state it was taken in: the other waiting frames
stand, the service is not free, and a refusal changes nothing but the reply. -/
structure RequestWork (f : RequestForm) (work : State → State) : Prop where
  requests : ∀ t, (work t).link.requests = t.link.requests
  busy : ∀ t, (work t).link.service ≠ .free
  refused : ∀ t status rest,
    (work t).replyFrame? = some { kind := f.kind + 0x80, tag := f.tag, payload := status :: rest } →
    0x10 ≤ status.toNat →
    rest = [] ∧ work t = closeEvent t (t.replied (f.kind + 0x80) f.tag [status])

/-- A reply handed on is in hand after the close of the event (R169, R171). -/
theorem closeEvent_handReply (b u : State) (reply : Frame) (thenReset : Bool) :
    (closeEvent b (u.handReply reply thenReset)).replyFrame? = some reply := by
  refine (State.transmit_replying (thenReset := thenReset) ?_).2
  rcases raiseNotices_cases b (u.handReply reply thenReset) with h | h | h | h <;> rw [h]
  · rfl
  · exact (State.raise_link _ _).2.2.2.2.1
  · exact (State.raise_link _ _).2.2.2.2.1
  · exact ((State.raise_link _ _).2.2.2.2.1).trans (State.raise_link _ _).2.2.2.2.1

theorem State.service_of_replyFrame {s : State} {reply : Frame} (h : s.replyFrame? = some reply) :
    s.link.service ≠ .free := by
  intro hfree
  rw [State.replyFrame?, hfree] at h
  cases h

theorem Status.toNat_code_lt {status : Status} (h : status.taken = true) : status.code.toNat < 0x10 := by
  cases status <;> first | decide | cases h

/-- The effect made by `prepare` and `act`, its reply and the close of the event. -/
def answered (kind tag : Byte) (prepare : State → State) (act : State → Answer × State) (t : State) :
    State :=
  closeEvent (prepare t) ((act (prepare t)).2.handReply ((act (prepare t)).1.reply kind tag)
    (act (prepare t)).1.thenReset)

theorem requestWork_answered {f : RequestForm} {prepare : State → State} {act : State → Answer × State}
    (hact : ∀ t, Modest t (act t)) (hrequests : ∀ t, (prepare t).link.requests = t.link.requests)
    (hprepare : ∀ t, (act (prepare t)).1.status.taken = false → prepare t = t) :
    RequestWork f (answered f.kind f.tag prepare act) where
  requests t := by
    unfold answered
    rw [closeEvent_requests]
    exact (congrArg Link.requests (hact (prepare t)).link).trans (hrequests t)
  busy t := State.service_of_replyFrame (closeEvent_handReply _ _ _ _)
  refused t status rest hreply hstatus := by
    have hframe := Option.some.inj ((closeEvent_handReply _ _ _ _).symm.trans hreply)
    have hpayload : (act (prepare t)).1.status.code ::
        (if (act (prepare t)).1.status.taken then (act (prepare t)).1.data else []) = status :: rest :=
      congrArg Frame.payload hframe
    obtain ⟨hcode, hdata⟩ := List.cons.inj hpayload
    have htaken : (act (prepare t)).1.status.taken = false := by
      cases h : (act (prepare t)).1.status.taken with
      | false => rfl
      | true =>
        have := Status.toNat_code_lt h
        rw [hcode] at this
        omega
    obtain ⟨hstate, hreset⟩ := (hact (prepare t)).refused htaken
    rw [htaken] at hdata
    refine ⟨hdata.symm, ?_⟩
    unfold answered
    rw [hframe, hstate, hreset, hprepare t htaken, ← hdata]
    rfl

/-- SAVE begins its write and hands no reply on (R164). -/
def saveBegun (tag : Byte) (t : State) : State :=
  closeEvent t { t with link := { t.link with
    service := .writing tag t.settings (timePlus t.timeBase Config.saveTime) } }

theorem saveBegun_service (tag : Byte) (t : State) :
    (saveBegun tag t).link.service = .writing tag t.settings (timePlus t.timeBase Config.saveTime) := by
  have hquiet : saveBegun tag t = State.transmit { t with link := { t.link with
      service := .writing tag t.settings (timePlus t.timeBase Config.saveTime) } } :=
    closeEvent_quiet rfl rfl
  rw [hquiet]
  simp only [State.transmit]
  split
  · rfl
  · rfl
  · rename_i h
    cases h
  · split <;> rfl

theorem requestWork_saveBegun (tag : Byte) (payload : List Byte) :
    RequestWork ⟨0x05, tag, payload, [0]⟩ (saveBegun tag) where
  requests t := by
    unfold saveBegun
    rw [closeEvent_requests]
  busy t h := by
    rw [saveBegun_service] at h
    cases h
  refused t status rest hreply _ := by
    rw [State.replyFrame?, saveBegun_service] at hreply
    cases hreply

/-- What a request command makes of a state: nothing if it cannot be taken; refused by its LEN; or its
work (R169, R170). -/
def Serves (c : Instr) (f : RequestForm) (work : State → State) : Prop :=
  ∀ s, exec c s = .next ((s.takeRequest { kind := f.kind, tag := f.tag, payload := f.payload }).elim s
    fun t => if f.lens.contains f.payload.length then work t
      else closeEvent t (t.replied (f.kind + 0x80) f.tag [0x22]))

theorem serves_of_serveAfter {c : Instr} {f : RequestForm} {prepare : State → State}
    {act : State → Answer × State}
    (h : ∀ s, exec c s = serveAfter prepare f.kind f.tag f.payload f.lens act s) :
    Serves c f (answered f.kind f.tag prepare act) := by
  intro s
  rw [h s]
  unfold serveAfter
  cases s.takeRequest { kind := f.kind, tag := f.tag, payload := f.payload } <;> rfl

/-- The service of a command's request is such a work. -/
def HasWork (c : Instr) (f : RequestForm) : Prop := ∃ work, RequestWork f work ∧ Serves c f work

theorem hasWork_of_serveAfter (run : State → Host.Outcome State Fault Refusal) {c : Instr} {f : RequestForm}
    {prepare : State → State} {act : State → Answer × State}
    (h : ∀ s, run s = serveAfter prepare f.kind f.tag f.payload f.lens act s)
    (hexec : ∀ s, exec c s = run s) (hact : ∀ t, Modest t (act t))
    (hrequests : ∀ t, (prepare t).link.requests = t.link.requests)
    (hprepare : ∀ t, (act (prepare t)).1.status.taken = false → prepare t = t) : HasWork c f :=
  ⟨_, requestWork_answered hact hrequests hprepare, serves_of_serveAfter fun s => (hexec s).trans (h s)⟩

/-- A request whose whole effect is one event. -/
theorem hasWork_of_serve (run : State → Host.Outcome State Fault Refusal) {c : Instr} {f : RequestForm}
    {act : State → Answer × State} (h : ∀ s, run s = serve f.kind f.tag f.payload f.lens act s)
    (hexec : ∀ s, exec c s = run s) (hact : ∀ t, Modest t (act t)) : HasWork c f :=
  hasWork_of_serveAfter run h hexec hact (fun _ => rfl) fun _ _ => rfl

theorem hasWork_status (tag : Byte) (payload : List Byte) :
    HasWork (.status tag payload) ⟨0x01, tag, payload, [0]⟩ := by
  refine hasWork_of_serve (execStatus tag payload) (by exact fun _ => rfl)
    (by exact fun _ => rfl) fun t => ?_
  exact .ok _ rfl

theorem hasWork_get (tag : Byte) (payload : List Byte) :
    HasWork (.get tag payload) ⟨0x03, tag, payload, [2]⟩ := by
  refine hasWork_of_serve (execGet tag payload) (by exact fun _ => rfl)
    (by exact fun _ => rfl) fun t => ?_
  split
  · exact .refusal _ _
  · exact .refusal _ _
  · exact .ok _ rfl

theorem hasWork_set (tag : Byte) (payload : List Byte) (coils : Coils) :
    HasWork (.set tag payload coils) ⟨0x04, tag, payload, [6]⟩ := by
  refine hasWork_of_serve (execSet tag payload coils) (by exact fun _ => rfl)
    (by exact fun _ => rfl) fun t => ?_
  split
  · exact .refusal _ _
  · exact .refusal _ _
  · split
    · exact .refusal _ _
    · split
      · exact .refusal _ _
      · split
        · exact .refusal _ _
        · refine .of_taken (State.putSetting_link _ _ _ _) ?_
          dsimp only
          split <;> rfl

theorem hasWork_start (tag : Byte) (payload : List Byte) (coils : Coils) :
    HasWork (.start tag payload coils) ⟨0x06, tag, payload, [0]⟩ := by
  refine hasWork_of_serve (execStart tag payload coils) (by exact fun _ => rfl)
    (by exact fun _ => rfl) fun t => ?_
  split
  · exact .refusal _ _
  · split
    · exact .refusal _ _
    · split
      · exact .refusal _ _
      · exact .ok _ (t.startRun_link coils)

theorem hasWork_abortRun (tag : Byte) (payload : List Byte) :
    HasWork (.abortRun tag payload) ⟨0x08, tag, payload, [0]⟩ := by
  refine hasWork_of_serve (execAbortRun tag payload) (by exact fun _ => rfl)
    (by exact fun _ => rfl) fun t => ?_
  obtain ⟨st, bk, k, habort⟩ := State.enterHalted_eq t .host
  have hlink : (t.enterHalted .host).link = t.link := by rw [habort]
  split
  · exact .ok _ hlink
  · exact .ok _ hlink
  · exact .ok _ hlink
  · exact .ok _ hlink
  · exact .refusal _ _

theorem hasWork_resume (tag : Byte) (payload : List Byte) :
    HasWork (.resume tag payload) ⟨0x09, tag, payload, [0]⟩ := by
  refine hasWork_of_serve (execResume tag payload) (by exact fun _ => rfl)
    (by exact fun _ => rfl) fun t => ?_
  split
  · exact .ok _ rfl
  all_goals exact .refusal _ _

theorem hasWork_reset (tag : Byte) (payload : List Byte) :
    HasWork (.reset tag payload) ⟨0x0A, tag, payload, [0]⟩ := by
  refine hasWork_of_serve (execReset tag payload) (by exact fun _ => rfl)
    (by exact fun _ => rfl) fun t => ?_
  exact .of_taken rfl rfl

theorem hasWork_read (tag : Byte) (payload : List Byte) :
    HasWork (.read tag payload) ⟨0x0B, tag, payload, [1, 6]⟩ := by
  refine hasWork_of_serve (execRead tag payload) (by exact fun _ => rfl)
    (by exact fun _ => rfl) fun t => ?_
  exact State.readRequest_modest t _

theorem hasWork_shortRead (tag : Byte) (payload : List Byte) :
    HasWork (.shortRead tag payload) ⟨0x0B, tag, payload, [1, 6]⟩ := by
  refine hasWork_of_serve (execShortRead tag payload) (by exact fun _ => rfl)
    (by exact fun _ => rfl) fun t => ?_
  exact State.readRequest_modest t _

theorem hasWork_writeRoute (tag : Byte) (payload : List Byte) :
    HasWork (.writeRoute tag payload) ⟨0x0C, tag, payload, [15, 6]⟩ := by
  refine hasWork_of_serve (execWriteRoute tag payload) (by exact fun _ => rfl)
    (by exact fun _ => rfl) fun t => ?_
  exact State.writeRequest_modest t _

theorem hasWork_writeNozzle (tag : Byte) (payload : List Byte) :
    HasWork (.writeNozzle tag payload) ⟨0x0C, tag, payload, [15, 6]⟩ := by
  refine hasWork_of_serve (execWriteNozzle tag payload) (by exact fun _ => rfl)
    (by exact fun _ => rfl) fun t => ?_
  exact State.writeRequest_modest t _

theorem hasWork_fence (tag : Byte) (payload : List Byte) :
    HasWork (.fence tag payload) ⟨0x0D, tag, payload, [1]⟩ := by
  refine hasWork_of_serve (execFence tag payload) (by exact fun _ => rfl)
    (by exact fun _ => rfl) fun t => ?_
  split
  · exact .refusal _ _
  · exact .ok _ (BankSide.fenceBank _ _).link

theorem hasWork_unfence (tag : Byte) (payload : List Byte) (coils : Coils) :
    HasWork (.unfence tag payload coils) ⟨0x0E, tag, payload, [1]⟩ := by
  refine hasWork_of_serve (execUnfence tag payload coils) (by exact fun _ => rfl)
    (by exact fun _ => rfl) fun t => ?_
  split
  · exact .refusal _ _
  · split
    · exact .refusal _ _
    · split
      · exact .refusal _ _
      · exact .ok _ (State.unfenceBank_link _ _ _)

theorem hasWork_setLevel (tag : Byte) (payload : List Byte) :
    HasWork (.setLevel tag payload) ⟨0x0F, tag, payload, [2]⟩ := by
  refine hasWork_of_serve (execSetLevel tag payload) (by exact fun _ => rfl)
    (by exact fun _ => rfl) fun t => ?_
  split
  · split
    · exact .refusal _ _
    · split
      · exact .refusal _ _
      · split
        · exact .ok _ rfl
        · exact .ok _ (BankSide.startSwitch _ _ _).link
  · exact .refusal _ _

theorem hasWork_latchWatch (tag : Byte) (payload : List Byte) :
    HasWork (.latchWatch tag payload) ⟨0x10, tag, payload, [2]⟩ := by
  refine hasWork_of_serve (execLatchWatch tag payload) (by exact fun _ => rfl)
    (by exact fun _ => rfl) fun t => ?_
  split
  · exact .ok _ rfl
  · refine .ok _ ?_
    unfold State.startWatch
    dsimp only
    split <;> rfl
  · exact .refusal _ _

theorem hasWork_latchNow (tag : Byte) (payload : List Byte) :
    HasWork (.latchNow tag payload) ⟨0x11, tag, payload, [0]⟩ := by
  refine hasWork_of_serve (execLatchNow tag payload) (by exact fun _ => rfl)
    (by exact fun _ => rfl) fun t => ?_
  exact .ok _ (State.capture_mx_link t _ _)

theorem hasWork_inject (tag : Byte) (payload : List Byte) (coils : Coils) :
    HasWork (.inject tag payload coils) ⟨0x12, tag, payload, [10]⟩ := by
  refine hasWork_of_serve (execInject tag payload coils) (by exact fun _ => rfl)
    (by exact fun _ => rfl) fun t => ?_
  dsimp only
  split
  · exact .refusal _ _
  · split
    · exact .refusal _ _
    · split
      · exact .refusal _ _
      · exact .ok _ (BankSide.addRecord _ _ _).link

theorem hasWork_clearTallies (tag : Byte) (payload : List Byte) :
    HasWork (.clearTallies tag payload) ⟨0x13, tag, payload, [0]⟩ := by
  refine hasWork_of_serve (execClearTallies tag payload) (by exact fun _ => rfl)
    (by exact fun _ => rfl) fun t => ?_
  exact .ok _ rfl

theorem hasWork_stop (tag : Byte) (payload : List Byte) :
    HasWork (.stop tag payload) ⟨0x07, tag, payload, [0]⟩ := by
  refine hasWork_of_serveAfter (execStop tag payload) (by exact fun _ => rfl) (by exact fun _ => rfl)
    (fun t => ?_) State.passDrain_requests (fun t hrefused => ?_)
  · split
    · split
      · exact .ok _ rfl
      · exact .ok _ rfl
    · exact .ok _ rfl
    all_goals exact .refusal _ _
  · refine State.passDrain_of_ne_run fun hrun => ?_
    rw [State.passDrain_run, hrun] at hrefused
    dsimp only at hrefused
    split at hrefused <;> cases hrefused

theorem hasWork_save (tag : Byte) (payload : List Byte) :
    HasWork (.save tag payload) ⟨0x05, tag, payload, [0]⟩ := by
  refine ⟨_, requestWork_saveBegun tag payload, fun s => ?_⟩
  show execSave tag payload s = _
  unfold execSave
  cases s.takeRequest { kind := 0x05, tag := tag, payload := payload } with
  | none => rfl
  | some t =>
    by_cases hlength : payload.length = 0
    · simp [hlength, saveBegun]
    · simp [hlength, State.replied, Answer.reply, refusal, Status.code, Status.taken]

theorem State.clearFlagsOf_link (s : State) (mask : FlagMask) : (s.clearFlagsOf mask).link = s.link := by
  unfold State.clearFlagsOf
  dsimp only
  split <;> rfl

/-- The work of a CLEAR-FLAGS, from the value of SHED before it. -/
theorem requestWork_clearFlags (tag : Byte) (payload : List Byte) (coils : Coils) (shed : Bool) :
    RequestWork ⟨0x02, tag, payload, [4]⟩ (answered 0x02 tag (fun u => u.clearFlagsOf (clearMask payload))
      fun u => (okWith (bytes4 u.flags), u.afterShed shed coils)) :=
  requestWork_answered (fun _ => .ok _ (BankSide.afterShed _ _ _).link)
    (fun t => congrArg Link.requests (t.clearFlagsOf_link _)) fun _ h => by cases h

theorem State.takeRequest_shed {s t : State} {f : Frame} (h : s.takeRequest f = some t) :
    t.shed = s.shed := by
  obtain ⟨-, -, q, rfl, -⟩ := State.takeRequest_eq h
  rfl

theorem hasWork_clearFlags (tag : Byte) (payload : List Byte) (coils : Coils) :
    HasWork (.clearFlags tag payload coils) ⟨0x02, tag, payload, [4]⟩ := by
  refine ⟨fun t => answered 0x02 tag (fun u => u.clearFlagsOf (clearMask payload))
    (fun u => (okWith (bytes4 u.flags), u.afterShed t.shed coils)) t, ?_, fun s => ?_⟩
  · exact
      { requests := fun t => (requestWork_clearFlags tag payload coils t.shed).requests t
        busy := fun t => (requestWork_clearFlags tag payload coils t.shed).busy t
        refused := fun t => (requestWork_clearFlags tag payload coils t.shed).refused t }
  · show execClearFlags tag payload coils s = _
    unfold execClearFlags serveAfter
    cases htake : s.takeRequest { kind := 0x02, tag := tag, payload := payload } with
    | none => rfl
    | some t =>
      rw [← State.takeRequest_shed htake]
      rfl

/-- What the service of every request is, of whatever command (R169, R170, R172). -/
theorem hasWork_of_requestForm {c : Instr} {f : RequestForm} (h : requestForm c = some f) : HasWork c f := by
  cases c <;> cases h
  case status => exact hasWork_status _ _
  case get => exact hasWork_get _ _
  case set => exact hasWork_set _ _ _
  case start => exact hasWork_start _ _ _
  case abortRun => exact hasWork_abortRun _ _
  case resume => exact hasWork_resume _ _
  case reset => exact hasWork_reset _ _
  case read => exact hasWork_read _ _
  case shortRead => exact hasWork_shortRead _ _
  case writeRoute => exact hasWork_writeRoute _ _
  case writeNozzle => exact hasWork_writeNozzle _ _
  case fence => exact hasWork_fence _ _
  case unfence => exact hasWork_unfence _ _ _
  case setLevel => exact hasWork_setLevel _ _
  case latchWatch => exact hasWork_latchWatch _ _
  case latchNow => exact hasWork_latchNow _ _
  case inject => exact hasWork_inject _ _ _
  case clearTallies => exact hasWork_clearTallies _ _
  case stop => exact hasWork_stop _ _
  case save => exact hasWork_save _ _
  case clearFlags => exact hasWork_clearFlags _ _ _

/-! ### Which request is taken (R169) -/

theorem State.takeRequest_busy {s : State} (h : s.link.service ≠ .free) (f : Frame) :
    s.takeRequest f = none := by
  simp [State.takeRequest, h]

theorem State.takeRequest_other {s : State} {f g : Frame} {rest : List Frame}
    (hq : s.link.requests = g :: rest) (h : g ≠ f) : s.takeRequest f = none := by
  simp [State.takeRequest, hq, h]

theorem State.takeRequest_oldest {s : State} {f : Frame} {rest : List Frame} (hs : s.powered = true)
    (hfree : s.link.service = .free) (hq : s.link.requests = f :: rest) :
    s.takeRequest f = some { s with link := { s.link with requests := rest } } := by
  simp [State.takeRequest, hs, hfree, hq]

/-- A request of a ready part: refused by its LEN, or its work. -/
theorem Serves.of_ready {c : Instr} {f : RequestForm} {work : State → State} (h : Serves c f work)
    {s : State} (hs : s.ready) :
    exec c s = .next (if f.lens.contains f.payload.length then work s
      else closeEvent s (s.replied (f.kind + 0x80) f.tag [0x22])) := by
  rw [h s, State.takeRequest_ready hs]
  rfl

/-- A request that cannot be taken changes nothing. -/
theorem Serves.untaken {c : Instr} {f : RequestForm} {work : State → State} (h : Serves c f work)
    {s : State} (htake : s.takeRequest { kind := f.kind, tag := f.tag, payload := f.payload } = none) :
    exec c s = .next s := by
  rw [h s, htake]
  rfl

/-- A request that is taken: its service begins, and the frames behind it keep their order. -/
theorem RequestWork.begins {f : RequestForm} {work : State → State} (h : RequestWork f work) (t : State) :
    let u := if f.lens.contains f.payload.length then work t
      else closeEvent t (t.replied (f.kind + 0x80) f.tag [0x22])
    u.link.requests = t.link.requests ∧ u.link.service ≠ .free := by
  dsimp only
  split
  · exact ⟨h.requests t, h.busy t⟩
  · refine ⟨?_, State.service_of_replyFrame (closeEvent_handReply _ _ _ _)⟩
    rw [closeEvent_requests]
    rfl

theorem execUnknownKind_taken {s t : State} {kind tag : Byte} {payload : List Byte}
    (htake : s.takeRequest { kind := kind, tag := tag, payload := payload } = some t)
    (hkind : isRequestKind kind = false) :
    exec (.unknownKind kind tag payload) s = .next (closeEvent t (t.replied 0xFF tag [0x23, kind])) := by
  show execUnknownKind kind tag payload s = _
  unfold execUnknownKind
  rw [htake]
  simp only [hkind]
  rfl

theorem execUnknownKind_untaken {s : State} {kind tag : Byte} {payload : List Byte}
    (htake : s.takeRequest { kind := kind, tag := tag, payload := payload } = none) :
    exec (.unknownKind kind tag payload) s = .next s := by
  show execUnknownKind kind tag payload s = _
  unfold execUnknownKind
  rw [htake]

end Sys2Proof.Machine

namespace Sys2Proof.Laws.Framing

open Sys2Proof Sys2Proof.Machine

/-- A refusal of a ready part changes nothing but its reply, which is the status alone. -/
theorem refusal_changes_nothing {c : Instr} {f : RequestForm} {s t : State} {status : Byte}
    {rest : List Byte} (hform : requestForm c = some f) (hs : s.ready) (hexec : exec c s = .next t)
    (hreply : t.replyFrame? =
      some { kind := f.kind + 0x80, tag := f.tag, payload := status :: rest })
    (hstatus : 0x10 ≤ status.toNat) :
    rest = [] ∧ t = closeEvent s (s.replied (f.kind + 0x80) f.tag [status]) := by
  obtain ⟨work, hwork, hserves⟩ := hasWork_of_requestForm hform
  rw [hserves.of_ready hs] at hexec
  obtain rfl := Host.Outcome.next.inj hexec
  split at hreply <;> rename_i hlen
  · rw [if_pos hlen]
    exact hwork.refused s status rest hreply hstatus
  · rw [if_neg hlen]
    have hframe := Option.some.inj ((closeEvent_handReply _ _ _ _).symm.trans hreply)
    obtain ⟨hcode, hrest⟩ := List.cons.inj (congrArg Frame.payload hframe)
    exact ⟨hrest.symm, by rw [← hcode]⟩

/-- A request whose own frame is the oldest waiting one is taken; one behind another frame is not. -/
theorem request_by_queue {c : Instr} {f : RequestForm} {g : Frame} {rest : List Frame} {s : State}
    (hform : requestForm c = some f) (hs : s.powered = true) (hfree : s.link.service = .free)
    (hq : s.link.requests = g :: rest) :
    let own : Frame := { kind := f.kind, tag := f.tag, payload := f.payload }
    (g ≠ own → exec c s = .next s) ∧
      (g = own →
        (∃ t : State, exec c s = .next t ∧ t.link.requests = rest ∧ t.link.service ≠ .free) ∧
        (rest = [] → exec c s = exec c { s with link := { s.link with requests := [] } })) := by
  obtain ⟨work, hwork, hserves⟩ := hasWork_of_requestForm hform
  refine ⟨fun hne => hserves.untaken (State.takeRequest_other hq hne), fun hown => ?_⟩
  have htake := State.takeRequest_oldest hs hfree (hown ▸ hq)
  refine ⟨⟨if f.lens.contains f.payload.length then work { s with link := { s.link with requests := rest } }
    else closeEvent { s with link := { s.link with requests := rest } }
      (State.replied { s with link := { s.link with requests := rest } } (f.kind + 0x80) f.tag [0x22]),
    ?_, hwork.begins _⟩, fun hrest => ?_⟩
  · rw [hserves s, htake]
    rfl
  · have hready : State.ready { s with link := { s.link with requests := [] } } := ⟨hs, hfree, rfl⟩
    rw [hserves s, htake, hserves.of_ready hready, hrest]
    rfl

/-- Settles O54: every request's service is `RequestWork`, taken or not by the queue alone. -/
theorem refusalsChangeNothing : Obligations.RefusalsChangeNothing := by
  unfold Obligations.RefusalsChangeNothing
  refine ⟨fun c f s hform hs hlen => ?_, fun kind tag payload s hs hkind => ?_,
    fun c f s t status rest hform hs hexec hreply hstatus =>
      refusal_changes_nothing hform hs hexec hreply hstatus,
    fun c f s hform hbusy => ?_,
    fun c f g rest s hform hs hfree hq => request_by_queue hform hs hfree hq,
    fun kind tag payload g rest s hs hfree hq hkind => ⟨fun hne => ?_, fun hown => ?_⟩⟩
  · obtain ⟨work, -, hserves⟩ := hasWork_of_requestForm hform
    rw [hserves.of_ready hs, if_neg (by simpa using hlen)]
  · exact execUnknownKind_taken (State.takeRequest_ready hs _) hkind
  · obtain ⟨work, -, hserves⟩ := hasWork_of_requestForm hform
    exact hserves.untaken (State.takeRequest_busy hbusy _)
  · exact execUnknownKind_untaken (State.takeRequest_other hq hne)
  · exact execUnknownKind_taken (State.takeRequest_oldest hs hfree (hown ▸ hq)) hkind

end Sys2Proof.Laws.Framing

/-!
SUPPORT. Nozzle health and the fence (8.3, 8.5, 6.7): coil checks, the grade that the host writes, FENCE
and UNFENCE.
-/

namespace Sys2Proof.Machine

/-! ### Requests taken and refused by a ready part -/

theorem serve_taken {s u : State} (hs : s.ready) {payload : List Byte} {lens : List Nat}
    (hl : lens.contains payload.length = true) {kind tag : Byte} {act : State → Answer × State}
    {data : List Byte} (h : act s = (okWith data, u)) :
    serve kind tag payload lens act s = .next (closeEvent s (u.replied (kind + 0x80) tag (0x00 :: data))) := by
  rw [serve_ready hs hl, h]
  rfl

theorem serve_refused {s : State} (hs : s.ready) {payload : List Byte} {lens : List Nat}
    (hl : lens.contains payload.length = true) {kind tag : Byte} {act : State → Answer × State}
    {status : Status} (h : act s = (refusal status, s)) :
    serve kind tag payload lens act s =
      .next (closeEvent s (s.replied (kind + 0x80) tag [status.code])) := by
  rw [serve_ready hs hl, h, refusal_reply]
  rfl

/-! ### The bank and the nozzle of an index -/

theorem nozzleOf_bankOfNozzle (n : NozzleId) : ∃ m, nozzleOf (bankOfNozzle n) m = n := by
  refine ⟨⟨n.val % 8, Nat.mod_lt _ (by decide)⟩, Fin.ext ?_⟩
  have := n.isLt
  simp only [nozzleOf, bankOfNozzle, Fin.ofNat]
  omega

theorem State.allFaulty_iff (s : State) (b : BankId) :
    s.allFaulty b = true ↔ ∀ m : Member, s.faulty (nozzleOf b m) = true := by
  simp [State.allFaulty]

theorem State.allFaulty_of_healthy {s : State} {b : BankId} {m : Member}
    (h : s.faulty (nozzleOf b m) = false) : s.allFaulty b = false :=
  Bool.eq_false_iff.mpr fun hall => by rw [(s.allFaulty_iff b).mp hall m] at h; cases h

theorem State.faulty_setNozzle (s : State) (n : NozzleId) (v : Nozzle) :
    (s.setNozzle n v).faulty n = decide (v.grade = .faulty) := by
  simp [State.faulty]

theorem State.faulty_setNozzle_ne (s : State) {n m : NozzleId} (v : Nozzle) (h : m ≠ n) :
    (s.setNozzle n v).faulty m = s.faulty m := by
  simp [State.faulty, State.nozzle_setNozzle_ne s v h]

/-- A bank is all FAULTY once its one other nozzle is (R151). -/
theorem State.allFaulty_setNozzle {s : State} {b : BankId} {m : Member} {v : Nozzle}
    (hv : v.grade = .faulty)
    (h : ∀ i : Member, nozzleOf b i ≠ nozzleOf b m → s.faulty (nozzleOf b i) = true) :
    (s.setNozzle (nozzleOf b m) v).allFaulty b = true := by
  refine (State.allFaulty_iff _ b).mpr fun i => ?_
  by_cases hi : nozzleOf b i = nozzleOf b m
  · rw [hi, State.faulty_setNozzle, hv]
    rfl
  · rw [State.faulty_setNozzle_ne s v hi, h i hi]

/-! ### The fence (R119, R151) -/

/-- The removal of a record moves the state through changes of the store and the TRACK cursor, the dropping
of entries and the end of a drain (R57). -/
theorem State.removeRecord_keeps {P : State → Prop}
    (hstore : ∀ s st k, P s → P { s with store := st, cursors := { s.cursors with track := k } })
    (hdrop : ∀ s id b, P s → P (s.dropEntries id b)) (hdrain : ∀ s, P s → P s.drainEnd)
    {s : State} (h : P s) (id : TrackId) : P (s.removeRecord id) := by
  unfold State.removeRecord
  refine hdrain _ ?_
  have hfold : ∀ (l : List BankId) (t : State), P t → P (l.foldl (fun t b => t.dropEntries id b) t) := by
    intro l
    induction l with
    | nil => exact fun t ht => ht
    | cons b l ih => exact fun t ht => ih _ (hdrop t id b ht)
  exact hfold _ _ (hstore s _ _ h)

/-- The same of a part's report (R52 to R57). -/
theorem State.reportPart_keeps {P : State → Prop}
    (hstore : ∀ s st k, P s → P { s with store := st, cursors := { s.cursors with track := k } })
    (hdrop : ∀ s id b, P s → P (s.dropEntries id b)) (hdrain : ∀ s, P s → P s.drainEnd)
    {s : State} (h : P s) (id : TrackId) (b : BankId) (result : PartResult) (level : Option Level) :
    P (s.reportPart id b result level) := by
  have hrecords : ∀ (t : State) (st : Store), P t → P { t with store := st } :=
    fun t st ht => hstore t st t.cursors.track ht
  have hretire : ∀ (t : State) (id : TrackId), P t → P (t.retireTest id) := by
    intro t id ht
    unfold State.retireTest
    split
    · exact ht
    · split
      · exact State.removeRecord_keeps hstore hdrop hdrain (hrecords _ _ ht) _
      · exact ht
  have houtcome : ∀ (t : State), P t → P (t.outcomeRule id) := by
    intro t ht
    unfold State.outcomeRule
    split
    · exact ht
    · split
      · exact ht
      · split
        · exact hretire _ _ (hrecords _ _ ht)
        · exact ht
  unfold State.reportPart
  split
  · exact h
  · split
    · dsimp only
      split
      · exact houtcome _ (hrecords _ _ (hrecords _ _ h))
      · exact houtcome _ (hrecords _ _ h)
    · exact h

/-- A PULSES cursor at END stays there while entries leave their queues. -/
theorem State.dropEntries_pulsesCursor {s : State} {b : BankId} (h : s.cursors.pulses[b] = .atEnd)
    (id : TrackId) (c : BankId) : (s.dropEntries id c).cursors.pulses[b] = .atEnd := by
  unfold State.dropEntries
  split
  · simp only [State.setPulsesCursor, State.modBank_cursors, Fin.getElem_fin, Vector.getElem_set]
    split
    · rename_i hval
      obtain rfl : c = b := Fin.ext hval
      have hend : s.cursors.pulses[c.val] = .atEnd := h
      rw [hend]
      exact if_neg Cursor.noConfusion
    · exact h
  · exact h

theorem State.drainEnd_pulsesCursor {s : State} {b : BankId} (h : s.cursors.pulses[b] = .atEnd) :
    s.drainEnd.cursors.pulses[b] = .atEnd := by
  unfold State.drainEnd
  split <;> exact h

theorem State.fenceBank_of_fenced {s : State} {b : BankId} (h : (s.bank b).state = .fenced) :
    s.fenceBank b = s := if_pos h

/-- Of an empty, closed bank that is not OPEN nothing is dropped. -/
theorem Bank.Dropped.of_empty {recharged : Time} {k v : Bank} (h : Dropped recharged k v)
    (hk : k.state ≠ .opened ∧ k.queue = [] ∧ k.nozzles = noNozzleOpen) : v = k := by
  obtain ⟨hopen, hempty, hclosed⟩ := hk
  obtain ⟨hlevel, hdebt, hdue, htimer, hstate, hqueue, hnozzles⟩ := h
  have hstate : v.state = k.state := hstate.resolve_right fun hopened => hopen hopened.1
  have hqueue : v.queue = k.queue := by
    rw [hempty] at hqueue ⊢
    exact List.sublist_nil.mp hqueue
  have hnozzles : v.nozzles = k.nozzles := by
    rw [hclosed]
    refine eq_noNozzleOpen fun m => Bool.eq_false_iff.mpr fun hm => ?_
    have := hnozzles m hm
    simp [hclosed, noNozzleOpen] at this
  cases k
  cases v
  simp_all

/-- The bank that a fence takes out of service (R119, R126). -/
theorem State.bank_fenceBank {s : State} {b : BankId} (h : (s.bank b).state ≠ .fenced) :
    (s.fenceBank b).bank b = (s.bank b).fencedBank := by
  unfold State.fenceBank
  rw [if_neg h, State.bank_readinessTest]
  refine ((StoreSide.foldl_report _ _ _ _).bank b).of_empty ?_ |>.trans ?_
  · rw [State.bank_setPulsesCursor, State.bank_modBank]
    exact ⟨BankState.noConfusion, rfl, rfl⟩
  · rw [State.bank_setPulsesCursor, State.bank_modBank]

theorem State.fenceBank_flags (s : State) (b : BankId) : (s.fenceBank b).flags = s.flags := by
  unfold State.fenceBank
  split
  · rfl
  · rw [State.flags_readinessTest]
    exact (StoreSide.foldl_report _ _ _ _).flags

theorem State.fenceBank_pulsesCursor {s : State} {b : BankId} (h : (s.bank b).state ≠ .fenced) :
    (s.fenceBank b).cursors.pulses[b] = .atEnd := by
  have hfold : ∀ (l : List Entry) (t : State), t.cursors.pulses[b] = .atEnd →
      (l.foldl (fun t e => t.reportPart e.track b (.lost .unavailable) none) t).cursors.pulses[b]
        = .atEnd := by
    intro l
    induction l with
    | nil => exact fun t ht => ht
    | cons e l ih =>
      exact fun t ht => ih _ (State.reportPart_keeps (P := fun u => u.cursors.pulses[b] = .atEnd)
        (fun _ _ _ h => h) (fun _ id c h => State.dropEntries_pulsesCursor h id c)
        (fun _ h => State.drainEnd_pulsesCursor h) ht _ _ _ _)
  unfold State.fenceBank State.readinessTest
  rw [if_neg h]
  have hstart : ((s.modBank b Bank.fencedBank).setPulsesCursor b .atEnd).cursors.pulses[b] = .atEnd := by
    simp [State.setPulsesCursor]
  split <;> exact hfold _ _ hstart

theorem State.autoFence_of_healthy {s : State} {b : BankId} (h : s.allFaulty b = false) :
    s.autoFence b = s := if_neg fun hall => by rw [h] at hall; cases hall.1

theorem State.autoFence_of_fenced {s : State} {b : BankId} (h : (s.bank b).state = .fenced) :
    s.autoFence b = s := if_neg fun hall => hall.2 h

theorem State.autoFence_last {s : State} {b : BankId} (h : s.allFaulty b = true)
    (hb : (s.bank b).state ≠ .fenced) : s.autoFence b = (s.fenceBank b).setFlag .bankAutoFenced :=
  if_pos ⟨h, hb⟩

/-- What a bank that is fenced is left with. -/
theorem Bank.fencedBank_closed (k : Bank) :
    k.fencedBank.state = .fenced ∧ k.fencedBank.queue = [] ∧
      (∀ m : Member, k.fencedBank.nozzles[m].isSome = false) ∧ k.fencedBank.debt = 0 :=
  ⟨rfl, rfl, fun m => by simp [Bank.fencedBank, noNozzleOpen], rfl⟩

/-! ### Coil checks (R147) -/

theorem State.badCheck_sound {s : State} {b : BankId} {m : Member}
    (h : (s.nozzle (nozzleOf b m)).bad.grade ≠ .faulty) :
    s.badCheck b m = s.setNozzle (nozzleOf b m) (s.nozzle (nozzleOf b m)).bad := by
  unfold State.badCheck
  dsimp only
  rw [State.faulty_setNozzle, decide_eq_false h]
  rfl

theorem State.badCheck_faulty {s : State} {b : BankId} {m : Member}
    (h : (s.nozzle (nozzleOf b m)).bad.grade = .faulty) :
    s.badCheck b m = ((s.setNozzle (nozzleOf b m) (s.nozzle (nozzleOf b m)).bad).setFlag
      .nozzleFault).autoFence b := by
  unfold State.badCheck
  dsimp only
  rw [State.faulty_setNozzle, decide_eq_true h]
  rfl

/-! ### UNFENCE and the beginning of conditioning (R120, R127, R135) -/

theorem State.setBank_setBank (s : State) (b : BankId) (v w : Bank) :
    (s.setBank b v).setBank b w = s.setBank b w := by
  simp [State.setBank]

theorem State.setBank_self (s : State) (b : BankId) : s.setBank b (s.bank b) = s := by
  simp [State.setBank, State.bank]

/-- A bank at the beginning of conditioning, at step 1 until `ends` or held (R127, R135). -/
def Bank.begun (k : Bank) (timer : Time) (ends : Option Time) : Bank :=
  { k with state := .conditioning 1 ends, debt := 0, due := false, purgeTimer := some timer }

/-- Without FIRE-ENABLE conditioning begins held at step 1 (R136). -/
theorem State.beginConditioning_inhibited {s : State} (h : s.fireEnable = false) (coils : Coils)
    (b : BankId) :
    s.beginConditioning coils b = s.setBank b
      ((s.bank b).begun (timePlus s.timeBase ((s.bankSettings b).tPI * 1000000)) none) := by
  simp [State.beginConditioning, State.startPurgeTimer, State.beginStep1, State.atStep, State.modBank, h,
    State.setBank_setBank, State.bankSettings, Bank.begun]

/-- A bank at LOW switches to HIGH first, when nothing holds it (R135). -/
theorem State.beginConditioning_low {s : State} {b : BankId} (h : s.fireEnable = true)
    (hlevel : (s.bank b).level = .low) (hshed : s.shed = false) (coils : Coils) :
    s.beginConditioning coils b = s.setBank b
      ((s.bank b).begun (timePlus s.timeBase ((s.bankSettings b).tPI * 1000000))
        (some (timePlus s.timeBase ((s.bankSettings b).tSW * 1000)))) := by
  have hshed' : ∀ v : Bank, (s.setBank b v).shed = false := fun _ => hshed
  simp [State.beginConditioning, State.startPurgeTimer, State.beginStep1, State.atStep, State.modBank, h,
    State.setBank_setBank, State.bankSettings, Bank.begun, hlevel, hshed']

/-! ### FENCE and UNFENCE (R119, R120) -/

theorem execFence_taken {s : State} (hs : s.ready) (tag : Byte) {n : Byte} {bank : BankId}
    (hn : bankOfCode n = some bank) :
    exec (.fence tag [n]) s = .next (closeEvent s ((s.fenceBank bank).replied 0x8D tag [0x00])) := by
  show execFence tag [n] s = _
  unfold execFence
  refine serve_taken hs rfl (data := []) ?_
  simp only [byteAt, List.getD_cons_zero, hn]

theorem execFence_range {s : State} (hs : s.ready) (tag : Byte) {n : Byte} (hn : bankOfCode n = none) :
    exec (.fence tag [n]) s = .next (closeEvent s (s.replied 0x8D tag [0x20])) := by
  show execFence tag [n] s = _
  unfold execFence
  refine serve_refused hs rfl (status := .range) ?_
  simp only [byteAt, List.getD_cons_zero, hn]

theorem execUnfence_taken {s : State} (hs : s.ready) (tag : Byte) {n : Byte} {bank : BankId}
    (hn : bankOfCode n = some bank) (hbank : (s.bank bank).state = .fenced)
    (hhealthy : s.allFaulty bank = false) (coils : Coils) :
    exec (.unfence tag [n] coils) s =
      .next (closeEvent s ((s.unfenceBank bank coils).replied 0x8E tag [0x00])) := by
  show execUnfence tag [n] coils s = _
  unfold execUnfence
  refine serve_taken hs rfl (data := []) ?_
  simp only [byteAt, List.getD_cons_zero, hn]
  simp [hbank, hhealthy]

theorem execUnfence_refused {s : State} (hs : s.ready) (tag : Byte) {n : Byte} {bank : BankId}
    (hn : bankOfCode n = some bank) (h : (s.bank bank).state ≠ .fenced ∨ s.allFaulty bank = true)
    (coils : Coils) :
    exec (.unfence tag [n] coils) s = .next (closeEvent s (s.replied 0x8E tag [0x10])) := by
  show execUnfence tag [n] coils s = _
  unfold execUnfence
  refine serve_refused hs rfl (status := .refusedState) ?_
  simp only [byteAt, List.getD_cons_zero, hn]
  rcases h with hbank | hfaulty
  · rw [if_pos hbank]
  · rw [if_pos hfaulty, ite_self]

theorem execUnfence_range {s : State} (hs : s.ready) (tag : Byte) {n : Byte} (hn : bankOfCode n = none)
    (coils : Coils) :
    exec (.unfence tag [n] coils) s = .next (closeEvent s (s.replied 0x8E tag [0x20])) := by
  show execUnfence tag [n] coils s = _
  unfold execUnfence
  refine serve_refused hs rfl (status := .range) ?_
  simp only [byteAt, List.getD_cons_zero, hn]

/-- The bank that an UNFENCE gives back (R120). -/
theorem State.unfenceBank_idle {s : State} (hrun : s.run ≠ .run) (hconditioning : s.run ≠ .conditioning)
    (bank : BankId) (coils : Coils) :
    s.unfenceBank bank coils = s.setBank bank (s.bank bank).unfenced := by
  unfold State.unfenceBank
  split
  · contradiction
  · contradiction
  all_goals rfl

theorem State.unfenceBank_begins {s : State} (h : s.run = .run ∨ s.run = .conditioning) (bank : BankId)
    (coils : Coils) :
    s.unfenceBank bank coils =
      (s.setBank bank (s.bank bank).unfenced).beginConditioning coils bank := by
  unfold State.unfenceBank
  rcases h with h | h <;> rw [h] <;> rfl

end Sys2Proof.Machine

namespace Sys2Proof.Laws.Health

open Sys2Proof Sys2Proof.Machine

/-- Settles O46: the grade's moves, and the automatic fence that a new FAULTY grade is handed to. -/
theorem coilChecks : Obligations.CoilChecks := by
  unfold Obligations.CoilChecks
  refine ⟨fun n => ?_, fun b m s => ⟨rfl, State.badCheck_sound, fun h => ?_⟩⟩
  · obtain ⟨grade, badRun, marked⟩ := n
    refine ⟨?_, ?_, ?_⟩ <;> rintro rfl rfl <;> exact ⟨rfl, rfl⟩
  · rw [State.badCheck_faulty h]
    refine ⟨State.autoFence_health _ b, ?_, fun hothers hb => ?_, fun ⟨i, hne, hi⟩ => ?_⟩
    · refine (BankSide.autoFence _ b).flag_of_flag ?_
      rw [State.flag_setFlag]
      simp
    · have hall := State.allFaulty_setNozzle (s := s) h fun i hi =>
        hothers i fun heq => hi (congrArg _ heq)
      rw [State.autoFence_last (by exact hall) (by exact hb)]
      obtain ⟨hstate, hqueue, hnozzles, -⟩ := (s.bank b).fencedBank_closed
      have hbank := State.bank_fenceBank (s := (s.setNozzle (nozzleOf b m)
        (s.nozzle (nozzleOf b m)).bad).setFlag .nozzleFault) (b := b) hb
      refine ⟨(congrArg Bank.state hbank).trans hstate, (congrArg Bank.queue hbank).trans hqueue,
        fun i => ?_, ?_⟩
      · exact (congrArg (fun k : Bank => k.nozzles[i].isSome) hbank).trans (hnozzles i)
      · rw [State.flag_setFlag]
        simp
    · rw [State.autoFence_of_healthy (State.allFaulty_of_healthy (m := i) ?_)]
      · rfl
      · exact (State.faulty_setNozzle_ne s _ fun heq => hne (nozzleOf_injective b heq)).trans hi

end Sys2Proof.Laws.Health

namespace Sys2Proof.Laws.ValveBanks

open Sys2Proof Sys2Proof.Machine

/-- Settles O36: the fenced bank, and the DARK or conditioning one that UNFENCE makes of it. -/
theorem fenceAndUnfence : Obligations.FenceAndUnfence := by
  unfold Obligations.FenceAndUnfence
  refine ⟨fun tag n bank s hs hn => ⟨⟨s.fenceBank bank, execFence_taken hs tag hn, ?_,
    .of_bankSide (.fenceBank s bank), s.fenceBank_flags bank, s.fenceBank_health bank,
    (BankSide.fenceBank s bank).link, State.fenceBank_pulsesCursor, State.fenceBank_of_fenced⟩,
    fun coils => ⟨fun h => execUnfence_refused hs tag hn h coils, fun hbank hhealthy => ⟨?_, ?_⟩⟩⟩,
    fun tag n coils s hs hn => ?_⟩
  · by_cases h : (s.bank bank).state = .fenced
    · rw [State.fenceBank_of_fenced h]
      simp only [h, if_true]
      rw [← h]
    · rw [State.bank_fenceBank h]
      simp only [h, if_false]
      rfl
  · intro hrun hconditioning
    rw [execUnfence_taken hs tag hn hbank hhealthy, State.unfenceBank_idle hrun hconditioning]
    rfl
  · intro hrun
    rw [execUnfence_taken hs tag hn hbank hhealthy, State.unfenceBank_begins hrun]
    refine ⟨fun hfire => ?_, fun hfire hlevel hshed => ?_⟩
    · rw [State.beginConditioning_inhibited (by exact hfire), State.bank_setBank, State.setBank_setBank]
      rfl
    · rw [State.beginConditioning_low (by exact hfire) (by rw [State.bank_setBank]; exact hlevel)
        (by exact hshed), State.bank_setBank, State.setBank_setBank]
      rfl
  · have hnone : bankOfCode n = none := bankOfCode_eq_none hn
    exact ⟨execFence_range hs tag hnone, execUnfence_range hs tag hnone coils⟩

end Sys2Proof.Laws.ValveBanks

/-!
SUPPORT. The locators of the tables (10.5) and the WRITE of a nozzle's grade (8.5).
-/

namespace Sys2Proof.Machine

/-! ### Locators of a fixed table (R173) -/

theorem readLocator_of {code q m hi lo : Byte} {table : Table} {mode : LocatorMode}
    (htable : tableOfCode code q = some table) (hmode : modeOfCode m = some mode)
    (hvalid : Locator.valid ⟨table, mode, read2 hi lo⟩ = true) :
    readLocator code q m hi lo = some ⟨table, mode, read2 hi lo⟩ := by
  unfold readLocator
  rw [htable, hmode]
  exact if_pos hvalid

theorem readLocator_invalid {code q m hi lo : Byte} {table : Table} {mode : LocatorMode}
    (htable : tableOfCode code q = some table) (hmode : modeOfCode m = some mode)
    (hvalid : Locator.valid ⟨table, mode, read2 hi lo⟩ = false) :
    readLocator code q m hi lo = none := by
  unfold readLocator
  rw [htable, hmode]
  exact if_neg (by rw [hvalid]; exact Bool.noConfusion)

theorem readLocator_unknownMode {code q m hi lo : Byte} (h : modeOfCode m = none) :
    readLocator code q m hi lo = none := by
  unfold readLocator
  rw [h]
  split
  · rename_i hmode
    cases hmode
  · rfl

theorem readLocator_unknownTable {code q m hi lo : Byte} (h : tableOfCode code q = none) :
    readLocator code q m hi lo = none := by
  unfold readLocator
  rw [h]

/-- DIRECT and OFFSET are valid below the size of a fixed table, CURSOR and FIRST always, ID never. -/
theorem Locator.valid_fixed {table : Table} {size : Nat} (h : table.fixedSize = some size) (operand : Nat) :
    Locator.valid ⟨table, .direct, operand⟩ = decide (operand < size) ∧
      Locator.valid ⟨table, .offset, operand⟩ = decide (operand < size) ∧
      Locator.valid ⟨table, .cursor, operand⟩ = true ∧ Locator.valid ⟨table, .first, operand⟩ = true ∧
      Locator.valid ⟨table, .id, operand⟩ = false := by
  simp [Locator.valid, h]

/-- A locator of a fixed table that names entry n of it (R173). -/
theorem readLocator_fixed {s : State} {code q m hi lo : Byte} {table : Table} {size n : Nat}
    (htable : tableOfCode code q = some table) (hsize : table.fixedSize = some size)
    (h : namesEntry m (read2 hi lo) (s.cursors.fixedIndex table) n) (hn : n < size) :
    ∃ l, readLocator code q m hi lo = some l ∧ l.table = table ∧ s.fixedStart l = n := by
  obtain ⟨hdirect, hoffset, hcursor, hfirst, -⟩ := Locator.valid_fixed hsize (read2 hi lo)
  rcases h with ⟨rfl, rfl⟩ | ⟨rfl, rfl⟩ | ⟨rfl, rfl⟩ | ⟨rfl, rfl⟩
  · exact ⟨⟨table, .direct, _⟩, readLocator_of htable rfl (hdirect.trans (decide_eq_true hn)), rfl, rfl⟩
  · exact ⟨⟨table, .cursor, _⟩, readLocator_of htable rfl hcursor, rfl, rfl⟩
  · exact ⟨⟨table, .first, _⟩, readLocator_of htable rfl hfirst, rfl, rfl⟩
  · exact ⟨⟨table, .offset, _⟩, readLocator_of htable rfl (hoffset.trans (decide_eq_true hn)), rfl, rfl⟩

theorem modeOfCode_id {m : Byte} (h : m.toNat = 4) : modeOfCode m = some .id := by
  simp [modeOfCode, h]

theorem modeOfCode_unknown {m : Byte} (h : 4 < m.toNat) : modeOfCode m = none := by
  obtain ⟨k, hk⟩ := Nat.exists_eq_add_of_le' (show 5 ≤ m.toNat from h)
  simp [modeOfCode, hk]

/-- ID mode, an unknown mode and an operand past the last entry name none of a fixed table (R173). -/
theorem readLocator_fixed_eq_none {code q m hi lo : Byte} {table : Table} {size : Nat}
    (htable : tableOfCode code q = some table) (hsize : table.fixedSize = some size)
    (h : 3 < m.toNat ∨ ((m = 0 ∨ m = 3) ∧ size ≤ read2 hi lo)) :
    readLocator code q m hi lo = none := by
  obtain ⟨hdirect, hoffset, -, -, hid⟩ := Locator.valid_fixed hsize (read2 hi lo)
  rcases h with hmode | ⟨rfl | rfl, hpast⟩
  · by_cases h4 : m.toNat = 4
    · exact readLocator_invalid htable (modeOfCode_id h4) hid
    · exact readLocator_unknownMode (modeOfCode_unknown (by omega))
  · exact readLocator_invalid htable rfl (hdirect.trans (decide_eq_false (Nat.not_lt.mpr hpast)))
  · exact readLocator_invalid htable rfl (hoffset.trans (decide_eq_false (Nat.not_lt.mpr hpast)))

/-! ### The WRITE of a grade (R150, R151) -/

theorem State.writeRequest_nozzle {q m hi lo g : Byte} {l : Locator}
    (h : Machine.readLocator 4 q m hi lo = some l) (s : State) :
    s.writeRequest [4, q, m, hi, lo, g] = s.writeNozzle l g := by
  have h' : Machine.readLocator 4#8 q m hi lo = some l := h
  simp [State.writeRequest, byteAt, h']

theorem State.writeRequest_nozzle_unlocated {q m hi lo g : Byte}
    (h : Machine.readLocator 4 q m hi lo = none) (s : State) :
    s.writeRequest [4, q, m, hi, lo, g] = (refusal .range, s) := by
  have h' : Machine.readLocator 4#8 q m hi lo = none := h
  simp [State.writeRequest, byteAt, h']

theorem State.writeRequest_nozzleLength {p : List Byte} (hnozzle : byteAt p 0 = 4) (hlen : p.length ≠ 6)
    (s : State) : s.writeRequest p = (refusal .length, s) := by
  simp [State.writeRequest, hnozzle, hlen]

theorem exec_writeNozzle_taken {s u : State} (hs : s.ready) (tag : Byte) {p : List Byte} {data : List Byte}
    (hlen : ([15, 6] : List Nat).contains p.length = true) (h : s.writeRequest p = (okWith data, u)) :
    exec (.writeNozzle tag p) s = .next (closeEvent s (u.replied 0x8C tag (0x00 :: data))) := by
  show execWriteNozzle tag p s = _
  unfold execWriteNozzle
  exact serve_taken hs hlen h

theorem exec_writeNozzle_refused {s : State} (hs : s.ready) (tag : Byte) {p : List Byte} {status : Status}
    (hlen : ([15, 6] : List Nat).contains p.length = true) (h : s.writeRequest p = (refusal status, s)) :
    exec (.writeNozzle tag p) s = .next (closeEvent s (s.replied 0x8C tag [status.code])) := by
  show execWriteNozzle tag p s = _
  unfold execWriteNozzle
  exact serve_refused hs hlen h

/-- The cursor of the NOZZLE table after a WRITE of entry n, which becomes `v` (R150). -/
def State.graded (s : State) (n : NozzleId) (v : Nozzle) : State :=
  (s.setNozzle n v).nozzleWritten n

theorem State.writeNozzle_ok (s : State) (l : Locator) {n : NozzleId} (hn : s.fixedStart l = n.val) :
    s.writeNozzle l 0 =
      (okWith (nozzleBytes n.val (s.nozzle n).markOk), s.graded n (s.nozzle n).markOk) := by
  have hid : Fin.ofNat 128 (s.fixedStart l) = n := Fin.ext (by rw [hn]; exact Nat.mod_eq_of_lt n.isLt)
  have hread : ∀ v, ((s.setNozzle n v).nozzleWritten n).nozzle n = v := s.nozzle_setNozzle n
  unfold State.writeNozzle
  simp only [hid]
  show (okWith (nozzleBytes n.val (((s.setNozzle n _).nozzleWritten n).nozzle n)), _) = _
  rw [hread]
  rfl

theorem State.writeNozzle_faulty (s : State) (l : Locator) {n : NozzleId} (hn : s.fixedStart l = n.val) :
    s.writeNozzle l 2 =
      (okWith (nozzleBytes n.val (s.nozzle n).markFaulty),
        if s.faulty n then s.graded n (s.nozzle n).markFaulty
        else (s.graded n (s.nozzle n).markFaulty).autoFence (bankOfNozzle n)) := by
  have hid : Fin.ofNat 128 (s.fixedStart l) = n := Fin.ext (by rw [hn]; exact Nat.mod_eq_of_lt n.isLt)
  have hread : ∀ v, ((s.setNozzle n v).nozzleWritten n).nozzle n = v := s.nozzle_setNozzle n
  unfold State.writeNozzle
  simp only [hid]
  show (okWith (nozzleBytes n.val (((s.setNozzle n _).nozzleWritten n).nozzle n)), _) = _
  rw [hread]
  rfl

theorem State.writeNozzle_refused (s : State) (l : Locator) {g : Byte} (h0 : g ≠ 0) (h2 : g ≠ 2) :
    s.writeNozzle l g = (refusal .range, s) := by
  unfold State.writeNozzle
  dsimp only
  split
  · rename_i h
    exact absurd (BitVec.eq_of_toNat_eq h) h0
  · rename_i h
    exact absurd (BitVec.eq_of_toNat_eq h) h2
  · rfl

theorem Nozzle.markOk_eq (n : Nozzle) : n.markOk = if n.grade = .ok then n else ⟨.ok, 0, true⟩ := by
  unfold Nozzle.markOk
  cases n.grade <;> rfl

theorem Nozzle.markFaulty_eq (n : Nozzle) :
    n.markFaulty = if n.grade = .faulty then n else ⟨.faulty, 0, true⟩ := by
  unfold Nozzle.markFaulty
  cases n.grade <;> rfl

/-- The bank whose last healthy nozzle the host writes FAULTY is fenced (R150, R151). -/
theorem State.autoFence_graded {s : State} {n : NozzleId} {v : Nozzle} (hv : v.grade = .faulty)
    (hothers : ∀ m : Member, nozzleOf (bankOfNozzle n) m ≠ n →
      s.faulty (nozzleOf (bankOfNozzle n) m) = true)
    (hbank : (s.bank (bankOfNozzle n)).state ≠ .fenced) :
    let u := (s.graded n v).autoFence (bankOfNozzle n)
    u.health = s.health.set n v ∧ (u.bank (bankOfNozzle n)).state = .fenced ∧
      (u.bank (bankOfNozzle n)).queue = [] ∧ (∀ m : Member, u.nozzleOpen (bankOfNozzle n) m = false) ∧
      (u.bank (bankOfNozzle n)).debt = 0 ∧ u.flags = s.flags ||| 0x00080000 ∧ s.SameOffPlant u := by
  obtain ⟨m, hm⟩ := nozzleOf_bankOfNozzle n
  have hall : (s.graded n v).allFaulty (bankOfNozzle n) = true := by
    have h := State.allFaulty_setNozzle (s := s) (b := bankOfNozzle n) (m := m) hv
      (by rw [hm]; exact hothers)
    rw [hm] at h
    exact h
  have hfence : ((s.graded n v).fenceBank (bankOfNozzle n)).bank (bankOfNozzle n) = _ :=
    State.bank_fenceBank hbank
  dsimp only
  rw [State.autoFence_last hall hbank]
  obtain ⟨hstate, hqueue, hnozzles, hdebt⟩ := (s.bank (bankOfNozzle n)).fencedBank_closed
  refine ⟨State.fenceBank_health _ _, (congrArg Bank.state hfence).trans hstate,
    (congrArg Bank.queue hfence).trans hqueue,
    fun i => (congrArg (fun k : Bank => k.nozzles[i].isSome) hfence).trans (hnozzles i),
    (congrArg Bank.debt hfence).trans hdebt, ?_, ?_⟩
  · exact congrArg (· ||| Flag.bankAutoFenced.mask) ((s.graded n v).fenceBank_flags (bankOfNozzle n))
  · exact State.SameOffPlant.trans (t := s.graded n v) rfl (.trans (.of_bankSide (.fenceBank _ _)) rfl)

end Sys2Proof.Machine

namespace Sys2Proof.Laws.Health

open Sys2Proof Sys2Proof.Machine

/-- Settles O59: the entry that the locator names, its new grade, and the fence it may bring. -/
theorem writeNozzle : Obligations.WriteNozzle := by
  unfold Obligations.WriteNozzle
  refine ⟨fun tag q m hi lo g n s hs hname hn => ?_, fun tag q m hi lo g s hs h => ?_,
    fun tag p s hs hlen hcode => ?_⟩
  · obtain ⟨l, hl, -, hstart⟩ := readLocator_fixed (size := 128) (table := .nozzle) (code := 4) (q := q)
      rfl rfl hname hn
    have hid : s.fixedStart l = (⟨n, hn⟩ : NozzleId).val := hstart
    have hbank : bankOfNozzle ⟨n, hn⟩ = ⟨n / 8, by omega⟩ := Fin.ext (Nat.mod_eq_of_lt (by omega))
    obtain ⟨m0, hm0⟩ := nozzleOf_bankOfNozzle ⟨n, hn⟩
    have hwritten : ∀ v, s.graded ⟨n, hn⟩ v = State.setNozzle { s with cursors :=
        { s.cursors with nozzle := (n + 1) % 128, current := .nozzle } } ⟨n, hn⟩ v := fun _ => rfl
    have hexec : ∀ data u, s.writeNozzle l g = (okWith data, u) →
        exec (.writeNozzle tag [4, q, m, hi, lo, g]) s =
          .next (closeEvent s (u.replied 0x8C tag (0x00 :: data))) := fun data u h =>
      exec_writeNozzle_taken hs tag rfl ((State.writeRequest_nozzle hl s).trans h)
    dsimp only
    rw [← hbank]
    refine ⟨?_, ?_, ?_, fun h0 h2 => ?_⟩
    · rintro rfl
      rw [hexec _ _ (s.writeNozzle_ok l hid), Nozzle.markOk_eq, hwritten]
    · rintro rfl hkept
      rw [hexec _ _ (s.writeNozzle_faulty l hid), Nozzle.markFaulty_eq]
      by_cases hold : s.faulty ⟨n, hn⟩ = true
      · rw [if_pos hold, hwritten]
      · rw [if_neg hold]
        have hfence : ∀ v, (s.graded ⟨n, hn⟩ v).autoFence (bankOfNozzle ⟨n, hn⟩) = s.graded ⟨n, hn⟩ v := by
          intro v
          rcases hkept with hgrade | ⟨i, hne, hi⟩ | hfenced
          · exact absurd (decide_eq_true hgrade) hold
          · exact State.autoFence_of_healthy (State.allFaulty_of_healthy (m := i)
              ((State.faulty_setNozzle_ne s v hne).trans hi))
          · exact State.autoFence_of_fenced hfenced
        rw [hfence, hwritten]
    · rintro rfl hgrade hothers hbank
      have hhealthy : ¬s.faulty ⟨n, hn⟩ = true := fun h => hgrade (of_decide_eq_true h)
      refine ⟨_, hexec _ _ ((s.writeNozzle_faulty l hid).trans ?_),
        State.autoFence_graded (n := ⟨n, hn⟩) ?_ hothers hbank⟩
      · rw [if_neg hhealthy, Nozzle.markFaulty_eq]
      · rw [if_neg hgrade]
    · exact exec_writeNozzle_refused (status := .range) hs tag rfl
        ((State.writeRequest_nozzle hl s).trans (s.writeNozzle_refused l h0 h2))
  · exact exec_writeNozzle_refused (status := .range) hs tag rfl (State.writeRequest_nozzle_unlocated
      (readLocator_fixed_eq_none (table := .nozzle) (size := 128) rfl rfl h) s)
  · refine exec_writeNozzle_refused hs tag (by rw [hlen]; rfl) (status := .length) ?_
    exact State.writeRequest_nozzleLength hcode (by omega) s

end Sys2Proof.Laws.Health

/-!
SUPPORT. READ and the short read (10.5): the start of a locator, the members that fit, the cursors, and the
layouts of the entries (10.9.7, 10.9.8).
-/

namespace Sys2Proof.Machine

/-! ### Collection starts (R173) -/

/-- The members from the one of a key on, or none where no member has it (R173). -/
def StartsAt (key : Nat) (ms start : List (Nat × List Byte)) : Prop :=
  (∃ before m rest, ms = before ++ m :: rest ∧ m.1 = key ∧ (∀ x ∈ before, x.1 ≠ key) ∧
    start = m :: rest) ∨
  ((∀ x ∈ ms, x.1 ≠ key) ∧ start = [])

theorem fromKey_eq {key : Nat} {ms start : List (Nat × List Byte)} (h : StartsAt key ms start) :
    fromKey key ms = start := by
  rcases h with ⟨before, m, rest, rfl, hkey, hbefore, rfl⟩ | ⟨hnone, rfl⟩
  · induction before with
    | nil => simp [fromKey, hkey]
    | cons x before ih =>
      rw [List.cons_append, fromKey, if_neg (hbefore x List.mem_cons_self)]
      exact ih fun y hy => hbefore y (List.mem_cons_of_mem _ hy)
  · induction ms with
    | nil => rfl
    | cons x ms ih =>
      rw [fromKey, if_neg (hnone x List.mem_cons_self)]
      exact ih fun y hy => hnone y (List.mem_cons_of_mem _ hy)

/-- The mode, the operand and the collection's cursor name the members from `start` on (R173). -/
theorem State.collectionStart_eq {s : State} {m : Byte} {table : Table} {mode : LocatorMode}
    {operand : Nat} {start : List (Nat × List Byte)} (hmode : modeOfCode m = some mode)
    (h : namesMembers m operand (s.cursors.collection table) (s.members table) start) :
    s.collectionStart ⟨table, mode, operand⟩ = start := by
  rcases h with ⟨rfl, hcursor⟩ | ⟨rfl, hstart⟩ | ⟨rfl, hstart⟩ | ⟨rfl, hkey⟩ <;> cases hmode
  · simp only [State.collectionStart]
    rcases hcursor with ⟨hfront, hstart⟩ | ⟨hend, hstart⟩ | ⟨key, hkey, hfrom⟩
    · simp only [hfront, hstart]
    · simp only [hend, hstart]
    · simp only [hkey]
      exact fromKey_eq hfrom
  · exact hstart.symm
  · exact hstart.symm
  · exact fromKey_eq hkey

/-- The modes that name members of an ordered collection: CURSOR, FIRST, OFFSET, and ID of TRACK alone. -/
theorem Locator.valid_collection {table : Table} (h : table.fixedSize = none) (operand : Nat) :
    Locator.valid ⟨table, .direct, operand⟩ = false ∧ Locator.valid ⟨table, .cursor, operand⟩ = true ∧
      Locator.valid ⟨table, .first, operand⟩ = true ∧ Locator.valid ⟨table, .offset, operand⟩ = true ∧
      Locator.valid ⟨table, .id, operand⟩ = decide (table = .track) := by
  simp [Locator.valid, h]

theorem readLocator_collection {s : State} {code q m hi lo : Byte} {table : Table}
    {start : List (Nat × List Byte)} (htable : tableOfCode code q = some table)
    (hsize : table.fixedSize = none)
    (h : namesMembers m (read2 hi lo) (s.cursors.collection table) (s.members table) start)
    (hid : m = 4 → table = .track) :
    ∃ l, readLocator code q m hi lo = some l ∧ l.table = table ∧ s.collectionStart l = start := by
  obtain ⟨-, hcursor, hfirst, hoffset, hidValid⟩ := Locator.valid_collection hsize (read2 hi lo)
  have hread : ∀ mode, modeOfCode m = some mode → Locator.valid ⟨table, mode, read2 hi lo⟩ = true →
      ∃ l, readLocator code q m hi lo = some l ∧ l.table = table ∧ s.collectionStart l = start :=
    fun mode hmode hvalid => ⟨_, readLocator_of htable hmode hvalid, rfl,
      State.collectionStart_eq hmode h⟩
  have hcases := h
  rcases hcases with ⟨rfl, -⟩ | ⟨rfl, -⟩ | ⟨rfl, -⟩ | ⟨rfl, -⟩
  · exact hread .cursor rfl hcursor
  · exact hread .first rfl hfirst
  · exact hread .offset rfl hoffset
  · exact hread .id rfl (hidValid.trans (decide_eq_true (hid rfl)))

theorem readLocator_collection_eq_none {code q m hi lo : Byte} {table : Table}
    (htable : tableOfCode code q = some table) (hsize : table.fixedSize = none)
    (h : m = 0 ∨ 4 < m.toNat ∨ (m = 4 ∧ table ≠ .track)) : readLocator code q m hi lo = none := by
  obtain ⟨hdirect, -, -, -, hid⟩ := Locator.valid_collection hsize (read2 hi lo)
  rcases h with rfl | hmode | ⟨rfl, htrack⟩
  · exact readLocator_invalid htable rfl hdirect
  · exact readLocator_unknownMode (modeOfCode_unknown hmode)
  · exact readLocator_invalid htable rfl (hid.trans (decide_eq_false htrack))

/-! ### The members that fit (R175) -/

/-- The bytes of the first members. -/
def bytesOf (ms : List (Nat × List Byte)) (n : Nat) : Nat := ((ms.take n).map fun m => m.2.length).sum

theorem fitting_eq_take {count room n : Nat} {ms : List (Nat × List Byte)} (hcount : n ≤ count)
    (hlength : n ≤ ms.length) (hfits : bytesOf ms n ≤ room)
    (hmost : n = count ∨ n = ms.length ∨ room < bytesOf ms (n + 1)) :
    fitting count room ms = ms.take n := by
  induction n generalizing count room ms with
  | zero =>
    cases count with
    | zero => rfl
    | succ count =>
      cases ms with
      | nil => rfl
      | cons m ms =>
        have hbig : room < m.2.length := by
          rcases hmost with h | h | h
          · cases h
          · cases h
          · simpa [bytesOf] using h
        exact if_neg (Nat.not_le.mpr hbig)
  | succ n ih =>
    obtain ⟨count, rfl⟩ := Nat.exists_eq_add_of_le' hcount
    cases ms with
    | nil => cases hlength
    | cons m ms =>
      simp only [bytesOf, List.take_succ_cons, List.map_cons, List.sum_cons, List.length_cons] at *
      have hm : m.2.length ≤ room := by omega
      rw [show count + (n + 1) = (count + n) + 1 from rfl, fitting, if_pos hm]
      refine congrArg (m :: ·) (ih (by omega) (by omega) (by omega) ?_)
      omega

theorem fitting_eq_nil_of_start {count room : Nat} : fitting count room [] = [] := by
  cases count <;> rfl

/-! ### READ through a locator (R174, R175) -/

theorem State.readFrom_range {s : State} {l : Locator} {count : Nat} (h : count = 0 ∨ 8 < count) :
    s.readFrom l count = (refusal .range, s) := if_pos h

theorem State.readFrom_fixed {s : State} {l : Locator} {count size : Nat} (h : 1 ≤ count ∧ count ≤ 8)
    (hsize : l.table.fixedSize = some size) :
    s.readFrom l count =
      (okWith (bytes1 count ++ bytes1 (s.fixedStart l) ++
        (List.range count).flatMap fun i => s.entryBytes l.table ((s.fixedStart l + i) % size)),
        { s with cursors := { s.cursors.putIndex l.table ((s.fixedStart l + count) % size) with
          current := l.table } }) := by
  unfold State.readFrom
  rw [if_neg (by omega)]
  simp only [hsize]
  rfl

theorem State.readFrom_none {s : State} {l : Locator} {count : Nat} (h : 1 ≤ count ∧ count ≤ 8)
    (hsize : l.table.fixedSize = none) (hstart : s.collectionStart l = []) :
    s.readFrom l count = (refusal .noSuch, s) := by
  unfold State.readFrom
  rw [if_neg (by omega)]
  simp only [hsize, State.readCollection, hstart, fitting_eq_nil_of_start, if_true]

theorem State.readFrom_members {s : State} {l : Locator} {count n : Nat}
    {start : List (Nat × List Byte)} (h : 1 ≤ count ∧ count ≤ 8) (hsize : l.table.fixedSize = none)
    (hstart : s.collectionStart l = start) (hreturns : returnsOf start count n) (hn : 1 ≤ n) :
    s.readFrom l count =
      (okWith (bytes1 n ++ bytes1 0 ++ (start.take n).flatMap fun m => m.2),
        { s with cursors := { s.cursors.putCollection l.table (cursorAfter start n) with
          current := l.table } }) := by
  obtain ⟨hcount, hlength, hfits, hmost⟩ := hreturns
  have htake : fitting count recordRoom start = start.take n := fitting_eq_take hcount hlength hfits hmost
  have hlen : (start.take n).length = n := by simp [hlength]
  have hne : start.take n ≠ [] := fun hnil => by
    rw [hnil] at hlen
    exact absurd hlen (by simp; omega)
  unfold State.readFrom
  rw [if_neg (by omega)]
  simp only [hsize, State.readCollection, hstart, htake, if_neg hne, hlen]

/-- The request is one of a ready part through a locator: a READ of six bytes, or a short read, which stands
for CURSOR mode on the current table (R173, R177). -/
structure Reads (s : State) (c : Instr) (tag k : Byte) (located : Option Locator) : Prop where
  taken : ∀ (l : Locator) (data : List Byte) (u : State), located = some l →
    s.readFrom l k.toNat = (okWith data, u) →
    exec c s = .next (closeEvent s (u.replied 0x8B tag (0x00 :: data)))
  refused : ∀ (l : Locator) (status : Status), located = some l →
    s.readFrom l k.toNat = (refusal status, s) →
    exec c s = .next (closeEvent s (s.replied 0x8B tag [status.code]))
  unlocated : located = none → exec c s = .next (closeEvent s (s.replied 0x8B tag [0x20]))

theorem reads_read {s : State} (hs : s.ready) (tag code q m hi lo k : Byte) :
    Reads s (.read tag [code, q, m, hi, lo, k]) tag k (Machine.readLocator code q m hi lo) where
  taken l data u hl h := by
    show execRead tag _ s = _
    unfold execRead
    refine serve_taken hs rfl ?_
    simpa [State.readRequest, State.readLocator, byteAt, hl] using h
  refused l status hl h := by
    show execRead tag _ s = _
    unfold execRead
    refine serve_refused hs rfl ?_
    simpa [State.readRequest, State.readLocator, byteAt, hl] using h
  unlocated hl := by
    show execRead tag _ s = _
    unfold execRead
    refine serve_refused (status := .range) hs rfl ?_
    simp [State.readRequest, State.readLocator, byteAt, hl]

theorem reads_shortRead {s : State} (hs : s.ready) (tag k : Byte) :
    Reads s (.shortRead tag [k]) tag k (some ⟨s.cursors.current, .cursor, 0⟩) where
  taken l data u hl h := by
    cases hl
    show execShortRead tag _ s = _
    unfold execShortRead
    exact serve_taken hs rfl h
  refused l status hl h := by
    cases hl
    show execShortRead tag _ s = _
    unfold execShortRead
    exact serve_refused hs rfl h
  unlocated hl := by cases hl

/-- A count of 0 or above 8 is refused whatever the locator names (R173). -/
theorem Reads.range {s : State} {c : Instr} {tag k : Byte} {located : Option Locator}
    (h : Reads s c tag k located) (hk : k.toNat = 0 ∨ 8 < k.toNat) :
    exec c s = .next (closeEvent s (s.replied 0x8B tag [0x20])) := by
  cases hl : located with
  | none => exact h.unlocated hl
  | some l => exact h.refused l .range hl (State.readFrom_range hk)

end Sys2Proof.Machine

/-!
SUPPORT. The statement of READ and the short read, settled (10.5, 10.9.7, 10.9.8).
-/

namespace Sys2Proof.Machine

/-! ### Layouts -/

theorem Bank.getLsbD_openMask (k : Bank) (m : Member) :
    k.openMask.getLsbD m.val = (k.nozzles[m]).isSome := by
  have hfold : ∀ (l : List Member) (acc : Mask),
      (l.foldl (fun acc m => if k.nozzles[m].isSome then acc ||| BitVec.twoPow 8 m.val else acc)
        acc).getLsbD m.val = (acc.getLsbD m.val || (decide (m ∈ l) && k.nozzles[m].isSome)) := by
    intro l
    induction l with
    | nil => simp
    | cons x l ih =>
      intro acc
      rw [List.foldl_cons, ih]
      by_cases hx : m = x
      · subst hx
        cases hopen : k.nozzles[m].isSome <;> simp [m.isLt]
      · have hval : ¬m.val = x.val := fun h => hx (Fin.ext h)
        split <;> simp [hx, hval]
  exact (hfold allMembers 0).trans (by simp)

theorem Bank.targetCode_eq (k : Bank) :
    k.targetCode = match k.state with
      | .switching target _ => target.code
      | _ => k.level.code := by
  unfold Bank.targetCode Bank.standingLevel
  cases k.state <;> rfl

theorem ofNat_bitOf (b : Bool) : BitVec.ofNat 8 (bitOf b) = if b then 1 else 0 := by cases b <;> rfl

theorem Record.ofNat_presence (r : Record) :
    BitVec.ofNat 8 r.presence =
      (if r.aPart.isSome then 1 else 0) ||| (if r.bPart.isSome then 2 else 0) |||
        (if r.resolution.isSome then 4 else 0) ||| (if r.plan.isSome then 8 else 0) |||
        (if r.missCause.isSome then 16 else 0) := by
  have hbits : ∀ a b c d e : Bool,
      BitVec.ofNat 8 (bitOf a + 2 * bitOf b + 4 * bitOf c + 8 * bitOf d + 16 * bitOf e) =
        (if a then 1 else 0) ||| (if b then 2 else 0) ||| (if c then 4 else 0) |||
          (if d then 8 else 0) ||| (if e then 16 else 0) := by decide
  exact hbits _ _ _ _ _

theorem presentBytes_eq {α : Type} (x : Option α) (f : α → List Byte) : presentBytes x f = x.elim [] f := by
  cases x <;> rfl

/-! ### Cursors -/

theorem followerOf_append {before rest : List Nat} {key : Nat} (h : key ∉ before) :
    followerOf (before ++ key :: rest) key = match rest with
      | [] => .atEnd
      | x :: _ => .key x := by
  induction before with
  | nil =>
    cases rest with
    | nil => rfl
    | cons x rest => exact if_pos rfl
  | cons b before ih =>
    have hne : b ≠ key := fun heq => h (heq ▸ List.mem_cons_self)
    have hrest : key ∉ before := fun hmem => h (List.mem_cons_of_mem _ hmem)
    cases before with
    | nil =>
      cases rest with
      | nil => simp [followerOf, hne]
      | cons x rest => simp [followerOf, hne]
    | cons c before =>
      simp only [List.cons_append, followerOf, if_neg hne]
      exact ih hrest

theorem State.dropEntries_trackCursor (s : State) (id : TrackId) (b : BankId) :
    (s.dropEntries id b).cursors.track = s.cursors.track := by
  unfold State.dropEntries
  split <;> rfl

theorem State.removeRecord_trackCursor (s : State) (id : TrackId) :
    (s.removeRecord id).cursors.track = s.cursors.track.leave s.store.keys id.toNat := by
  have hfold : ∀ (l : List BankId) (t : State),
      (l.foldl (fun t b => t.dropEntries id b) t).cursors.track = t.cursors.track := by
    intro l
    induction l with
    | nil => exact fun _ => rfl
    | cons b l ih => exact fun t => (ih _).trans (t.dropEntries_trackCursor id b)
  have hdrain : ∀ t : State, t.drainEnd.cursors = t.cursors := fun t => by
    unfold State.drainEnd
    split <;> rfl
  unfold State.removeRecord
  rw [hdrain]
  exact hfold _ _

theorem State.popOldest_latchCursor {s : State} {c : Channel} {e : LatchEntry} {rest : List LatchEntry}
    (h : (s.latch c).fifo = e :: rest) :
    (s.popOldest c).cursors.latch.get c =
      (s.cursors.latch.get c).leave (s.latch c).keys e.seq.toNat := by
  simp only [State.popOldest, h]
  cases c <;> rfl

/-- The cursor that a READ leaves a fixed table with stands with the current table. -/
theorem Cursors.putIndex_current (c : Cursors) (t : Table) (n : Nat) :
    { c.putIndex t n with current := c.current } = c.putIndex t n := by
  cases t <;> rfl

end Sys2Proof.Machine

namespace Sys2Proof.Laws.Readout

open Sys2Proof Sys2Proof.Machine

/-- READ of a fixed table (R173 to R175). -/
theorem read_fixed {tag q m hi lo k code : Byte} {table : Table} {size n : Nat} {s : State} (hs : s.ready)
    (htable : (table, code.toNat, size) ∈
      [(Table.route, 1, 32), (.bank, 2, 16), (.nozzle, 4, 128), (.tally, 6, 33)]) :
    (namesEntry m (read2 hi lo) (s.cursors.fixedIndex table) n → n < size →
      1 ≤ k.toNat → k.toNat ≤ 8 →
      exec (.read tag [code, q, m, hi, lo, k]) s = .next (closeEvent s
        (({ s with cursors :=
            { s.cursors.putIndex table ((n + k.toNat) % size) with current := table } } :
          State).replied 0x8B tag (0x00 :: k :: BitVec.ofNat 8 n ::
            (List.range k.toNat).flatMap fun i => s.entryBytes table ((n + i) % size))))) ∧
    (3 < m.toNat ∨ ((m = 0 ∨ m = 3) ∧ size ≤ read2 hi lo) ∨ k.toNat = 0 ∨ 8 < k.toNat →
      exec (.read tag [code, q, m, hi, lo, k]) s =
        .next (closeEvent s (s.replied 0x8B tag [0x20]))) := by
  have hcode : tableOfCode code q = some table ∧ table.fixedSize = some size := by
    simp only [List.mem_cons, Prod.mk.injEq, List.not_mem_nil, or_false] at htable
    rcases htable with ⟨rfl, hcode, rfl⟩ | ⟨rfl, hcode, rfl⟩ | ⟨rfl, hcode, rfl⟩ | ⟨rfl, hcode, rfl⟩ <;>
      exact ⟨by simp [tableOfCode, hcode], rfl⟩
  obtain ⟨hcode, hsize⟩ := hcode
  have hreads := reads_read hs tag code q m hi lo k
  refine ⟨fun hname hn hk hk8 => ?_, fun h => ?_⟩
  · obtain ⟨l, hl, rfl, rfl⟩ := readLocator_fixed hcode hsize hname hn
    refine (hreads.taken l _ _ hl (State.readFrom_fixed ⟨hk, hk8⟩ hsize)).trans ?_
    simp [bytes1]
  · rcases h with hmode | hpast | hk
    · exact hreads.unlocated (readLocator_fixed_eq_none hcode hsize (.inl hmode))
    · exact hreads.unlocated (readLocator_fixed_eq_none hcode hsize (.inr hpast))
    · exact hreads.range hk

/-- A short read of a fixed table (R177). -/
theorem shortRead_fixed {tag k : Byte} {table : Table} {size : Nat} {s : State} (hs : s.ready)
    (htable : (table, size) ∈ [(Table.route, 32), (.bank, 16), (.nozzle, 128), (.tally, 33)])
    (hcurrent : s.cursors.current = table) (hk : 1 ≤ k.toNat) (hk8 : k.toNat ≤ 8) :
    let start := s.cursors.fixedIndex table
    exec (.shortRead tag [k]) s = .next (closeEvent s
      (({ s with cursors := s.cursors.putIndex table ((start + k.toNat) % size) } : State).replied
        0x8B tag (0x00 :: k :: BitVec.ofNat 8 start ::
          (List.range k.toNat).flatMap fun i => s.entryBytes table ((start + i) % size)))) := by
  have hsize : table.fixedSize = some size := by
    simp only [List.mem_cons, Prod.mk.injEq, List.not_mem_nil, or_false] at htable
    rcases htable with ⟨rfl, rfl⟩ | ⟨rfl, rfl⟩ | ⟨rfl, rfl⟩ | ⟨rfl, rfl⟩ <;> rfl
  subst hcurrent
  refine ((reads_shortRead hs tag k).taken _ _ _ rfl (State.readFrom_fixed ⟨hk, hk8⟩ hsize)).trans ?_
  simp only [Cursors.putIndex_current, bytes1, BitVec.ofNat_toNat, BitVec.setWidth_eq]
  rfl

/-- The entries of the fixed tables and the members of the collections, byte by byte. -/
theorem entry_layouts (n : Nat) (s : State) :
    (∀ h : n < 32, s.entryBytes .route n = (s.settings.routes[n]'h).bytes ∧
      (s.entryBytes .route n).length = 10) ∧
    (∀ h : n < 16,
      let k := s.bank ⟨n, h⟩
      let st := s.bankSettings ⟨n, h⟩
      ∃ open_ : Mask, (∀ m : Member, open_.getLsbD m.val = (k.nozzles[m]).isSome) ∧
        s.entryBytes .bank n =
          [BitVec.ofNat 8 k.state.code, BitVec.ofNat 8 k.level.code,
            BitVec.ofNat 8 (match k.state with
              | .switching target _ => target.code
              | _ => k.level.code),
            BitVec.ofNat 8 k.queue.length, open_, BitVec.ofNat 8 st.tRC, BitVec.ofNat 8 st.tSW,
            BitVec.ofNat 8 st.tPG] ++ bytes2 st.tPI ++
          [BitVec.ofNat 8 st.maxDebt, BitVec.ofNat 8 st.mso, BitVec.ofNat 8 st.openOrder.code,
            BitVec.ofNat 8 st.waveGap]) ∧
    (∀ h : n < 128,
      let z := s.nozzle ⟨n, h⟩
      s.entryBytes .nozzle n =
        [BitVec.ofNat 8 n, BitVec.ofNat 8 z.grade.code, BitVec.ofNat 8 z.badRun,
          if z.marked then 1 else 0]) ∧
    (∀ h : n < 32,
      let y := s.store.classTallies[n]'h
      s.entryBytes .tally n = [y.fired, y.degraded, y.partHit, y.missed, y.passed, y.flushed,
        y.dropped].flatMap fun x => bytes4 (BitVec.ofNat 32 x)) := by
  refine ⟨fun h => ?_, fun h => ?_, fun h => ?_, fun h => ?_⟩
  · have hentry : s.entryBytes .route n = (s.settings.routes[n]'h).bytes := by
      simp [State.entryBytes, h]
    exact ⟨hentry, by rw [hentry]; rfl⟩
  · have hid : Fin.ofNat 16 n = ⟨n, h⟩ := Fin.ext (Nat.mod_eq_of_lt h)
    refine ⟨(s.bank ⟨n, h⟩).openMask, Bank.getLsbD_openMask _, ?_⟩
    simp only [State.entryBytes, hid, bankBytes, Bank.targetCode_eq]
    rfl
  · have hid : Fin.ofNat 128 n = ⟨n, h⟩ := Fin.ext (Nat.mod_eq_of_lt h)
    simp only [State.entryBytes, hid, nozzleBytes, bytes1, ofNat_bitOf]
    rfl
  · simp only [State.entryBytes, Vector.getElem?_eq_getElem h]
    rfl

/-- The layout of the track record readout (10.9.7). -/
theorem record_layout (r : Record) :
    let headPart := fun p : HeadPart => bytes4 p.position ++
      [BitVec.ofNat 8 p.first, BitVec.ofNat 8 p.last] ++ bytes2 p.length ++
      [BitVec.ofNat 8 p.cls.val, BitVec.ofNat 8 p.confidence]
    r.bytes =
      bytes2 r.id.toNat ++
      [BitVec.ofNat 8 r.state.code,
        (if r.aPart.isSome then 1 else 0) ||| (if r.bPart.isSome then 2 else 0) |||
          (if r.resolution.isSome then 4 else 0) ||| (if r.plan.isSome then 8 else 0) |||
          (if r.missCause.isSome then 16 else 0),
        if r.reached then 1 else 0] ++
      bytes4 r.pArr ++ [BitVec.ofNat 8 r.first, BitVec.ofNat 8 r.last] ++ bytes2 r.length ++
      (r.aPart.elim [] headPart) ++ (r.bPart.elim [] headPart) ++
      (r.resolution.elim [] fun x => BitVec.ofNat 8 x.cls.val :: x.route.bytes) ++
      (r.plan.elim [] fun p => bytes2 p.lead ++ [BitVec.ofNat 8 p.dp] ++ bytes4 p.trigger ++
        [BitVec.ofNat 8 p.parts.length] ++ p.parts.flatMap fun q =>
          [BitVec.ofNat 8 q.bank.val, q.mask, BitVec.ofNat 8 q.level.code,
            BitVec.ofNat 8 q.result.code, BitVec.ofNat 8 (match q.result with
              | .lost c => c.code
              | _ => 0)]) ++
      (r.missCause.elim [] fun c => [BitVec.ofNat 8 c.code]) := by
  have hhead : HeadPart.bytes = fun p : HeadPart => bytes4 p.position ++
      [BitVec.ofNat 8 p.first, BitVec.ofNat 8 p.last] ++ bytes2 p.length ++
      [BitVec.ofNat 8 p.cls.val, BitVec.ofNat 8 p.confidence] := rfl
  unfold Record.bytes
  simp only [presentBytes_eq, bytes1, Record.ofNat_presence, ofNat_bitOf, hhead]
  simp only [List.append_assoc, List.cons_append, List.nil_append]
  rfl

/-- READ and short read of an ordered collection (R173 to R175, R177). -/
theorem read_collection {tag q m hi lo k code : Byte} {table : Table} {start : List (Nat × List Byte)}
    {c : Instr} {s : State} (hs : s.ready)
    (htable : (code = 0 ∧ table = .track) ∨ (code = 3 ∧ ∃ b, bankOfCode q = some b ∧ table = .pulses b) ∨
      (code = 5 ∧ ∃ ch, channelOfCode q.toNat = some ch ∧ table = .latch ch))
    (hc : c = .read tag [code, q, m, hi, lo, k] ∨
      (c = .shortRead tag [k] ∧ m = 1 ∧ s.cursors.current = table)) :
    (m = 0 ∨ 4 < m.toNat ∨ (m = 4 ∧ table ≠ .track) ∨ k.toNat = 0 ∨ 8 < k.toNat →
      exec c s = .next (closeEvent s (s.replied 0x8B tag [0x20]))) ∧
    (namesMembers m (read2 hi lo) (s.cursors.collection table) (s.members table) start →
      (m = 4 → table = .track) → 1 ≤ k.toNat → k.toNat ≤ 8 →
      (start = [] → exec c s = .next (closeEvent s (s.replied 0x8B tag [0x21]))) ∧
      (∀ n, returnsOf start k.toNat n → 1 ≤ n →
        let after : Cursor := match start.drop n with
          | [] => .atEnd
          | x :: _ => .key x.1
        exec c s = .next (closeEvent s
          (({ s with cursors :=
              { s.cursors.putCollection table after with current := table } } : State).replied
            0x8B tag (0x00 :: BitVec.ofNat 8 n :: 0x00 ::
              (start.take n).flatMap fun x => x.2))))) := by
  obtain ⟨hcode, hsize⟩ : tableOfCode code q = some table ∧ table.fixedSize = none := by
    rcases htable with ⟨rfl, rfl⟩ | ⟨rfl, b, hb, rfl⟩ | ⟨rfl, ch, hch, rfl⟩
    · exact ⟨rfl, rfl⟩
    · exact ⟨congrArg (Option.map Table.pulses) hb, rfl⟩
    · exact ⟨congrArg (Option.map Table.latch) hch, rfl⟩
  have hreturned : ∀ {located : Option Locator} {l : Locator}, Reads s c tag k located →
      located = some l → l.table = table → s.collectionStart l = start → 1 ≤ k.toNat → k.toNat ≤ 8 →
      (start = [] → exec c s = .next (closeEvent s (s.replied 0x8B tag [0x21]))) ∧
      (∀ n, returnsOf start k.toNat n → 1 ≤ n → exec c s = .next (closeEvent s
        (({ s with cursors :=
            { s.cursors.putCollection table (cursorAfter start n) with current := table } } :
          State).replied 0x8B tag (0x00 :: BitVec.ofNat 8 n :: 0x00 ::
            (start.take n).flatMap fun x => x.2)))) := by
    rintro located l hreads hl rfl hstart hk hk8
    refine ⟨?_, fun n hreturns hn => ?_⟩
    · rintro rfl
      exact hreads.refused l .noSuch hl (State.readFrom_none ⟨hk, hk8⟩ hsize hstart)
    · exact hreads.taken l _ _ hl (State.readFrom_members ⟨hk, hk8⟩ hsize hstart hreturns hn)
  have hafter : ∀ n, cursorAfter start n = match start.drop n with
      | [] => .atEnd
      | x :: _ => .key x.1 := fun n => by
    unfold cursorAfter
    cases start.drop n <;> rfl
  simp only [← hafter]
  rcases hc with rfl | ⟨rfl, rfl, hcurrent⟩
  · have hreads := reads_read hs tag code q m hi lo k
    refine ⟨fun h => ?_, fun hname hid hk hk8 => ?_⟩
    · rcases h with hm | hm | hm | hk
      · exact hreads.unlocated (readLocator_collection_eq_none hcode hsize (.inl hm))
      · exact hreads.unlocated (readLocator_collection_eq_none hcode hsize (.inr (.inl hm)))
      · exact hreads.unlocated (readLocator_collection_eq_none hcode hsize (.inr (.inr hm)))
      · exact hreads.range hk
    · obtain ⟨l, hl, hltable, hstart⟩ := readLocator_collection hcode hsize hname hid
      exact hreturned hreads hl hltable hstart hk hk8
  · have hreads := reads_shortRead hs tag k
    refine ⟨fun h => ?_, fun hname _ hk hk8 => ?_⟩
    · rcases h with hm | hm | hm | hk
      · cases hm
      · exact absurd hm (by decide)
      · cases hm.1
      · exact hreads.range hk
    · refine hreturned hreads rfl hcurrent ?_ hk hk8
      rw [hcurrent]
      refine State.collectionStart_eq (m := 1) rfl ?_
      rcases hname with h | h | h | h
      · exact .inl h
      · cases h.1
      · cases h.1
      · cases h.1

/-- A table code that names no table, or a bank or channel that is not one, is refused (R173). -/
theorem read_unknown_table {tag q m hi lo k code : Byte} {s : State} (hs : s.ready)
    (h : 6 < code.toNat ∨ (code = 3 ∧ 15 < q.toNat) ∨ (code = 5 ∧ 3 < q.toNat)) :
    exec (.read tag [code, q, m, hi, lo, k]) s =
      .next (closeEvent s (s.replied 0x8B tag [0x20])) := by
  refine (reads_read hs tag code q m hi lo k).unlocated (readLocator_unknownTable ?_)
  rcases h with hcode | ⟨rfl, hq⟩ | ⟨rfl, hq⟩
  · obtain ⟨x, hx⟩ := Nat.exists_eq_add_of_le' (show 7 ≤ code.toNat from hcode)
    simp [tableOfCode, hx]
  · exact congrArg (Option.map Table.pulses) (bankOfCode_eq_none hq)
  · exact congrArg (Option.map Table.latch) (channelOfCode_eq_none hq)

/-- Settles O57: the entries and members a locator names, their layouts, and the cursors. -/
theorem readAndShortRead : Obligations.ReadAndShortRead := by
  unfold Obligations.ReadAndShortRead
  refine ⟨fun tag q m hi lo k code table size n s hs htable => read_fixed hs htable, fun n s => ?_,
    fun _ => rfl, fun _ => rfl, fun e => ?_, record_layout, ?_,
    fun tag q m hi lo k code table start c s hs htable hc => read_collection hs htable hc,
    fun tag q m hi lo k code s hs h => read_unknown_table hs h,
    fun tag k table size s hs htable hcurrent hk hk8 => shortRead_fixed hs htable hcurrent hk hk8,
    fun tag k s hs hcurrent hk hk8 hend => ?_,
    fun tag k s hs hk => (reads_shortRead hs tag k).range hk, fun table cursor c => ?_,
    fun before rest key c hbefore => ?_, fun s id b c => ⟨s.removeRecord_trackCursor id, ?_,
      fun e rest hfifo => State.popOldest_latchCursor hfifo⟩⟩
  · obtain ⟨hroute, hbank, hnozzle, htally⟩ := entry_layouts n s
    refine ⟨hroute, hbank, hnozzle, htally, ?_, rfl, fun _ => rfl, fun _ => rfl⟩
    simp only [State.entryBytes, Vector.getElem?_eq_none (Nat.le_refl 32)]
    rfl
  · simp only [Entry.bytes, bytes1, ofNat_bitOf]
    rfl
  · exact ⟨rfl, rfl, rfl, rfl, rfl, rfl, rfl, fun _ => rfl, rfl, fun _ _ _ _ _ _ => rfl⟩
  · exact ((read_collection (code := 0) (q := 0) (hi := 0) (lo := 0) (start := []) hs (.inl ⟨rfl, rfl⟩)
      (.inr ⟨rfl, rfl, hcurrent⟩)).2 (.inl ⟨rfl, .inr (.inl ⟨hend, rfl⟩)⟩) (fun _ => rfl) hk hk8).1 rfl
  · cases table with
    | latch ch => cases ch <;> rfl
    | _ => rfl
  · unfold Cursor.leave
    rw [followerOf_append hbefore] <;> rfl
  · simp [State.removeEntry, State.setPulsesCursor]
    rfl

end Sys2Proof.Laws.Readout

/-!
SUPPORT. The STATUS record (10.9.5) and CLEAR-FLAGS (10.6).
-/

namespace Sys2Proof.Machine

/-! ### The STATUS record -/

theorem State.length_statusBank (s : State) (b : BankId) : (s.statusBank b).length = 10 := rfl

theorem State.length_statusLatch (s : State) (c : Channel) : (s.statusLatch c).length = 3 := rfl

theorem State.length_statusBelt (s : State) : s.statusBelt.length = 22 := by
  unfold State.statusBelt
  cases s.belt.lastLoop <;> rfl

theorem length_flatMap_const {α : Type} {f : α → List Byte} {n : Nat} (h : ∀ a, (f a).length = n)
    (l : List α) : (l.flatMap f).length = l.length * n := by
  induction l with
  | nil => simp
  | cons a l ih => rw [List.flatMap_cons, List.length_append, h, ih, List.length_cons, Nat.succ_mul,
      Nat.add_comm]

theorem State.length_statusRecord (s : State) : s.statusRecord.length = 233 := by
  have hbanks : (allBanks.flatMap s.statusBank).length = 160 :=
    length_flatMap_const s.length_statusBank allBanks
  have hlatches : ([Channel.sa, Channel.sb, Channel.bm, Channel.mx].flatMap s.statusLatch).length = 12 :=
    length_flatMap_const s.length_statusLatch _
  unfold State.statusRecord
  simp only [List.length_append, hbanks, hlatches, s.length_statusBelt]
  rfl

theorem execStatus_taken {s : State} (hs : s.ready) (tag : Byte) :
    exec (.status tag []) s =
      .next (closeEvent s (s.replied 0x81 tag (0x00 :: s.statusRecord))) := by
  show execStatus tag [] s = _
  unfold execStatus
  exact serve_taken hs rfl rfl

/-! ### CLEAR-FLAGS (R141, R144, R179) -/

/-- The clear takes PRESSURE_LOW from set to clear, so that the low test restarts (R141, R179). -/
def State.Restarts (s : State) (mask : FlagMask) : Prop :=
  s.flag .pressureLow = true ∧ mask.getLsbD 17 = true

theorem State.flag_pressureLow_cleared (s : State) (mask : FlagMask) :
    ({ s with flags := s.flags &&& ~~~mask } : State).flag .pressureLow =
      (s.flag .pressureLow && !mask.getLsbD 17) := by
  simp [State.flag, Flag.position]

theorem State.clearFlagsOf_restarts {s : State} {mask : FlagMask} (h : s.Restarts mask) :
    s.clearFlagsOf mask =
      ({ s with flags := s.flags &&& ~~~mask } : State).restartLowTest := by
  refine if_pos ⟨h.1, ?_⟩
  rw [State.flag_pressureLow_cleared, h.2]
  simp

theorem State.clearFlagsOf_plain {s : State} {mask : FlagMask} (h : ¬s.Restarts mask) :
    s.clearFlagsOf mask = { s with flags := s.flags &&& ~~~mask } := by
  refine if_neg fun hlow => h ⟨hlow.1, ?_⟩
  have := hlow.2
  rw [State.flag_pressureLow_cleared, hlow.1] at this
  simpa using this

theorem State.clearFlagsOf_flags (s : State) (mask : FlagMask) :
    (s.clearFlagsOf mask).flags = s.flags &&& ~~~mask := by
  unfold State.clearFlagsOf
  dsimp only
  split <;> rfl

theorem State.clearFlagsOf_settings (s : State) (mask : FlagMask) :
    (s.clearFlagsOf mask).settings = s.settings := by
  unfold State.clearFlagsOf
  dsimp only
  split <;> rfl

theorem State.shed_clearFlagsOf (s : State) (mask : FlagMask) :
    (s.clearFlagsOf mask).shed = (s.shed && !mask.getLsbD 17) := by
  have hflag := s.flag_pressureLow_cleared mask
  simp only [State.shed, State.flag, State.clearFlagsOf_flags, State.clearFlagsOf_settings] at hflag ⊢
  rw [hflag]
  cases s.flags.getLsbD Flag.pressureLow.position <;> cases mask.getLsbD 17 <;> simp

/-- SHED ends where the clear restarts the low test under policy SHED, and nowhere else (R144, R179). -/
theorem State.shedEnds_iff (s : State) (mask : FlagMask) :
    (s.shed = true ∧ (s.clearFlagsOf mask).shed = false) ↔
      (s.Restarts mask ∧ s.settings.pressurePolicy = .shed) := by
  rw [State.shed_clearFlagsOf]
  unfold State.Restarts State.shed
  cases s.flag .pressureLow <;> cases mask.getLsbD 17 <;> simp

theorem execClearFlags_taken {s : State} (hs : s.ready) (tag b3 b2 b1 b0 : Byte) (coils : Coils) :
    let cleared := s.clearFlagsOf (read4 b3 b2 b1 b0)
    exec (.clearFlags tag [b3, b2, b1, b0] coils) s =
      .next (closeEvent cleared ((cleared.afterShed s.shed coils).replied 0x82 tag
        (0x00 :: bytes4 (s.flags &&& ~~~(read4 b3 b2 b1 b0))))) := by
  show execClearFlags tag _ coils s = _
  unfold execClearFlags
  rw [serveAfter_ready hs rfl, ← State.clearFlagsOf_flags]
  rfl

end Sys2Proof.Machine

namespace Sys2Proof.Laws.Readout

open Sys2Proof Sys2Proof.Machine

/-- Settles O56: the record's blocks one by one, and what the clear of the mask brings. -/
theorem statusAndFlags : Obligations.StatusAndFlags := by
  unfold Obligations.StatusAndFlags
  refine ⟨fun tag s hs => ⟨execStatus_taken hs tag, s.length_statusRecord, rfl⟩,
    fun tag b3 b2 b1 b0 coils s hs => ?_⟩
  have hexec := execClearFlags_taken hs tag b3 b2 b1 b0 coils
  generalize read4 b3 b2 b1 b0 = mask at *
  dsimp only
  have hcleared : ({ s with
      flags := s.flags &&& ~~~mask
      supply := if s.flag .pressureLow = true ∧ mask.getLsbD 17 = true
        then { s.supply with testing := true, lowRun := 0 } else s.supply } : State) =
      s.clearFlagsOf mask := by
    split
    · rename_i h
      exact (State.clearFlagsOf_restarts h).symm
    · rename_i h
      exact (State.clearFlagsOf_plain h).symm
  rw [hcleared, hexec]
  refine ⟨fun h => ?_, fun h => ⟨_, rfl, .of_bankSide (.afterShed _ _ _), ?_⟩⟩
  · have hkept : (s.clearFlagsOf mask).afterShed s.shed coils = s.clearFlagsOf mask :=
      if_neg fun hends => h ((s.shedEnds_iff mask).mp hends)
    rw [hkept]
  · rw [(BankSide.afterShed _ _ _).shed, State.shed_clearFlagsOf, h.2]
    simp

end Sys2Proof.Laws.Readout

/-!
SUPPORT. The nozzles that a bank drives with good coils, the sixteen banks changed one after another, and
the steps of conditioning (6.5, 7.3, 7.4).
-/

namespace Sys2Proof.Machine

/-! ### One bank changed -/

theorem State.modBank_modBank (s : State) (b : BankId) (f g : Bank → Bank) :
    (s.modBank b f).modBank b g = s.modBank b fun k => g (f k) := by
  simp [State.modBank, State.setBank_setBank]

theorem State.modBank_eq (s : State) (b : BankId) (f : Bank → Bank) :
    s.modBank b f = s.setBank b (f (s.bank b)) := rfl

theorem State.modBank_id (s : State) (b : BankId) : s.modBank b id = s := s.setBank_self b

/-! ### The banks one after another -/

/-- A change made bank by bank, each of its own bank alone, changes each bank once. -/
theorem foldl_setBank {f : State → BankId → State} {s : State} {v : BankId → Bank}
    (hf : ∀ (banks : Vector Bank 16) (b : BankId), banks[b] = s.bank b →
      f { s with banks := banks } b = ({ s with banks := banks } : State).setBank b (v b)) :
    allBanks.foldl f s = { s with banks := Vector.ofFn v } := by
  have hlist : ∀ (l : List BankId) (banks : Vector Bank 16), l.Nodup →
      (∀ b ∈ l, banks[b] = s.bank b) →
      l.foldl f { s with banks := banks } =
        { s with banks := Vector.ofFn fun b => if b ∈ l then v b else banks[b] } := by
    intro l
    induction l with
    | nil =>
      intro banks _ _
      have hsame : (Vector.ofFn fun b : BankId => if b ∈ [] then v b else banks[b]) = banks := by
        ext i hi
        simp
      rw [hsame]
      rfl
    | cons a l ih =>
      intro banks hnodup hbanks
      obtain ⟨ha, hl⟩ := List.nodup_cons.mp hnodup
      rw [List.foldl_cons, hf banks a (hbanks a List.mem_cons_self)]
      refine (ih (banks.set a (v a)) hl fun b hb => ?_).trans ?_
      · have hval : ¬a.val = b.val := fun h => ha (Fin.ext h ▸ hb)
        simpa [Vector.getElem_set, hval] using hbanks b (List.mem_cons_of_mem a hb)
      · congr 1
        ext i hi
        by_cases hia : (⟨i, hi⟩ : BankId) = a
        · subst hia
          simp [ha]
        · have hval : ¬a.val = i := fun h => hia (Fin.ext h.symm)
          simp [hia, hval, Vector.getElem_set]
  have hall := hlist allBanks s.banks nodup_allBanks fun _ _ => rfl
  simp only [mem_allBanks, if_true] at hall
  exact hall

/-! ### Driven nozzles (R112, R132) -/

/-- `t` is `s` with one bank changed, and the health map as its good coil checks leave it (R147). -/
structure State.Drives (s t : State) (b : BankId) (g : Bank → Bank) : Prop where
  eq : t = { s.modBank b g with health := t.health }
  faulty : ∀ n, t.faulty n = s.faulty n

namespace State.Drives

variable {s t u : State} {b : BankId} {f g : Bank → Bank}

theorem refl (s : State) (b : BankId) : s.Drives s b id :=
  ⟨by rw [State.modBank_id], fun _ => rfl⟩

theorem modBank (s : State) (b : BankId) (g : Bank → Bank) : s.Drives (s.modBank b g) b g :=
  ⟨rfl, fun _ => rfl⟩

theorem trans (h : s.Drives t b f) (k : t.Drives u b g) : s.Drives u b fun x => g (f x) where
  eq := by
    have hu := k.eq
    rw [h.eq] at hu
    rw [← State.modBank_modBank]
    exact hu
  faulty n := (k.faulty n).trans (h.faulty n)

theorem bank (h : s.Drives t b g) : t.bank b = g (s.bank b) := by
  rw [h.eq]
  exact s.bank_modBank b g

theorem bank_ne (h : s.Drives t b g) {c : BankId} (hc : c ≠ b) : t.bank c = s.bank c := by
  rw [h.eq]
  exact s.bank_modBank_ne g hc

theorem store (h : s.Drives t b g) : t.store = s.store := by rw [h.eq]; rfl

theorem run (h : s.Drives t b g) : t.run = s.run := by rw [h.eq]; rfl

theorem flags (h : s.Drives t b g) : t.flags = s.flags := by rw [h.eq]; rfl

theorem fireEnable (h : s.Drives t b g) : t.fireEnable = s.fireEnable := by rw [h.eq]; rfl

theorem congr (h : s.Drives t b f) (hfg : f (s.bank b) = g (s.bank b)) : s.Drives t b g :=
  ⟨by rw [State.modBank_eq, ← hfg]; exact h.eq, h.faulty⟩

end State.Drives

theorem Nozzle.good_faulty (n : Nozzle) : n.good.grade = .faulty ↔ n.grade = .faulty := by
  unfold Nozzle.good
  cases h : n.grade <;> simp [h]

theorem State.goodCheck_drives (s : State) (b : BankId) (m : Member) :
    s.Drives (s.goodCheck b m) b id where
  eq := by
    rw [State.modBank_id]
    rfl
  faulty n := by
    unfold State.goodCheck
    by_cases hn : n = nozzleOf b m
    · subst hn
      rw [State.faulty_setNozzle]
      simp [State.faulty, Nozzle.good_faulty]
    · rw [State.faulty_setNozzle_ne _ _ hn]

/-- A driven nozzle with FIRE-ENABLE active and a good coil opens (R112, R132). -/
theorem State.drive_good {s : State} {b : BankId} {m : Member} {coils : Coils}
    (hfire : s.fireEnable = true) (hcoil : coilGood coils b m = true) (closing : Time) :
    s.Drives (s.drive b m closing coils) b fun k => { k with nozzles := k.nozzles.set m (some closing) } := by
  have hdrive : s.drive b m closing coils = (s.openNozzle b m closing).goodCheck b m := by
    unfold State.drive
    rw [if_pos hfire, if_pos hcoil]
  rw [hdrive]
  exact (State.Drives.modBank s b _).trans (State.goodCheck_drives _ b m)

/-- Every member of a list is healthy, its coil good, and FIRE-ENABLE active. -/
structure State.Sound (s : State) (b : BankId) (coils : Coils) (l : List Member) : Prop where
  fireEnable : s.fireEnable = true
  healthy : ∀ m ∈ l, s.faulty (nozzleOf b m) = false
  coil : ∀ m ∈ l, coilGood coils b m = true

theorem State.Sound.tail {s t : State} {b : BankId} {coils : Coils} {m : Member} {l : List Member}
    {g : Bank → Bank} (h : s.Sound b coils (m :: l)) (ht : s.Drives t b g) : t.Sound b coils l where
  fireEnable := ht.fireEnable.trans h.fireEnable
  healthy n hn := (ht.faulty _).trans (h.healthy n (List.mem_cons_of_mem m hn))
  coil n hn := h.coil n (List.mem_cons_of_mem m hn)

/-- Sound members driven one after another change the bank one after another. -/
theorem State.foldl_drives {f : State → Member → State} {b : BankId} {coils : Coils}
    {g : Member → Bank → Bank}
    (hf : ∀ (s : State) (m : Member), s.Sound b coils [m] → s.Drives (f s m) b (g m))
    {s : State} {l : List Member} (h : s.Sound b coils l) :
    s.Drives (l.foldl f s) b fun k => l.foldl (fun k m => g m k) k := by
  induction l generalizing s with
  | nil => exact .refl s b
  | cons m l ih =>
    have hhead : s.Sound b coils [m] :=
      ⟨h.fireEnable, fun n hn => h.healthy n (by simp_all), fun n hn => h.coil n (by simp_all)⟩
    have hfirst := hf s m hhead
    exact hfirst.trans (ih (h.tail hfirst))

/-- The nozzles of a bank after some of them have been opened. -/
def openAll (closing : Time) (nozzles : Vector (Option Time) 8) (l : List Member) :
    Vector (Option Time) 8 := l.foldl (fun v (m : Member) => v.set m (some closing)) nozzles

theorem getElem_openAll (closing : Time) (nozzles : Vector (Option Time) 8) (l : List Member) (m : Member) :
    (openAll closing nozzles l)[m] = if m ∈ l then some closing else nozzles[m] := by
  induction l generalizing nozzles with
  | nil => simp [openAll]
  | cons x l ih =>
    refine (ih (nozzles.set x (some closing))).trans ?_
    by_cases hx : m = x
    · subst hx
      simp
    · have hval : ¬x.val = m.val := fun h => hx (Fin.ext h.symm)
      simp [hx, hval]

/-- All eight nozzles opened together. -/
theorem openAll_allMembers (closing : Time) (nozzles : Vector (Option Time) 8) :
    openAll closing nozzles allMembers = Vector.replicate 8 (some closing) := by
  ext i hi : 1
  have h := getElem_openAll closing nozzles allMembers ⟨i, hi⟩
  rw [if_pos (mem_allMembers _)] at h
  simpa using h

theorem foldl_openNozzles (closing : Time) (l : List Member) (k : Bank) :
    l.foldl (fun k m => { k with nozzles := k.nozzles.set m (some closing) }) k =
      { k with nozzles := openAll closing k.nozzles l } := by
  induction l generalizing k with
  | nil => rfl
  | cons m l ih => exact ih _

end Sys2Proof.Machine

/-!
SUPPORT. START (9.2), the changes of FIRE-ENABLE (6.7) and the steps of conditioning (7.4).
-/

namespace Sys2Proof.Machine

/-! ### START (R154) -/

theorem State.conditionDark_of_ne_dark {s : State} {b : BankId} (h : (s.bank b).state ≠ .dark)
    (coils : Coils) : State.conditionDark coils s b = s := if_neg h

/-- A bank after a START without FIRE-ENABLE: a DARK one is held at step 1 of conditioning (R135, R136). -/
def State.startedBank (s : State) (b : BankId) : Bank :=
  if (s.bank b).state = .dark then
    (s.bank b).begun (timePlus s.timeBase ((s.bankSettings b).tPI * 1000000)) none
  else s.bank b

/-- START takes every DARK bank into conditioning, held at step 1 while FIRE-ENABLE is inactive. -/
theorem State.foldl_conditionDark_inhibited {s : State} (h : s.fireEnable = false) (coils : Coils) :
    allBanks.foldl (State.conditionDark coils) s =
      { s with banks := Vector.ofFn s.startedBank } := by
  refine foldl_setBank fun banks b hb => ?_
  have hbank : State.bank { s with banks := banks } b = s.bank b := hb
  unfold State.conditionDark State.startedBank
  rw [hbank]
  split
  · rw [State.beginConditioning_inhibited (by exact h), hbank]
    rfl
  · rw [← hbank, State.setBank_self]

theorem State.anyAwaited_iff (s : State) :
    s.anyAwaited = true ↔ ∃ b, (s.bank b).state.awaited = true := by
  simp [State.anyAwaited]

theorem Settings.geometryValid_iff (st : Settings) :
    st.geometryValid = true ↔
      (st.dB + st.joinTolerance < st.dA ∧ st.horizon + st.joinTolerance < st.dB) := by
  simp [Settings.geometryValid]

theorem State.allFenced_iff (s : State) : s.allFenced = true ↔ ∀ b, (s.bank b).state = .fenced := by
  simp [State.allFenced]

theorem execStart_refused {s : State} (hs : s.ready) (tag : Byte) (coils : Coils) {status : Status}
    (h : (s.run ≠ .setup ∧ status = .refusedState) ∨
      (s.run = .setup ∧ s.settings.geometryValid = false ∧ status = .settingsInvalid) ∨
      (s.run = .setup ∧ s.settings.geometryValid = true ∧ s.allFenced = true ∧
        status = .refusedState)) :
    exec (.start tag [] coils) s = .next (closeEvent s (s.replied 0x86 tag [status.code])) := by
  show execStart tag [] coils s = _
  unfold execStart
  refine serve_refused hs rfl ?_
  rcases h with ⟨hrun, rfl⟩ | ⟨hrun, hgeometry, rfl⟩ | ⟨hrun, hgeometry, hfenced, rfl⟩
  · exact if_pos hrun
  · simp [hrun, hgeometry]
  · simp [hrun, hgeometry, hfenced]

theorem execStart_taken {s : State} (hs : s.ready) (tag : Byte) (coils : Coils) (hrun : s.run = .setup)
    (hgeometry : s.settings.geometryValid = true) (hfenced : s.allFenced = false) :
    exec (.start tag [] coils) s = .next (closeEvent s ((s.startRun coils).replied 0x86 tag
      (0x00 :: bytes1 (s.startRun coils).run.code))) := by
  show execStart tag [] coils s = _
  unfold execStart
  refine serve_taken hs rfl ?_
  simp [hrun, hgeometry, hfenced]

/-- Where no bank is DARK or CONDITIONING, START enters RUN at once (R154). -/
theorem State.startRun_unawaited {s : State} (h : ∀ b, (s.bank b).state.awaited = false) (coils : Coils) :
    s.startRun coils = { s with run := .run } := by
  have hfold : allBanks.foldl (State.conditionDark coils) s = s :=
    List.foldl_fixed' (fun b => State.conditionDark_of_ne_dark (fun hdark => by
      have := h b
      rw [hdark] at this
      cases this) coils) allBanks
  have hany : s.anyAwaited = false := Bool.eq_false_iff.mpr fun hany => by
    obtain ⟨b, hb⟩ := s.anyAwaited_iff.mp hany
    rw [h b] at hb
    cases hb
  unfold State.startRun
  rw [hfold]
  dsimp only
  rw [hany]
  rfl

/-- Where a bank is waited for, START enters CONDITIONING (R154). -/
theorem State.startRun_awaited {s : State} (hany : ∃ b, (s.bank b).state.awaited = true)
    (hfire : s.fireEnable = false) (coils : Coils) :
    s.startRun coils = { s with run := .conditioning, banks := Vector.ofFn s.startedBank } := by
  have hafter : State.anyAwaited { s with banks := Vector.ofFn s.startedBank } = true := by
    obtain ⟨b, hb⟩ := hany
    refine (State.anyAwaited_iff _).mpr ⟨b, ?_⟩
    have hbank : State.bank { s with banks := Vector.ofFn s.startedBank } b = s.startedBank b := by
      simp [State.bank]
    rw [hbank]
    unfold State.startedBank
    split
    · rfl
    · exact hb
  unfold State.startRun
  rw [State.foldl_conditionDark_inhibited hfire]
  dsimp only
  rw [if_pos hafter]

/-! ### The rise of FIRE-ENABLE (R118, R136) -/

/-- Step 1 of a bank at LOW that nothing holds: the switch to HIGH begins (R135). -/
theorem State.beginStep1_low {s : State} {b : BankId} (hfire : s.fireEnable = true)
    (hlevel : (s.bank b).level = .low) (hshed : s.shed = false) (coils : Coils) :
    State.beginStep1 b coils s = s.setBank b { s.bank b with
      state := .conditioning 1 (some (timePlus s.timeBase ((s.bankSettings b).tSW * 1000))) } := by
  simp [State.beginStep1, hfire, hlevel, hshed, State.atStep, State.modBank_eq]

/-- A bank after a rise of FIRE-ENABLE: one held at step 1 switches to HIGH (R135, R136). -/
def State.risenBank (s : State) (b : BankId) : Bank :=
  match (s.bank b).state with
  | .conditioning 1 none => { s.bank b with
      state := .conditioning 1 (some (timePlus s.timeBase ((s.bankSettings b).tSW * 1000))) }
  | _ => s.bank b

theorem State.risenBank_debt (s : State) (b : BankId) : (s.risenBank b).debt = (s.bank b).debt := by
  unfold State.risenBank
  split <;> rfl

theorem State.retryStep_stands {s : State} {b : BankId}
    (h : ∀ step, (s.bank b).state ≠ .conditioning step none) (coils : Coils) :
    State.retryStep coils s b = s := by
  unfold State.retryStep
  split
  · rename_i hstate
    exact absurd hstate (h 1)
  · rename_i hstate
    exact absurd hstate (h 2)
  · rename_i hstate
    exact absurd hstate (h 4)
  · rfl

/-- A rise where no step but step 1 at LOW is held: each held bank begins to switch. -/
theorem State.foldl_retryStep {s : State} (hfire : s.fireEnable = true) (hshed : s.shed = false)
    (hheld : ∀ b step, (s.bank b).state = .conditioning step none → step = 1 ∧ (s.bank b).level = .low)
    (coils : Coils) :
    allBanks.foldl (State.retryStep coils) s =
      { s with banks := Vector.ofFn s.risenBank } := by
  refine foldl_setBank fun banks b hb => ?_
  have hbank : State.bank { s with banks := banks } b = s.bank b := hb
  by_cases hone : (s.bank b).state = .conditioning 1 none
  · have hretry : State.retryStep coils { s with banks := banks } b =
        State.beginStep1 b coils { s with banks := banks } := by
      simp only [State.retryStep, hbank, hone]
    have hrisen : s.risenBank b = { s.bank b with
        state := .conditioning 1 (some (timePlus s.timeBase ((s.bankSettings b).tSW * 1000))) } := by
      simp only [State.risenBank, hone]
    rw [hretry, State.beginStep1_low (by exact hfire) (by rw [hbank]; exact (hheld b 1 hone).2)
      (by exact hshed), hbank, hrisen]
    rfl
  · have hnone : ∀ step, (s.bank b).state ≠ .conditioning step none := fun step hstep => by
      obtain rfl := (hheld b step hstep).1
      exact hone hstep
    have hrisen : s.risenBank b = s.bank b := by
      unfold State.risenBank
      split
      · rename_i hstate
        exact absurd hstate hone
      · rfl
    rw [State.retryStep_stands (by rw [hbank]; exact hnone), hrisen, ← hbank, State.setBank_self]

theorem execFireEnableRise_inactive {s : State} (hs : s.powered = true) (hfire : s.fireEnable = false)
    (coils : Coils) :
    exec (.fireEnableRise coils) s = .next (closeEvent s
      ((allBanks.foldl (State.retryStep coils) { s with fireEnable := true }).purgeTests coils)) := by
  show execFireEnableRise coils s = _
  unfold execFireEnableRise
  rw [event_powered hs, hfire]
  rfl

theorem execFireEnableRise_active {s : State} (hs : s.powered = true) (hfire : s.fireEnable = true)
    (coils : Coils) : exec (.fireEnableRise coils) s = .next (closeEvent s s) := by
  show execFireEnableRise coils s = _
  unfold execFireEnableRise
  rw [event_powered hs, if_pos hfire]

/-- The part with the line fallen, before its banks act on it (R118). -/
def State.lineFallen (s : State) : State := ({ s with fireEnable := false } : State).setFlag .inhibited

/-- The part after a fall of FIRE-ENABLE (R118). -/
def State.fallen (s : State) : State := allBanks.foldl State.cutBank s.lineFallen

theorem execFireEnableFall_active {s : State} (hs : s.powered = true) (hfire : s.fireEnable = true) :
    exec .fireEnableFall s = .next (closeEvent s s.fallen) := by
  show execFireEnableFall s = _
  unfold execFireEnableFall
  rw [event_powered hs, if_pos hfire]
  rfl

theorem execFireEnableFall_inactive {s : State} (hs : s.powered = true) (hfire : s.fireEnable = false) :
    exec .fireEnableFall s = .next (closeEvent s s) := by
  show execFireEnableFall s = _
  unfold execFireEnableFall
  rw [event_powered hs, hfire]
  rfl

theorem State.recharged_lineFallen (s : State) (b : BankId) : s.lineFallen.recharged b = s.recharged b :=
  rfl

theorem State.bank_lineFallen (s : State) (b : BankId) : s.lineFallen.bank b = s.bank b := rfl

/-- Every bank is cut by a fall (R118). -/
theorem State.fallen_isCut (s : State) (b : BankId) : (s.fallen.bank b).IsCut (s.recharged b) := by
  have hcut := State.foldl_cutBank_isCut allBanks s.lineFallen b (mem_allBanks b)
  rw [s.recharged_lineFallen] at hcut
  exact hcut

theorem State.fallen_cutsTo (s : State) (b : BankId) :
    Bank.CutsTo (s.recharged b) (s.bank b) (s.fallen.bank b) := by
  have hside := (CutSide.foldl CutSide.cutBank allBanks s.lineFallen).bank b
  rw [s.recharged_lineFallen, s.bank_lineFallen] at hside
  exact hside

/-- A state that a fall ends is cut: it does not stand (R118). -/
theorem BankState.CutsTo.cut_of_ne {recharged : Time} {a b : BankState} (h : a.CutsTo recharged b)
    (hb : b.cut recharged = b) (hidle : a ≠ .idle) : b = a.cut recharged := by
  rcases h with rfl | h | ⟨h, -⟩
  · exact hb.symm
  · exact h
  · exact absurd h hidle

end Sys2Proof.Machine

namespace Sys2Proof.Laws.RunControl

open Sys2Proof Sys2Proof.Machine

/-- Settles O47: the tests of START in their order, and its two run states. -/
theorem start : Obligations.Start := by
  unfold Obligations.Start
  intro tag coils s hs
  dsimp only
  rw [← Settings.geometryValid_iff]
  refine ⟨fun hrun => ?_, fun hrun hgeometry => ?_, fun hrun hgeometry hfenced => ?_,
    fun hrun hgeometry ⟨b, hb⟩ => ?_⟩
  · exact execStart_refused (status := .refusedState) hs tag coils (.inl ⟨hrun, rfl⟩)
  · exact execStart_refused (status := .settingsInvalid) hs tag coils
      (.inr (.inl ⟨hrun, by simpa using hgeometry, rfl⟩))
  · exact execStart_refused (status := .refusedState) hs tag coils
      (.inr (.inr ⟨hrun, hgeometry, s.allFenced_iff.mpr hfenced, rfl⟩))
  · have hsome : s.allFenced = false :=
      Bool.eq_false_iff.mpr fun h => hb (s.allFenced_iff.mp h b)
    rw [execStart_taken hs tag coils hrun hgeometry hsome]
    refine ⟨fun hnone => ?_, fun hany hfire => ?_⟩
    · rw [State.startRun_unawaited hnone]
      rfl
    · rw [State.startRun_awaited hany hfire]
      rfl

end Sys2Proof.Laws.RunControl

namespace Sys2Proof.Laws.ValveBanks

open Sys2Proof Sys2Proof.Machine

/-- Settles O38: the fall cuts every bank, the rise begins the sequences held at step 1. -/
theorem fireEnable : Obligations.FireEnable := by
  unfold Obligations.FireEnable
  refine ⟨fun s hs hfire => ?_, fun s hs hfire => ?_, fun coils s hs hfire hdebts hshed hheld => ?_,
    fun coils s hs hfire => ?_⟩
  · have hcut := fun b => And.intro (s.fallen_isCut b) (s.fallen_cutsTo b)
    have hside : BankSide s.lineFallen s.fallen := BankSide.foldl BankSide.cutBank allBanks s.lineFallen
    rw [execFireEnableFall_active hs hfire]
    generalize s.fallen = t at *
    have hbank : ∀ b, (closeEvent s t).bank b = t.bank b := fun b => State.bank_of_banks (by simp) b
    refine ⟨_, rfl, ?_, ?_, fun b m => ?_, fun b => ?_, fun b hstate => ?_, fun b step ends hstate => ?_,
      fun b => ?_, ?_⟩
    · rw [closeEvent_fireEnable]
      exact hside.fireEnable
    · rw [closeEvent_flag _ _ (by decide)]
      refine hside.flag_of_flag ?_
      unfold State.lineFallen
      rw [State.flag_setFlag]
      simp
    · exact (congrArg (fun k : Bank => k.nozzles[m].isSome) (hbank b)).trans ((hcut b).1.nozzles m)
    · rw [hbank]
      exact (hcut b).1.waiting
    · obtain ⟨hiscut, hcuts⟩ := hcut b
      rw [hbank]
      rcases hstate with hopen | ⟨k, ends, hit, hpurging⟩
      · rw [hcuts.state.cut_of_ne hiscut.state (by rw [hopen]; exact BankState.noConfusion), hopen]
        rfl
      · rw [hcuts.state.cut_of_ne hiscut.state (by rw [hpurging]; exact BankState.noConfusion), hpurging]
        rfl
    · obtain ⟨hiscut, hcuts⟩ := hcut b
      rw [hbank, hcuts.state.cut_of_ne hiscut.state (by rw [hstate]; exact BankState.noConfusion), hstate]
      rfl
    · rw [hbank]
      exact ⟨(hcut b).2.debt, (hcut b).2.level⟩
    · exact State.SameOffPlant.trans (t := s.lineFallen) rfl (.trans (.of_bankSide hside) (.closeEvent _ _))
  · exact execFireEnableFall_inactive hs hfire
  · have hfold := State.foldl_retryStep (s := { s with fireEnable := true }) rfl hshed hheld coils
    rw [execFireEnableRise_inactive hs hfire, hfold, State.purgeTests_of_noDebts fun b => ?_]
    · rfl
    · have hbank : ∀ u : State, State.bank { u with banks := Vector.ofFn u.risenBank } b = u.risenBank b :=
        fun u => by simp [State.bank]
      rw [hbank, State.risenBank_debt]
      exact hdebts b
  · exact execFireEnableRise_active hs hfire coils

end Sys2Proof.Laws.ValveBanks

/-!
SUPPORT. The steps of conditioning, each at the end of the one before (7.4).
-/

namespace Sys2Proof.Machine

theorem execConditioningStepExpiry_running {s : State} (hs : s.powered = true) {b : BankId} {step : Nat}
    {ends : Time} (h : (s.bank b).state = .conditioning step (some ends)) (coils : Coils) :
    exec (.conditioningStepExpiry b coils) s =
      .next (closeEvent s ((s.atTime ends).stepDone b step coils)) := by
  show execConditioningStepExpiry b coils s = _
  unfold execConditioningStepExpiry
  rw [event_powered hs]
  simp only [h]

theorem execConditioningStepExpiry_stopped {s : State} (hs : s.powered = true) {b : BankId}
    (h : ∀ step ends, (s.bank b).state ≠ .conditioning step (some ends)) (coils : Coils) :
    exec (.conditioningStepExpiry b coils) s = .next (closeEvent s s) := by
  show execConditioningStepExpiry b coils s = _
  unfold execConditioningStepExpiry
  rw [event_powered hs]
  split
  · rename_i step ends hstate
    exact absurd hstate (h step ends)
  · rfl

/-! ### The purge steps (R135, R136) -/

theorem State.purgeStep_held {s : State} (h : s.shed = true ∨ s.fireEnable = false) (b : BankId)
    (coils : Coils) (step : Nat) : State.purgeStep b coils step s = s.atStep b step none := if_pos h

/-- A bank with its nozzles driven together for tPG (R132, R135). -/
def Bank.driven (k : Bank) (state : BankState) (closing : Time) : Bank :=
  { k with state := state, nozzles := Vector.replicate 8 (some closing) }

theorem State.stepMember_drives {s : State} {b : BankId} {coils : Coils} {m : Member}
    (h : s.Sound b coils [m]) (closing : Time) :
    s.Drives (State.stepMember b closing coils s m) b fun k =>
      { k with nozzles := k.nozzles.set m (some closing) } := by
  have hhealthy : ¬s.faulty (nozzleOf b m) = true := by simp [h.healthy m (by simp)]
  unfold State.stepMember
  rw [if_neg hhealthy]
  exact State.drive_good h.fireEnable (h.coil m (by simp)) closing

/-- A purge step that nothing holds drives all sound nozzles. -/
theorem State.purgeStep_drives {s : State} {b : BankId} {coils : Coils} (hshed : s.shed = false)
    (h : s.Sound b coils allMembers) (step : Nat) :
    s.Drives (State.purgeStep b coils step s) b fun k =>
      k.driven (.conditioning step (some (timePlus s.timeBase ((s.bankSettings b).tPG * 1000))))
        (timePlus s.timeBase ((s.bankSettings b).tPG * 1000)) := by
  have hat : s.Drives (s.atStep b step
      (some (timePlus s.timeBase ((s.bankSettings b).tPG * 1000)))) b _ := .modBank s b _
  have hsound : (s.atStep b step
      (some (timePlus s.timeBase ((s.bankSettings b).tPG * 1000)))).Sound b coils allMembers :=
    ⟨h.fireEnable, h.healthy, h.coil⟩
  have hheld : ¬(s.shed = true ∨ s.fireEnable = false) := by simp [hshed, h.fireEnable]
  unfold State.purgeStep
  rw [if_neg hheld]
  refine (hat.trans (State.foldl_drives (fun _ _ ht => State.stepMember_drives ht _) hsound)).congr ?_
  rw [foldl_openNozzles, openAll_allMembers]
  rfl

/-! ### Step 7 (R137) -/

theorem State.switchWanted_of_empty {s : State} {b : BankId} (h : (s.bank b).queue = []) :
    s.switchWanted b = none := by
  simp [State.switchWanted, Bank.head?, h]

theorem State.headTest_of_empty {s : State} {b : BankId} (h : (s.bank b).queue = []) : s.headTest b = s := by
  unfold State.headTest
  rw [s.switchWanted_of_empty h]
  exact ite_self _

/-- A bank without an entry and without a debt has no free-bank work (R116). -/
theorem State.freeBankWork_of_empty {s : State} {b : BankId} (hqueue : (s.bank b).queue = [])
    (hdebt : (s.bank b).debt = 0) (coils : Coils) : s.freeBankWork b coils = s := by
  have hlate : s.lateStarters b = [] := by simp [State.lateStarters, hqueue]
  unfold State.freeBankWork
  simp only [s.headTest_of_empty hqueue, hlate, List.foldl_nil, State.purgeTest_of_no_debt hdebt, ite_self]

/-- Step 7 of a bank with an empty queue: IDLE with no debt, and the readiness test (R137, R155). -/
theorem State.beginStep7_of_empty {s : State} {b : BankId} (h : (s.bank b).queue = []) (coils : Coils) :
    State.beginStep7 b coils s =
      (s.setBank b { s.bank b with
        state := .idle, debt := 0, due := false
        purgeTimer := some (timePlus s.timeBase ((s.bankSettings b).tPI * 1000000)) }).readinessTest := by
  have hidle : (s.modBank b fun k => { k with state := .idle, debt := 0, due := false }).startPurgeTimer b =
      s.setBank b { s.bank b with
        state := .idle, debt := 0, due := false
        purgeTimer := some (timePlus s.timeBase ((s.bankSettings b).tPI * 1000000)) } := by
    unfold State.startPurgeTimer
    rw [State.modBank_modBank]
    rfl
  unfold State.beginStep7
  rw [hidle, State.freeBankWork_of_empty (by rw [State.bank_setBank]; exact h)
    (by rw [State.bank_setBank])]

/-- The readiness test of a bank that has become IDLE: the others decide (R155). -/
theorem State.readinessTest_setBank {s : State} {b : BankId} {v : Bank} (hv : v.state = .idle) :
    (s.setBank b v).readinessTest = { s.setBank b v with
      run := if s.run = .conditioning ∧ (∀ c : BankId, c ≠ b → (s.bank c).state.awaited = false) then .run
        else s.run } := by
  have hany : (s.setBank b v).anyAwaited = false ↔
      ∀ c : BankId, c ≠ b → (s.bank c).state.awaited = false := by
    rw [← Bool.not_eq_true, State.anyAwaited_iff, not_exists]
    refine forall_congr' fun c => ?_
    by_cases hc : c = b
    · subst hc
      simp [hv, BankState.awaited]
    · rw [State.bank_setBank_ne s v hc]
      simp [hc]
  unfold State.readinessTest
  by_cases hready : s.run = .conditioning ∧ (∀ c : BankId, c ≠ b → (s.bank c).state.awaited = false)
  · rw [if_pos hready, if_pos ⟨hready.1, hany.mpr hready.2⟩]
  · rw [if_neg hready, if_neg fun h => hready ⟨h.1, hany.mp h.2⟩]
    rfl

end Sys2Proof.Machine

namespace Sys2Proof.Laws.Conditioning

open Sys2Proof Sys2Proof.Machine

/-- Settles O42: each step's end by what begins the next. -/
theorem conditioningSteps : Obligations.ConditioningSteps := by
  unfold Obligations.ConditioningSteps
  intro bank coils due s hs
  have hexec : ∀ {step : Nat}, (s.bank bank).state = .conditioning step (some due) →
      exec (.conditioningStepExpiry bank coils) s =
        .next (closeEvent s ((s.atTime due).stepDone bank step coils)) := fun h =>
    execConditioningStepExpiry_running hs h coils
  have hsound : s.fireEnable = true →
      (∀ m : Member, s.faulty (nozzleOf bank m) = false ∧ coilGood coils bank m = true) →
      ∀ t : State, t.fireEnable = s.fireEnable → t.health = s.health → t.Sound bank coils allMembers := by
    intro hfire hgood t htfire hthealth
    refine ⟨htfire.trans hfire, fun m _ => ?_, fun m _ => (hgood m).2⟩
    have hm := (hgood m).1
    unfold State.faulty State.nozzle at hm ⊢
    rw [hthealth]
    exact hm
  dsimp only
  refine ⟨fun h => ⟨fun hheld => ?_, fun hshed hfire hgood => ?_⟩, fun h hrc => ?_,
    fun h hshed hfire hgood => ?_, fun h hrc => ?_, fun h => ?_, fun h hqueue => ?_,
    fun h => execConditioningStepExpiry_stopped hs h coils⟩
  · rw [hexec h]
    refine congrArg (fun t => Host.Outcome.next (closeEvent s t)) ?_
    refine (State.purgeStep_held (by exact hheld) bank coils 2).trans ?_
    exact State.modBank_modBank _ _ _ _
  · have hdrives := State.purgeStep_drives
      (s := (s.atTime due).modBank bank fun k => { k with level := .high }) (b := bank) (by exact hshed)
      (hsound hfire hgood _ rfl rfl) 2
    refine ⟨_, hexec h, ?_, ?_⟩
    · rw [State.bank_of_banks (closeEvent_banks _ _)]
      refine hdrives.bank.trans ?_
      rw [State.bank_modBank]
      rfl
    · rw [closeEvent_store]
      exact hdrives.store
  · rw [hexec h]
    refine congrArg (fun t => Host.Outcome.next (closeEvent s t)) ?_
    refine (if_neg (Nat.ne_of_gt hrc)).trans ?_
    exact State.modBank_modBank _ _ _ _
  · have hdrives := State.purgeStep_drives (s := s.atTime due) (b := bank) (by exact hshed)
      (hsound hfire hgood _ rfl rfl) 4
    refine ⟨_, hexec h, ?_, ?_⟩
    · rw [State.bank_of_banks (closeEvent_banks _ _)]
      exact hdrives.bank
    · rw [closeEvent_store]
      exact hdrives.store
  · rw [hexec h]
    refine congrArg (fun t => Host.Outcome.next (closeEvent s t)) ?_
    refine (if_neg (Nat.ne_of_gt hrc)).trans ?_
    exact State.modBank_modBank _ _ _ _
  · rw [hexec h]
    rfl
  · rw [hexec h]
    refine congrArg (fun t => Host.Outcome.next (closeEvent s t)) ?_
    refine (State.beginStep7_of_empty (s := (s.atTime due).modBank bank fun k => { k with level := .low })
      (by rw [State.bank_modBank]; exact hqueue) coils).trans ?_
    rw [State.bank_modBank, State.modBank_eq, State.setBank_setBank, State.readinessTest_setBank (by rfl)]
    rfl

end Sys2Proof.Laws.Conditioning

/-!
SUPPORT. The purge timer, the purge tests and the purge (7.1 to 7.3).
-/

namespace Sys2Proof.Machine

/-! ### The clear window (R130) -/

theorem Destination.names_iff (d : Destination) (bar : Bar) : d.names bar = true ↔ d.bar? = some bar := by
  cases d <;> cases bar <;> simp [Destination.names, Destination.bar?]

theorem Record.mayUse_iff (r : Record) (b : BankId) :
    r.mayUse b = true ↔ r.state = .joining ∨ (r.state = .ready ∧ ∃ res, r.resolution = some res ∧
      res.route.destination.bar? = some (barOfBank b)) := by
  unfold Record.mayUse
  split
  · rename_i h
    simp [h]
  · rename_i h
    cases hres : r.resolution with
    | none => simp [h]
    | some res => simp [h, Destination.names_iff]
  · rename_i hjoining hready
    refine ⟨Bool.noConfusion, ?_⟩
    rintro (h | ⟨h, -⟩)
    · exact (hjoining h).elim
    · exact (hready h).elim

theorem Record.meetsColumns_iff (r : Record) (b : BankId) :
    r.meetsColumns b = true ↔ r.first ≤ b.val % 8 * 8 + 7 ∧ b.val % 8 * 8 ≤ r.last := by
  unfold Record.meetsColumns
  rw [Bool.and_eq_true, decide_eq_true_eq, decide_eq_true_eq]
  rfl

/-- An entry leaves the window that ends at `ends` clear (R130). -/
def Entry.clears (e : Entry) (tc ends : Pos) : Prop :=
  e.state ≠ .pending ∧
    ¬(e.state = .waiting ∧ 0 ≤ serialDiff e.trigger tc ∧ serialDiff e.trigger ends ≤ 0)

/-- A record meets a bank's columns within the window that ends at `ends` (R130). -/
def Record.meets (r : Record) (b : BankId) (tc ends : Pos) : Prop :=
  (r.state = .joining ∨ (r.state = .ready ∧ ∃ res, r.resolution = some res ∧
    res.route.destination.bar? = some (barOfBank b))) ∧
  r.first ≤ b.val % 8 * 8 + 7 ∧ b.val % 8 * 8 ≤ r.last ∧
  serialDiff r.pArr ends ≤ 0 ∧ 0 ≤ serialDiff (posPlus r.pArr r.length) tc

theorem State.clearWindow_iff (s : State) (b : BankId) :
    s.clearWindow b = true ↔
      (∀ e ∈ (s.bank b).queue, e.clears s.belt.tc (posPlus s.belt.tc (s.windowLength b))) ∧
      ∀ r ∈ s.store.records, ¬r.meets b s.belt.tc (posPlus s.belt.tc (s.windowLength b)) := by
  unfold State.clearWindow
  simp only [Bool.and_eq_true, List.all_eq_true]
  refine and_congr (forall₂_congr fun e _ => ?_) (forall₂_congr fun r _ => ?_)
  · unfold Entry.clears
    cases h : e.state with
    | waiting =>
      simp only [State.inWindow, atOrPast]
      simp
      omega
    | pending => simp
    | opened => simp
  · rw [Bool.not_eq_true', ← Bool.not_eq_true, not_iff_not]
    simp [Record.mayUse_iff, Record.meetsColumns_iff, State.spanMeets, atOrPast, Record.meets, and_assoc]

/-! ### The opening of a purge (R131, R132) -/

/-- A bank whose purge has opened (R132). -/
def Bank.purgeHit (k : Bank) : Bank :=
  match k.state with
  | .purging kind ends _ => { k with state := .purging kind ends true }
  | _ => k

theorem State.markPurgeHit_eq (s : State) (b : BankId) : s.markPurgeHit b = s.modBank b Bank.purgeHit := rfl

theorem State.purgeMember_drives {s : State} {b : BankId} {coils : Coils} {m : Member}
    (h : s.Sound b coils [m]) (closing : Time) :
    s.Drives (State.purgeMember b closing coils s m) b fun k =>
      Bank.purgeHit { k with nozzles := k.nozzles.set m (some closing) } := by
  have hcoil := h.coil m (by simp)
  have hhealthy : ¬s.faulty (nozzleOf b m) = true := by simp [h.healthy m (by simp)]
  have hopens : s.driveOpens b m coils = true := by simp [State.driveOpens, h.fireEnable, hcoil]
  unfold State.purgeMember
  rw [if_neg hhealthy, if_pos hopens, State.markPurgeHit_eq]
  exact (State.drive_good h.fireEnable hcoil closing).trans (.modBank _ b _)

theorem foldl_purgeHit (closing : Time) {kind : PurgeKind} {ends : Time} (l : List Member) {k : Bank}
    {hit : Bool} (hk : k.state = .purging kind ends hit) :
    l.foldl (fun k (m : Member) => Bank.purgeHit { k with nozzles := k.nozzles.set m (some closing) }) k =
      { k with
        nozzles := openAll closing k.nozzles l
        state := .purging kind ends (hit || !l.isEmpty) } := by
  induction l generalizing k hit with
  | nil =>
    simp only [List.isEmpty_nil, Bool.not_true, Bool.or_false, ← hk]
    rfl
  | cons m l ih =>
    have hfirst : Bank.purgeHit { k with nozzles := k.nozzles.set m (some closing) } =
        { k with nozzles := k.nozzles.set m (some closing), state := .purging kind ends true } := by
      simp only [Bank.purgeHit, hk]
    rw [List.foldl_cons, hfirst, ih (hit := true) rfl]
    simp [openAll]

/-- The part as a purge begins, before its nozzles are driven (R131). -/
def State.purgeBegun (s : State) (b : BankId) (kind : PurgeKind) : State :=
  let begun := s.modBank b fun k =>
    { k with state := .purging kind (timePlus s.timeBase ((s.bankSettings b).tPG * 1000)) false }
  match kind with
  | .forced => begun.setFlag .purgeForced
  | .opportunistic => begun

theorem State.banks_purgeBegun (s : State) (b : BankId) (kind : PurgeKind) :
    (s.purgeBegun b kind).banks = (s.modBank b fun k =>
      { k with state := .purging kind (timePlus s.timeBase ((s.bankSettings b).tPG * 1000)) false }).banks := by
  cases kind <;> rfl

theorem State.bank_purgeBegun (s : State) (b : BankId) (kind : PurgeKind) :
    (s.purgeBegun b kind).bank b = { s.bank b with
      state := .purging kind (timePlus s.timeBase ((s.bankSettings b).tPG * 1000)) false } :=
  (State.bank_of_banks (s.banks_purgeBegun b kind) b).trans (s.bank_modBank b _)

/-- A bank that purges with its nozzles open until `closing` (R131, R132). -/
def Bank.purging (k : Bank) (kind : PurgeKind) (closing : Time) : Bank :=
  { k with state := .purging kind closing true, nozzles := Vector.replicate 8 (some closing) }

/-- A purge of a sound bank opens all its nozzles for tPG. -/
theorem State.startPurge_drives {s : State} {b : BankId} {coils : Coils} (h : s.Sound b coils allMembers)
    (kind : PurgeKind) :
    (s.purgeBegun b kind).Drives (s.startPurge b kind coils) b fun k =>
      k.purging kind (timePlus s.timeBase ((s.bankSettings b).tPG * 1000)) := by
  have hsound : (s.purgeBegun b kind).Sound b coils allMembers := by
    cases kind <;> exact ⟨h.fireEnable, h.healthy, h.coil⟩
  have hstart : s.startPurge b kind coils = allMembers.foldl
      (State.purgeMember b (timePlus s.timeBase ((s.bankSettings b).tPG * 1000)) coils)
      (s.purgeBegun b kind) := by
    cases kind <;> rfl
  rw [hstart]
  refine (State.foldl_drives (fun _ _ ht => State.purgeMember_drives ht _) hsound).congr ?_
  rw [s.bank_purgeBegun, foldl_purgeHit _ _ rfl, openAll_allMembers]
  rfl

/-- What a purge of a sound bank makes of the part. -/
theorem State.startPurge_sound {s : State} {b : BankId} {coils : Coils} (h : s.Sound b coils allMembers)
    (kind : PurgeKind) :
    (s.startPurge b kind coils).bank b =
        (s.bank b).purging kind (timePlus s.timeBase ((s.bankSettings b).tPG * 1000)) ∧
      (s.startPurge b kind coils).flags = (s.purgeBegun b kind).flags ∧
      (s.startPurge b kind coils).store = s.store ∧ (s.startPurge b kind coils).timeBase = s.timeBase ∧
      ∀ c, c ≠ b → (s.startPurge b kind coils).bank c = s.bank c := by
  have hdrives := State.startPurge_drives h kind
  refine ⟨?_, hdrives.flags, ?_, ?_, fun c hc => ?_⟩
  · rw [hdrives.bank, s.bank_purgeBegun]
    rfl
  · rw [hdrives.store]
    cases kind <;> rfl
  · exact (BankSide.startPurge s b kind coils).timeBase
  · rw [hdrives.bank_ne hc]
    exact (State.bank_of_banks (s.banks_purgeBegun b kind) c).trans (s.bank_modBank_ne _ hc)

/-- A bank may purge: IDLE, with a debt, FIRE-ENABLE active and no bar of SHED (R129). -/
def State.MayPurge (s : State) (b : BankId) : Prop :=
  (s.bank b).state = .idle ∧ 1 ≤ (s.bank b).debt ∧ s.fireEnable = true ∧
    ¬(s.shed = true ∧ (s.bank b).level = .high)

theorem State.purgeBarred_iff (s : State) (b : BankId) :
    s.purgeBarred b = false ↔ ¬(s.shed = true ∧ (s.bank b).level = .high) := by
  simp [State.purgeBarred]

theorem State.purgeTest_barred {s : State} {b : BankId} (h : ¬s.MayPurge b) (coils : Coils) :
    State.purgeTest coils s b = s :=
  if_neg fun hmay => h ⟨hmay.1, hmay.2.1, hmay.2.2.1, (s.purgeBarred_iff b).mp hmay.2.2.2⟩

theorem State.purgeTest_may {s : State} {b : BankId} (h : s.MayPurge b) (coils : Coils) :
    State.purgeTest coils s b =
      if (s.bank b).due then s.startPurge b .forced coils
      else if s.clearWindow b then s.startPurge b .opportunistic coils
      else s :=
  if_pos ⟨h.1, h.2.1, h.2.2.1, (s.purgeBarred_iff b).mpr h.2.2.2⟩

/-! ### The timers (R127, R133) -/

/-- A bank after an expiry of its purge timer at `now` (R127). -/
def State.indebted (s : State) (b : BankId) (now : Time) : Bank :=
  { s.bank b with
    debt := min ((s.bank b).debt + 1) (s.bankSettings b).maxDebt
    due := decide ((s.bankSettings b).maxDebt ≤ (s.bank b).debt + 1)
    purgeTimer := some (timePlus now ((s.bankSettings b).tPI * 1000000)) }

theorem execPurgeTimerExpiry_running {s : State} (hs : s.powered = true) {b : BankId} {due : Time}
    (h : (s.bank b).purgeTimer = some due) (coils : Coils) :
    exec (.purgeTimerExpiry b coils) s = .next (closeEvent s (State.purgeTest coils
      ((s.atTime due).setBank b (s.indebted b (laterOf s.timeBase due))) b)) := by
  have htimer : ((s.atTime due).modBank b fun k => k.addDebt (s.bankSettings b).maxDebt).startPurgeTimer b =
      (s.atTime due).setBank b (s.indebted b (laterOf s.timeBase due)) :=
    State.modBank_modBank _ _ _ _
  show execPurgeTimerExpiry b coils s = _
  unfold execPurgeTimerExpiry
  rw [event_powered hs]
  simp only [h]
  rw [htimer]

theorem execPurgeTimerExpiry_stopped {s : State} (hs : s.powered = true) {b : BankId}
    (h : (s.bank b).purgeTimer = none) (coils : Coils) :
    exec (.purgeTimerExpiry b coils) s = .next (closeEvent s s) := by
  show execPurgeTimerExpiry b coils s = _
  unfold execPurgeTimerExpiry
  rw [event_powered hs]
  simp only [h]

theorem execPurgeExpiry_running {s : State} (hs : s.powered = true) {b : BankId} {kind : PurgeKind}
    {ends : Time} {hit : Bool} (h : (s.bank b).state = .purging kind ends hit) :
    exec (.purgeExpiry b) s = .next (closeEvent s ((s.atTime ends).endPurge b hit)) := by
  show execPurgeExpiry b s = _
  unfold execPurgeExpiry
  rw [event_powered hs]
  simp only [h]

theorem execPurgeExpiry_stopped {s : State} (hs : s.powered = true) {b : BankId}
    (h : ∀ kind ends hit, (s.bank b).state ≠ .purging kind ends hit) :
    exec (.purgeExpiry b) s = .next (closeEvent s s) := by
  show execPurgeExpiry b s = _
  unfold execPurgeExpiry
  rw [event_powered hs]
  split
  · rename_i kind ends hit hstate
    exact absurd hstate (h kind ends hit)
  · rfl

/-- The bank at the end of its purge (R114, R133). -/
theorem State.endPurge_eq (s : State) (b : BankId) (hit : Bool) :
    s.endPurge b hit = s.setBank b { s.bank b with
      state := .settling (timePlus s.timeBase ((s.bankSettings b).tRC * 500))
      nozzles := noNozzleOpen
      debt := if hit then (s.bank b).debt - 1 else (s.bank b).debt
      due := if hit then (s.bank b).due && decide ((s.bankSettings b).maxDebt ≤ (s.bank b).debt - 1)
        else (s.bank b).due } := by
  unfold State.endPurge State.settle
  rw [State.modBank_modBank]
  cases hit <;> rfl

theorem execStallTimerExpiry_running {s : State} (hs : s.powered = true) {due : Time}
    (h : s.belt.stallTimer = some due) (coils : Coils) :
    exec (.stallTimerExpiry coils) s = .next (closeEvent s
      ((({ s.atTime due with belt := { s.belt with motion := .stopped, stallTimer := none } } :
        State).setFlag .beltStopSeen).purgeTests coils)) := by
  show execStallTimerExpiry coils s = _
  unfold execStallTimerExpiry
  rw [event_powered hs, h]
  rfl

end Sys2Proof.Machine

namespace Sys2Proof.Laws.Conditioning

open Sys2Proof Sys2Proof.Machine

/-- What the purge test of one bank makes of the part (R129 to R132). -/
theorem purgeTest_cases (bank : BankId) (coils : Coils) (s : State) :
    (¬s.MayPurge bank → State.purgeTest coils s bank = s) ∧
    (s.MayPurge bank → (s.bank bank).due = false → s.clearWindow bank = false →
      State.purgeTest coils s bank = s) ∧
    (s.MayPurge bank → (s.bank bank).due = true ∨ s.clearWindow bank = true →
      (∀ m : Member, s.faulty (nozzleOf bank m) = false ∧ coilGood coils bank m = true) →
      (State.purgeTest coils s bank).bank bank = (s.bank bank).purging
        (if (s.bank bank).due then .forced else .opportunistic)
        (timePlus s.timeBase ((s.bankSettings bank).tPG * 1000)) ∧
      (State.purgeTest coils s bank).flags =
        (if (s.bank bank).due then s.flags ||| 0x00100000 else s.flags) ∧
      (State.purgeTest coils s bank).store = s.store ∧
      ∀ b, b ≠ bank → (State.purgeTest coils s bank).bank b = s.bank b) := by
  refine ⟨fun h => State.purgeTest_barred h coils, fun h hdue hclear => ?_, fun h hstarts hgood => ?_⟩
  · rw [State.purgeTest_may h, hdue, hclear]
    rfl
  · have hsound : s.Sound bank coils allMembers := ⟨h.2.2.1, fun m _ => (hgood m).1, fun m _ => (hgood m).2⟩
    rw [State.purgeTest_may h]
    cases hdue : (s.bank bank).due with
    | true =>
      obtain ⟨hbank, hflags, hstore, -, hothers⟩ := State.startPurge_sound hsound .forced
      exact ⟨hbank, hflags, hstore, hothers⟩
    | false =>
      have hclear : s.clearWindow bank = true := hstarts.resolve_left (by simp [hdue])
      obtain ⟨hbank, hflags, hstore, -, hothers⟩ := State.startPurge_sound hsound .opportunistic
      rw [hclear]
      exact ⟨hbank, hflags, hstore, hothers⟩

/-- Settles O41: the timer, the tests, the purge and its end. -/
theorem purgeCycle : Obligations.PurgeCycle := by
  unfold Obligations.PurgeCycle
  refine ⟨fun bank coils due s hs htimer => ⟨fun hidle => ?_, fun hidle hmax hreached hfire hbarred hgood => ?_,
      fun _ => execPurgeTimerExpiry_running hs htimer coils⟩,
    fun bank coils s => ?_, fun coils due s hs hdue => ?_,
    fun bank coils s hs hnone => execPurgeTimerExpiry_stopped hs hnone coils,
    fun bank kind ends hit s hs hstate => ?_, fun bank s hs hnone => execPurgeExpiry_stopped hs hnone⟩
  · rw [execPurgeTimerExpiry_running hs htimer, State.purgeTest_of_ne_idle]
    · rfl
    · rw [State.bank_setBank]
      exact hidle
  · have hbank : ((s.atTime due).setBank bank (s.indebted bank (laterOf s.timeBase due))).bank bank =
        s.indebted bank (laterOf s.timeBase due) := State.bank_setBank _ _ _
    have hmay : ((s.atTime due).setBank bank (s.indebted bank (laterOf s.timeBase due))).MayPurge bank := by
      unfold State.MayPurge
      rw [hbank]
      exact ⟨hidle, Nat.le_min.mpr ⟨Nat.le_add_left _ _, hmax⟩, hfire, (s.purgeBarred_iff bank).mp hbarred⟩
    have hdue : (s.indebted bank (laterOf s.timeBase due)).due = true := decide_eq_true hreached
    refine ⟨_, execPurgeTimerExpiry_running hs htimer coils, ?_⟩
    rw [State.purgeTest_may hmay, hbank, hdue, if_pos rfl]
    obtain ⟨hstate, hflags, hstore, htime, -⟩ := State.startPurge_sound
      (s := (s.atTime due).setBank bank (s.indebted bank (laterOf s.timeBase due))) (b := bank)
      (coils := coils) ⟨hfire, fun m _ => (hgood m).1, fun m _ => (hgood m).2⟩ .forced
    refine ⟨?_, ?_, ?_, ?_⟩
    · rw [State.bank_of_banks (closeEvent_banks _ _), hstate, hbank]
      rfl
    · rw [closeEvent_flag _ _ (by decide), State.flag, hflags]
      exact (State.flag_setFlag _ .purgeForced .purgeForced).trans (by simp)
    · rw [closeEvent_store]
      exact hstore
    · rw [closeEvent_timeBase]
      exact htime
  · obtain ⟨hnot, hstays, hopens⟩ := purgeTest_cases bank coils s
    intro k st ends meets clear may closing
    have hends : ends = posPlus s.belt.tc (s.windowLength bank) := by
      unfold State.windowLength
      cases hmotion : s.belt.motion <;> simp only [ends, hmotion] <;> rfl
    have hclear : clear ↔ s.clearWindow bank = true := by
      rw [s.clearWindow_iff, ← hends]
      exact Iff.rfl
    refine ⟨hnot, fun hmay hdue hblocked => hstays hmay hdue ?_, fun hmay hstarts hgood => ?_⟩
    · exact Bool.eq_false_iff.mpr fun h => hblocked (hclear.mpr h)
    · exact hopens hmay (hstarts.imp_right hclear.mp) hgood
  · rw [execStallTimerExpiry_running hs hdue, State.purgeTests, allBanks_eq_finRange]
    rfl
  · rw [execPurgeExpiry_running hs hstate, State.endPurge_eq]
    rfl

end Sys2Proof.Laws.Conditioning

/-!
SUPPORT. What the work of one bank leaves of another: where every entry belongs to a record whose part on
its bank is open, a report of one bank takes no entry out of another's queue.
-/

namespace Sys2Proof.Machine

/-- Ids are distinct and every entry belongs to a record whose part on its bank is open (R41, R101). -/
def State.Tied (s : State) : Prop := s.store.IdsDistinct ∧ s.EntriesOpen

theorem PlantLaws.tied {s t : State} (h : PlantLaws True True s t) (hs : s.Tied) : t.Tied :=
  ⟨h.steps.idsDistinct hs.1, h.partsOpen trivial hs.1 hs.2⟩

theorem State.dropEntries_unqueued {s : State} {id : TrackId} {b : BankId}
    (h : ∀ e ∈ (s.bank b).queue, e.track ≠ id) : s.dropEntries id b = s := by
  refine if_neg fun hany => ?_
  obtain ⟨e, he, heq⟩ := List.any_eq_true.mp hany
  exact h e he (of_decide_eq_true heq)

/-- A record without entries leaves every bank as it is. -/
theorem State.bank_removeRecord {s : State} {id : TrackId} (h : s.Unqueued id) (b : BankId) :
    (s.removeRecord id).bank b = s.bank b := by
  unfold State.removeRecord
  rw [State.bank_drainEnd, List.foldl_fixed' (fun c => State.dropEntries_unqueued (by exact h c)) allBanks]
  rfl

theorem State.bank_retireTest {s : State} {id : TrackId} (h : s.Unqueued id) (b : BankId) :
    (s.retireTest id).bank b = s.bank b := by
  unfold State.retireTest
  split
  · rfl
  · split
    · exact State.bank_removeRecord (s := s.modTally _ _) h b
    · rfl

/-- The outcome rule applies where no entry waits for a part, and so leaves every bank (R54). -/
theorem State.bank_outcomeRule {s : State} (h : s.Tied) (id : TrackId) (b : BankId) :
    (s.outcomeRule id).bank b = s.bank b := by
  unfold State.outcomeRule
  split
  · rfl
  · rename_i r hr
    split
    · rfl
    · rename_i p hp
      split
      · rename_i hfinal
        refine State.bank_retireTest (s := s.modRecord id _) (fun c e he heq => ?_) b
        obtain ⟨q, hq, hqe, -, hpart⟩ := h.2 c e he
        obtain ⟨hmem, hrid⟩ := State.mem_of_record? hr
        have hsame : q = r := List.inj_on_of_nodup_map h.1.2 hq hmem (by rw [hqe, heq, hrid])
        rw [hsame, Record.openPart, hp] at hpart
        obtain ⟨x, hx, hopen⟩ := List.any_eq_true.mp hpart
        have := List.all_eq_true.mp (Bool.and_eq_true_iff.mp hfinal).2 x hx
        simp [this] at hopen
      · rfl

/-- A report of a bank without an entry of the record leaves every bank (R102). -/
theorem State.bank_reportPart {s : State} (h : s.Tied) {id : TrackId} {c : BankId}
    (hfree : ∀ e ∈ (s.bank c).queue, e.track ≠ id) (result : PartResult) (level : Option Level)
    (b : BankId) : (s.reportPart id c result level).bank b = s.bank b := by
  unfold State.reportPart
  split
  · rfl
  · split
    · have hwritten : PlantLaws True True s (s.modRecord id fun q => q.report c result level) := by
        refine PlantLaws.modRecord (fun r => rfl) fun _ _ _ d e he htrack r _ _ hserving hpart =>
          ⟨PlantLaws.serving_report hserving c result level, PlantLaws.openPart_report ?_ hpart⟩
        refine .inl fun hd => ?_
        subst hd
        exact hfree e he htrack
      dsimp only
      split
      · exact State.bank_outcomeRule ((hwritten.trans (.countCause _ _)).tied h) id b
      · exact State.bank_outcomeRule (hwritten.tied h) id b
    · rfl

/-- `t` is `s` after the work of other banks than `b`. -/
structure Apart (b : BankId) (s t : State) : Prop where
  tied : s.Tied → t.Tied
  bank : s.Tied → t.bank b = s.bank b
  faulty : ∀ m, t.faulty (nozzleOf b m) = s.faulty (nozzleOf b m)

namespace Apart

variable {b c : BankId}

theorem of_same {s t : State} (hstore : t.store = s.store) (hbanks : t.banks = s.banks)
    (hhealth : t.health = s.health) : Apart b s t where
  tied h := by
    unfold State.Tied State.EntriesOpen State.bank at *
    rw [hstore, hbanks]
    exact h
  bank _ := State.bank_of_banks hbanks b
  faulty m := by
    unfold State.faulty State.nozzle
    rw [hhealth]

theorem refl (s : State) : Apart b s s := of_same rfl rfl rfl

theorem trans {s t u : State} (h : Apart b s t) (k : Apart b t u) : Apart b s u where
  tied x := k.tied (h.tied x)
  bank x := (k.bank (h.tied x)).trans (h.bank x)
  faulty m := (k.faulty m).trans (h.faulty m)

theorem foldl {α : Type} {f : State → α → State} {l : List α} (h : ∀ t, ∀ a ∈ l, Apart b t (f t a))
    (s : State) : Apart b s (l.foldl f s) := by
  induction l generalizing s with
  | nil => exact refl s
  | cons a l ih =>
    exact (h s a List.mem_cons_self).trans (ih (fun t x hx => h t x (List.mem_cons_of_mem a hx)) _)

/-- A change of another bank that brings no entry into its queue. -/
theorem modBank (hc : b ≠ c) {s : State} {f : Bank → Bank} (hf : (f (s.bank c)).queue ⊆ (s.bank c).queue) :
    Apart b s (s.modBank c f) where
  tied h := by
    refine ⟨h.1, fun d e he => ?_⟩
    rw [State.bank_modBank_eq] at he
    split at he
    · rename_i hd
      rw [hd]
      exact h.2 c e (hf he)
    · exact h.2 d e he
  bank _ := State.bank_modBank_ne s f hc
  faulty _ := rfl

theorem setFlag (s : State) (f : Flag) : Apart b s (s.setFlag f) := of_same rfl rfl rfl

theorem setPulsesCursor (s : State) (d : BankId) (v : Cursor) : Apart b s (s.setPulsesCursor d v) :=
  of_same rfl rfl rfl

theorem nozzleOf_ne (hc : b ≠ c) (m n : Member) : nozzleOf b m ≠ nozzleOf c n := by
  intro h
  have hval := congrArg Fin.val h
  have hm := m.isLt
  have hn := n.isLt
  simp only [nozzleOf] at hval
  exact hc (Fin.ext (by omega))

theorem setNozzle (hc : b ≠ c) (s : State) (m : Member) (v : Nozzle) :
    Apart b s (s.setNozzle (nozzleOf c m) v) where
  tied h := h
  bank _ := rfl
  faulty n := State.faulty_setNozzle_ne s v (nozzleOf_ne hc n m)

theorem readinessTest (s : State) : Apart b s s.readinessTest := by
  unfold State.readinessTest
  split
  · exact of_same rfl rfl rfl
  · exact refl s

/-- The reports of a bank whose queue is empty. -/
theorem foldl_report {result : PartResult} (l : List Entry) {s : State} (hempty : (s.bank c).queue = []) :
    Apart b s (l.foldl (fun t e => t.reportPart e.track c result none) s) := by
  induction l generalizing s with
  | nil => exact refl s
  | cons e l ih =>
    have hside := StoreSide.reportPart s e.track c result none
    have hfirst : Apart b s (s.reportPart e.track c result none) :=
      { tied := fun h => (PlantLaws.reportPart (A := True) (N := True)
          (fun _ _ x hx => by simp [hempty] at hx) none).tied h
        bank := fun h => State.bank_reportPart h (by simp [hempty]) _ _ b
        faulty := fun m => by
          unfold State.faulty State.nozzle
          rw [hside.health] }
    exact hfirst.trans (ih (List.sublist_nil.mp (hempty ▸ (hside.bank c).queue)))

theorem fenceBank (hc : b ≠ c) (s : State) : Apart b s (s.fenceBank c) := by
  unfold State.fenceBank
  split
  · exact refl s
  · have hfenced : Apart b s (s.modBank c Bank.fencedBank) := modBank hc (List.nil_subset _)
    refine ((hfenced.trans (setPulsesCursor _ c .atEnd)).trans (foldl_report _ ?_)).trans (readinessTest _)
    rw [State.bank_setPulsesCursor, State.bank_modBank]
    rfl

theorem autoFence (hc : b ≠ c) (s : State) : Apart b s (s.autoFence c) := by
  unfold State.autoFence
  split
  · exact (fenceBank hc s).trans (setFlag _ _)
  · exact refl s

theorem drive (hc : b ≠ c) (s : State) (m : Member) (closing : Time) (coils : Coils) :
    Apart b s (s.drive c m closing coils) := by
  unfold State.drive
  split
  · split
    · exact (modBank hc (List.Subset.refl _)).trans (setNozzle hc _ _ _)
    · unfold State.badCheck
      dsimp only
      split
      · exact ((setNozzle hc _ _ _).trans (setFlag _ _)).trans (autoFence hc _)
      · exact setNozzle hc _ _ _
  · exact refl s

theorem headTest (hc : b ≠ c) (s : State) : Apart b s (s.headTest c) := by
  unfold State.headTest
  split
  · split
    · exact modBank hc (List.Subset.refl _)
    · exact refl s
  · exact refl s

theorem purgeStep (hc : b ≠ c) (coils : Coils) (step : Nat) (s : State) :
    Apart b s (State.purgeStep c coils step s) := by
  have hat : ∀ ends, Apart b s (s.atStep c step ends) := fun ends => modBank hc (List.Subset.refl _)
  unfold State.purgeStep
  split
  · exact hat none
  · refine (hat _).trans (foldl (fun t m _ => ?_) _)
    unfold State.stepMember
    split
    · exact refl t
    · exact drive hc t m _ coils

theorem beginStep1 (hc : b ≠ c) (coils : Coils) (s : State) :
    Apart b s (State.beginStep1 c coils s) := by
  have hat : ∀ ends, Apart b s (s.atStep c 1 ends) := fun ends => modBank hc (List.Subset.refl _)
  unfold State.beginStep1
  split
  · exact hat _
  · split
    · exact purgeStep hc coils 2 s
    · split
      · exact hat _
      · exact hat _

theorem retryStep (hc : b ≠ c) (coils : Coils) (s : State) : Apart b s (State.retryStep coils s c) := by
  unfold State.retryStep
  split
  · exact beginStep1 hc coils s
  · exact purgeStep hc coils 2 s
  · exact purgeStep hc coils 4 s
  · exact refl s

theorem shedEndBank (hc : b ≠ c) (coils : Coils) (s : State) :
    Apart b s (State.shedEndBank coils s c) :=
  (headTest hc s).trans (retryStep hc coils _)

theorem purgeTest (hc : b ≠ c) (coils : Coils) (s : State) : Apart b s (State.purgeTest coils s c) := by
  have hmember : ∀ (ends : Time) (t : State) (m : Member),
      Apart b t (State.purgeMember c ends coils t m) := by
    intro ends t m
    unfold State.purgeMember
    split
    · exact refl t
    · split
      · refine (drive hc t m ends coils).trans (modBank hc ?_)
        split <;> exact List.Subset.refl _
      · exact drive hc t m ends coils
  have hstart : ∀ kind, Apart b s (s.startPurge c kind coils) := by
    intro kind
    have hbegun : Apart b s (s.purgeBegun c kind) := by
      have hmod : Apart b s (s.modBank c fun k => { k with
          state := .purging kind (timePlus s.timeBase ((s.bankSettings c).tPG * 1000)) false }) :=
        modBank hc (List.Subset.refl _)
      cases kind with
      | forced => exact hmod.trans (setFlag _ _)
      | opportunistic => exact hmod
    have hall := hbegun.trans (foldl (l := allMembers) (fun t m _ =>
      hmember (timePlus s.timeBase ((s.bankSettings c).tPG * 1000)) t m) (s.purgeBegun c kind))
    cases kind <;> exact hall
  unfold State.purgeTest
  dsimp only
  split
  · split
    · exact hstart _
    · split
      · exact hstart _
      · exact refl s
  · exact refl s

end Apart

end Sys2Proof.Machine

/-!
SUPPORT. The end of SHED at each bank (8.1), GET and SET (9.7).
-/

namespace Sys2Proof.Machine

/-! ### The end of SHED (R116, R136, R144) -/

theorem State.shedEndBank_tied {s : State} (h : s.Tied) (coils : Coils) (b : BankId) :
    (State.shedEndBank coils s b).Tied :=
  ((PlantLaws.headTest s b).trans (PlantLaws.retryStep coils _ b)).tied h

theorem BankSide.shedEndBank (coils : Coils) (s : State) (b : BankId) :
    BankSide s (State.shedEndBank coils s b) :=
  (BankSide.headTest s b).trans (BankSide.retryStep coils _ b)

/-- The purge tests of all banks leave a bank that is not IDLE. -/
theorem State.bank_purgeTests {s : State} {b : BankId} (h : s.Tied) (hidle : (s.bank b).state ≠ .idle)
    (coils : Coils) : (s.purgeTests coils).bank b = s.bank b := by
  have hfold : ∀ (l : List BankId) (t : State), t.Tied → (t.bank b).state ≠ .idle →
      (l.foldl (State.purgeTest coils) t).bank b = t.bank b := by
    intro l
    induction l with
    | nil => exact fun _ _ _ => rfl
    | cons c l ih =>
      intro t ht hstate
      rw [List.foldl_cons]
      by_cases hc : b = c
      · subst hc
        rw [State.purgeTest_of_ne_idle hstate]
        exact ih t ht hstate
      · have hapart := Apart.purgeTest hc coils t
        have hbank := hapart.bank ht
        rw [ih _ (hapart.tied ht) (by rw [hbank]; exact hstate), hbank]
  exact hfold allBanks s h hidle

/-- What the end of SHED makes of a bank is what it makes of the bank by itself, if that is not IDLE. -/
theorem State.bank_shedEnd {s : State} {b : BankId} {coils : Coils} {v : Bank} (h : s.Tied)
    (hown : ∀ t, BankSide s t → t.bank b = s.bank b →
      (∀ m, t.faulty (nozzleOf b m) = s.faulty (nozzleOf b m)) →
      (State.shedEndBank coils t b).bank b = v)
    (hv : v.state ≠ .idle) : (s.shedEnd coils).bank b = v := by
  obtain ⟨earlier, later, hsplit⟩ := List.append_of_mem (mem_allBanks b)
  have hnodup := nodup_allBanks
  rw [hsplit] at hnodup
  obtain ⟨-, hlater, hapart⟩ := List.nodup_append.mp hnodup
  have hfirst : Apart b s (earlier.foldl (State.shedEndBank coils) s) :=
    .foldl (fun t c hc => .shedEndBank (fun heq => hapart c hc b List.mem_cons_self heq.symm) coils t) s
  have hside : BankSide s (earlier.foldl (State.shedEndBank coils) s) :=
    .foldl (BankSide.shedEndBank coils) earlier s
  have hbank := hown _ hside (hfirst.bank h) hfirst.faulty
  have htied := State.shedEndBank_tied (hfirst.tied h) coils b
  have hlast : Apart b (State.shedEndBank coils (earlier.foldl (State.shedEndBank coils) s) b)
      (later.foldl (State.shedEndBank coils)
        (State.shedEndBank coils (earlier.foldl (State.shedEndBank coils) s) b)) :=
    .foldl (fun t c hc => .shedEndBank
      (fun heq => (List.nodup_cons.mp hlater).1 (by rw [heq]; exact hc)) coils t) _
  have hend := (hlast.bank htied).trans hbank
  unfold State.shedEnd
  rw [hsplit, List.foldl_append, List.foldl_cons,
    State.bank_purgeTests (hlast.tied htied) (by rw [hend]; exact hv), hend]

theorem State.headTest_of_ne_idle {s : State} {b : BankId} (h : (s.bank b).state ≠ .idle) :
    s.headTest b = s := if_neg h

/-- An IDLE bank whose head is at the other level switches to it, with SHED over (R116). -/
theorem State.shedEndBank_idle {s : State} {b : BankId} {e : Entry} (hidle : (s.bank b).state = .idle)
    (hhead : (s.bank b).head? = some e) (hlevel : e.level ≠ (s.bank b).level) (hshed : s.shed = false)
    (coils : Coils) : State.shedEndBank coils s b = s.startSwitch b e.level := by
  have hwanted : s.switchWanted b = some e.level := by
    simp [State.switchWanted, hhead, hlevel, hshed]
  have hhead : s.headTest b = s.startSwitch b e.level := by
    unfold State.headTest
    rw [if_pos hidle, hwanted]
  unfold State.shedEndBank
  rw [hhead]
  refine State.retryStep_stands (fun step => ?_) coils
  unfold State.startSwitch
  rw [State.bank_modBank]
  exact BankState.noConfusion

/-- A bank held at a step that asks for HIGH begins it (R136). -/
theorem State.shedEndBank_held {s : State} {b : BankId} {step : Nat}
    (h : (s.bank b).state = .conditioning step none) (coils : Coils) :
    State.shedEndBank coils s b = State.retryStep coils s b := by
  unfold State.shedEndBank
  rw [State.headTest_of_ne_idle (by rw [h]; exact BankState.noConfusion)]

theorem State.retryStep_one {s : State} {b : BankId} (h : (s.bank b).state = .conditioning 1 none)
    (coils : Coils) : State.retryStep coils s b = State.beginStep1 b coils s := by
  simp only [State.retryStep, h]

theorem State.retryStep_purge {s : State} {b : BankId} {step : Nat} (hstep : step = 2 ∨ step = 4)
    (h : (s.bank b).state = .conditioning step none) (coils : Coils) :
    State.retryStep coils s b = State.purgeStep b coils step s := by
  rcases hstep with rfl | rfl <;> simp only [State.retryStep, h]

/-! ### GET (R165) -/

theorem execGet_taken {s : State} (hs : s.ready) (tag : Byte) {code q : Byte} {n : SettingName}
    (hn : nameSetting code q = .setting n) :
    exec (.get tag [code, q]) s =
      .next (closeEvent s (s.replied 0x83 tag (0x00 :: bytes4Int (s.settings.get n)))) := by
  show execGet tag _ s = _
  unfold execGet
  refine serve_taken hs rfl ?_
  simp only [byteAt, List.getD_cons_zero, List.getD_cons_succ, hn]

theorem execGet_refused {s : State} (hs : s.ready) (tag : Byte) {code q : Byte} {status : Status}
    (h : (nameSetting code q = .unknown ∧ status = .noSuch) ∨
      (nameSetting code q = .badQualifier ∧ status = .range)) :
    exec (.get tag [code, q]) s = .next (closeEvent s (s.replied 0x83 tag [status.code])) := by
  show execGet tag _ s = _
  unfold execGet
  refine serve_refused hs rfl ?_
  rcases h with ⟨h, rfl⟩ | ⟨h, rfl⟩ <;>
    simp only [byteAt, List.getD_cons_zero, List.getD_cons_succ, h]

/-! ### SET (R165, R166) -/

/-- The SET of a setting that is refused, with the status of the first test that refuses it. -/
theorem execSet_unnamed {s : State} (hs : s.ready) (tag : Byte) {code q b3 b2 b1 b0 : Byte}
    {status : Status} (h : (nameSetting code q = .unknown ∧ status = .noSuch) ∨
      (nameSetting code q = .badQualifier ∧ status = .range)) (coils : Coils) :
    exec (.set tag [code, q, b3, b2, b1, b0] coils) s =
      .next (closeEvent s (s.replied 0x84 tag [status.code])) := by
  show execSet tag _ coils s = _
  unfold execSet
  refine serve_refused hs rfl ?_
  rcases h with ⟨h, rfl⟩ | ⟨h, rfl⟩ <;>
    simp only [byteAt, List.getD_cons_zero, List.getD_cons_succ, h]

theorem execSet_refused {s : State} (hs : s.ready) (tag : Byte) {code q b3 b2 b1 b0 : Byte}
    {n : SettingName} (hn : nameSetting code q = .setting n) {status : Status}
    (h : ((n.setupOnly = true ∧ s.run ≠ .setup) ∧ status = .refusedState) ∨
      (¬(n.setupOnly = true ∧ s.run ≠ .setup) ∧ s.settingBusy n = true ∧ status = .refusedBusy) ∨
      (¬(n.setupOnly = true ∧ s.run ≠ .setup) ∧ s.settingBusy n = false ∧
        n.domain.take (read4 b3 b2 b1 b0).toInt = none ∧ status = .range)) (coils : Coils) :
    exec (.set tag [code, q, b3, b2, b1, b0] coils) s =
      .next (closeEvent s (s.replied 0x84 tag [status.code])) := by
  have hvalue : setValue [code, q, b3, b2, b1, b0] = (read4 b3 b2 b1 b0).toInt := rfl
  show execSet tag _ coils s = _
  unfold execSet
  refine serve_refused hs rfl ?_
  simp only [hvalue]
  simp only [byteAt, List.getD_cons_zero, List.getD_cons_succ, hn]
  rcases h with ⟨h, rfl⟩ | ⟨h, hbusy, rfl⟩ | ⟨h, hbusy, htake, rfl⟩
  · rw [if_pos h]
  · rw [if_neg h, if_pos hbusy]
  · rw [if_neg h, hbusy, htake]
    rfl

theorem execSet_taken {s : State} (hs : s.ready) (tag : Byte) {code q b3 b2 b1 b0 : Byte}
    {n : SettingName} (hn : nameSetting code q = .setting n)
    (hsetup : ¬(n.setupOnly = true ∧ s.run ≠ .setup)) (hbusy : s.settingBusy n = false) {v : Int}
    (htake : n.domain.take (read4 b3 b2 b1 b0).toInt =
      some (v, decide (v ≠ (read4 b3 b2 b1 b0).toInt))) (coils : Coils) :
    exec (.set tag [code, q, b3, b2, b1, b0] coils) s =
      .next (closeEvent s ((s.putSetting n v coils).replied 0x84 tag
        ((if v = (read4 b3 b2 b1 b0).toInt then 0x00 else 0x01) :: bytes4Int v))) := by
  have hvalue : setValue [code, q, b3, b2, b1, b0] = (read4 b3 b2 b1 b0).toInt := rfl
  show execSet tag _ coils s = _
  unfold execSet
  rw [serve_ready hs rfl]
  simp only [hvalue]
  simp only [byteAt, List.getD_cons_zero, List.getD_cons_succ, hn, if_neg hsetup, hbusy, htake]
  by_cases hv : v = (read4 b3 b2 b1 b0).toInt
  · simp [hv, Answer.reply, Status.taken, Status.code, State.replied]
  · simp [hv, Answer.reply, Status.taken, Status.code, State.replied]

/-- What SET makes of a value: the one of the domain that it is clamped to, or itself. -/
theorem Domain.take_eq {d : Domain} {v sent : Int} (hv : d.holds v = true)
    (hnumeric : ∀ lo hi, d = .numeric lo hi → v = max lo (min hi sent))
    (hcodes : ∀ count, d = .codes count → v = sent) : d.take sent = some (v, decide (v ≠ sent)) := by
  cases d with
  | codes count =>
    obtain rfl := hcodes count rfl
    simp only [Domain.holds, decide_eq_true_eq] at hv
    simp [Domain.take, hv]
  | numeric lo hi =>
    simp only [Domain.holds, decide_eq_true_eq] at hv
    have hclamp : clampInt lo hi sent = v := by
      rw [hnumeric lo hi rfl]
      unfold clampInt
      split
      · omega
      · split <;> omega
    simp [Domain.take, hclamp]

theorem Domain.take_codes_none {count : Nat} {sent : Int} (h : ¬(0 ≤ sent ∧ sent < count)) :
    (Domain.codes count).take sent = none := if_neg h

/-! ### What a new value does at once (R12, R16, R128, R142, R144) -/

/-- A taken value leaves the settings and the stored copy as the SET made them. -/
theorem State.settingTaken_settings (s before : State) (n : SettingName) (coils : Coils) :
    (s.settingTaken before n coils).settings = s.settings ∧
      (s.settingTaken before n coils).stored = s.stored := by
  unfold State.settingTaken
  split
  · split <;> exact ⟨rfl, rfl⟩
  · split <;> exact ⟨rfl, rfl⟩
  · split <;> exact ⟨rfl, rfl⟩
  · rename_i b
    have h := BankSide.purgeTest coils (s.modBank b fun k => k.capDebt (s.bankSettings b).maxDebt) b
    exact ⟨h.settings, h.stored⟩
  · have h := BankSide.afterShed s before.shed coils
    exact ⟨h.settings, h.stored⟩
  · exact ⟨rfl, rfl⟩

theorem State.settingTaken_later {n : SettingName} (hspeed : n ≠ .overspeedLimit)
    (hreverse : n ≠ .reverseLimit) (hloop : n ≠ .loopLength) (hpolicy : n ≠ .pressurePolicy)
    (hdebt : ∀ b, n ≠ .bank b .maxDebt) (s before : State) (coils : Coils) :
    s.settingTaken before n coils = s := by
  unfold State.settingTaken
  split
  case h_1 => exact absurd rfl hspeed
  case h_2 => exact absurd rfl hreverse
  case h_3 => exact absurd rfl hloop
  case h_4 b => exact absurd rfl (hdebt b)
  case h_5 => exact absurd rfl hpolicy
  case h_6 => rfl

/-- A condition that a limit of 0 ends. -/
theorem condition_ended_iff {v : Int} (hv : 0 ≤ v) (active : Bool) :
    (if v.toNat = 0 then false else active) = (active && decide (v ≠ 0)) := by
  by_cases h : v = 0
  · simp [h]
  · have hpos : v.toNat ≠ 0 := by omega
    simp [h, hpos]

theorem Domain.nonneg_of_holds {hi v : Int} (h : (Domain.numeric 0 hi).holds v = true) : 0 ≤ v := by
  simp only [Domain.holds, decide_eq_true_eq] at h
  exact h.1

theorem State.putSetting_overspeedLimit (s : State) {v : Int} (hv : 0 ≤ v) (coils : Coils) :
    s.putSetting .overspeedLimit v coils =
      { s with
        settings := s.settings.put .overspeedLimit v
        belt := { s.belt with overspeed := s.belt.overspeed && decide (v ≠ 0) } } := by
  rw [← condition_ended_iff hv]
  by_cases hzero : v.toNat = 0 <;> simp [State.putSetting, State.settingTaken, Settings.put, hzero]

theorem State.putSetting_reverseLimit (s : State) {v : Int} (hv : 0 ≤ v) (coils : Coils) :
    s.putSetting .reverseLimit v coils =
      { s with
        settings := s.settings.put .reverseLimit v
        belt := { s.belt with reverse := s.belt.reverse && decide (v ≠ 0) } } := by
  rw [← condition_ended_iff hv]
  by_cases hzero : v.toNat = 0 <;> simp [State.putSetting, State.settingTaken, Settings.put, hzero]

theorem State.putSetting_loopLength (s : State) {v : Int} (hv : 0 ≤ v) (coils : Coils) :
    s.putSetting .loopLength v coils =
      { s with
        settings := s.settings.put .loopLength v
        belt := { s.belt with slip := s.belt.slip && decide (v ≠ 0) } } := by
  rw [← condition_ended_iff hv]
  by_cases hzero : v.toNat = 0 <;> simp [State.putSetting, State.settingTaken, Settings.put, hzero]

theorem State.putSetting_maxDebt (s : State) (b : BankId) (v : Int) (coils : Coils) :
    s.putSetting (.bank b .maxDebt) v coils =
      State.purgeTest coils
        (({ s with settings := s.settings.put (.bank b .maxDebt) v } : State).setBank b
          { s.bank b with
            debt := min (s.bank b).debt v.toNat
            due := decide (v.toNat ≤ (s.bank b).debt) }) b := by
  have hmax : (({ s with settings := s.settings.put (.bank b .maxDebt) v } : State).bankSettings
      b).maxDebt = v.toNat := by
    simp [State.bankSettings, Settings.put, BankSettings.put]
  simp only [State.putSetting, State.settingTaken, hmax, State.modBank_eq]
  rfl

theorem shed_put_pressurePolicy (s : State) (v : Int) :
    ({ s with settings := s.settings.put .pressurePolicy v } : State).shed =
      (s.flag .pressureLow && decide (v = 1)) := by
  have hpolicy : (pressurePolicyOf v = .shed) ↔ v = 1 := by
    unfold pressurePolicyOf
    split
    · simp
    · simp
    · rename_i hone
      simpa using hone
  simp only [State.shed, Settings.put, hpolicy]
  rfl

/-- A policy that keeps SHED, or comes without SHED, acts from its next use. -/
theorem State.putSetting_pressurePolicy {s : State} {v : Int} (h : s.shed = false ∨ v = 1)
    (coils : Coils) :
    s.putSetting .pressurePolicy v coils =
      { s with settings := s.settings.put .pressurePolicy v } := by
  refine if_neg fun hends => ?_
  obtain ⟨hwas, hnow⟩ := hends
  rw [shed_put_pressurePolicy] at hnow
  rcases h with h | rfl
  · simp [h] at hwas
  · simp only [State.shed, Bool.and_eq_true] at hwas
    simp [hwas.1] at hnow

theorem State.putSetting_shedEnd {s : State} {v : Int} (hshed : s.shed = true) (hv : v ≠ 1)
    (coils : Coils) :
    s.putSetting .pressurePolicy v coils =
      ({ s with settings := s.settings.put .pressurePolicy v } : State).shedEnd coils :=
  if_pos ⟨hshed, by rw [shed_put_pressurePolicy]; simp [hv]⟩

/-! ### The banks at the end of SHED (R116, R136) -/

section ShedEnd

variable {s : State} {b : BankId} {coils : Coils}

theorem State.bank_shedEnd_idle (h : s.Tied) (hshed : s.shed = false) {e : Entry}
    (hidle : (s.bank b).state = .idle) (hhead : (s.bank b).head? = some e)
    (hlevel : e.level ≠ (s.bank b).level) :
    (s.shedEnd coils).bank b = { s.bank b with
      state := .switching e.level (timePlus s.timeBase ((s.bankSettings b).tSW * 1000)) } := by
  refine State.bank_shedEnd h (fun t hside hbank _ => ?_) BankState.noConfusion
  rw [State.shedEndBank_idle (by rw [hbank, hidle]) (by rw [hbank, hhead]) (by rw [hbank]; exact hlevel)
    (by rw [hside.shed, hshed])]
  unfold State.startSwitch State.bankSettings
  rw [State.bank_modBank, hbank, hside.timeBase, hside.settings]

theorem State.bank_shedEnd_one (h : s.Tied) (hshed : s.shed = false)
    (hstate : (s.bank b).state = .conditioning 1 none) (hfire : s.fireEnable = true)
    (hlow : (s.bank b).level = .low) :
    (s.shedEnd coils).bank b = { s.bank b with
      state := .conditioning 1 (some (timePlus s.timeBase ((s.bankSettings b).tSW * 1000))) } := by
  refine State.bank_shedEnd h (fun t hside hbank _ => ?_) BankState.noConfusion
  rw [← hbank] at hstate hlow
  rw [State.shedEndBank_held hstate, State.retryStep_one hstate,
    State.beginStep1_low (by rw [hside.fireEnable, hfire]) hlow (by rw [hside.shed, hshed]),
    State.bank_setBank, hbank, hside.timeBase]
  unfold State.bankSettings
  rw [hside.settings]

theorem State.bank_shedEnd_purge (h : s.Tied) (hshed : s.shed = false) {step : Nat}
    (hstep : step = 2 ∨ step = 4) (hstate : (s.bank b).state = .conditioning step none)
    (hfire : s.fireEnable = true)
    (hsound : ∀ m : Member, s.faulty (nozzleOf b m) = false ∧ coilGood coils b m = true) :
    (s.shedEnd coils).bank b = (s.bank b).driven
      (.conditioning step (some (timePlus s.timeBase ((s.bankSettings b).tPG * 1000))))
      (timePlus s.timeBase ((s.bankSettings b).tPG * 1000)) := by
  refine State.bank_shedEnd h (fun t hside hbank hfaulty => ?_) BankState.noConfusion
  rw [← hbank] at hstate
  have ht : t.Sound b coils allMembers :=
    ⟨by rw [hside.fireEnable, hfire], fun m _ => by rw [hfaulty, (hsound m).1],
      fun m _ => (hsound m).2⟩
  rw [State.shedEndBank_held hstate, State.retryStep_purge hstep hstate,
    (State.purgeStep_drives (by rw [hside.shed, hshed]) ht step).bank, hbank, hside.timeBase]
  unfold State.bankSettings
  rw [hside.settings]

end ShedEnd

end Sys2Proof.Machine

namespace Sys2Proof.Laws.Settings

open Sys2Proof Sys2Proof.Machine

/-- Settles O49: GET by the name, SET by its tests in order, then what each kind of value does. -/
theorem getAndSet : Obligations.GetAndSet := by
  unfold Obligations.GetAndSet
  refine ⟨fun tag code q s hs => ⟨fun n hn => execGet_taken hs tag hn,
      fun hn => execGet_refused (status := .noSuch) hs tag (.inl ⟨hn, rfl⟩),
      fun hn => execGet_refused (status := .range) hs tag (.inr ⟨hn, rfl⟩)⟩,
    fun tag code q b3 b2 b1 b0 coils s hs =>
      ⟨fun hn => execSet_unnamed (status := .noSuch) hs tag (.inl ⟨hn, rfl⟩) coils,
        fun hn => execSet_unnamed (status := .range) hs tag (.inr ⟨hn, rfl⟩) coils,
        fun n hn => ⟨fun honly hrun => execSet_refused (status := .refusedState) hs tag hn
            (.inl ⟨⟨honly, hrun⟩, rfl⟩) coils,
          fun hsetup hbusy => execSet_refused (status := .refusedBusy) hs tag hn
            (.inr (.inl ⟨hsetup, hbusy, rfl⟩)) coils,
          fun hsetup hbusy => ⟨fun count hdomain hcode => ?_,
            fun v hholds hnumeric hcodes => ?_⟩⟩⟩⟩
  · refine execSet_refused (status := .range) hs tag hn (.inr (.inr ⟨hsetup, hbusy, ?_, rfl⟩)) coils
    rw [hdomain]
    exact Domain.take_codes_none hcode
  · have hexec := execSet_taken hs tag hn hsetup hbusy (Domain.take_eq hholds hnumeric hcodes) coils
    have hkept := State.settingTaken_settings { s with settings := s.settings.put n v } s n coils
    dsimp only
    rw [hexec]
    refine ⟨fun hspeed hreverse hloop hpolicy hdebt => ?_, ⟨_, rfl, hkept⟩, ?_, ?_, ?_, ?_, ?_⟩
    · unfold State.putSetting
      rw [State.settingTaken_later hspeed hreverse hloop hpolicy hdebt]
    · rintro rfl
      rw [State.putSetting_overspeedLimit s (Domain.nonneg_of_holds hholds)]
    · rintro rfl
      rw [State.putSetting_reverseLimit s (Domain.nonneg_of_holds hholds)]
    · rintro rfl
      rw [State.putSetting_loopLength s (Domain.nonneg_of_holds hholds)]
    · rintro b rfl
      rw [State.putSetting_maxDebt]
    · rintro rfl
      refine ⟨fun h => by rw [State.putSetting_pressurePolicy h], fun hshed hv => ?_⟩
      rw [State.putSetting_shedEnd hshed hv]
      have hside : BankSide _ _ := .shedEnd { s with settings := s.settings.put .pressurePolicy v } coils
      have hover : ({ s with settings := s.settings.put .pressurePolicy v } : State).shed = false := by
        rw [shed_put_pressurePolicy]
        simp [hv]
      refine ⟨_, rfl, .of_bankSide hside, by rw [hside.shed, hover], fun hids hopen b => ?_⟩
      have htied : ({ s with settings := s.settings.put .pressurePolicy v } : State).Tied :=
        ⟨hids, hopen⟩
      have hidle := fun e => State.bank_shedEnd_idle (b := b) (coils := coils) (e := e) htied hover
      have hone := State.bank_shedEnd_one (b := b) (coils := coils) htied hover
      have hpurge := fun step => State.bank_shedEnd_purge (b := b) (coils := coils) (step := step)
        htied hover
      have hsame : ({ s with settings := s.settings.put .pressurePolicy v } : State).bankSettings b =
        s.bankSettings b := rfl
      rw [hsame] at hone
      simp only [hsame] at hidle hpurge
      exact ⟨hidle, hone, hpurge⟩

end Sys2Proof.Laws.Settings

/-!
SUPPORT. The only entry of a bank: its change in place, its loss, its waves and its opening (6.4, 6.5), and
what no coil check can change while it is at work.
-/

namespace Sys2Proof.Machine

/-! ### The only entry of a bank -/

section Only

variable {s : State} {b : BankId} {e : Entry}

theorem State.entry?_only (h : (s.bank b).queue = [e]) : s.entry? b e.track = some e := by
  simp [State.entry?, h]

theorem State.modEntry_only (h : (s.bank b).queue = [e]) (f : Entry → Entry) :
    s.modEntry b e.track f = s.setBank b { s.bank b with queue := [f e] } := by
  simp [State.modEntry, State.modBank_eq, h]

theorem State.head?_only (h : (s.bank b).queue = [e]) (he : e.state ≠ .opened) :
    (s.bank b).head? = some e := by
  simp [Bank.head?, h, he]

end Only

/-! ### A loss (R102, R118) -/

/-- The store after a bank's report of a result for a record in work. -/
def Store.afterReport (st : Store) (before : List Record) (r : Record) (after : List Record) (plan : Plan)
    (b : BankId) (result : PartResult) (level : Option Level) : Store :=
  { st with
    records := before ++ r.reported plan b result level :: after
    globals := match result with
      | .lost c => st.globals.count c
      | _ => st.globals }

/-- A record of the store, in work, with a part on a bank that awaits its result, and its trailing edge
not crossed (R52, R56). -/
structure State.Serves (s : State) (before : List Record) (r : Record) (after : List Record) (plan : Plan)
    (b : BankId) (old : PartResult) : Prop where
  holds : s.Holds before r after
  written : r.plan = some plan
  work : r.state = .planned ∨ r.state = .firing
  awaits : plan.awaits b old
  edge : s.edgePassed r = false

namespace State.Serves

variable {s t : State} {before after : List Record} {r : Record} {plan : Plan} {b : BankId}
  {old : PartResult}

theorem report (h : s.Serves before r after plan b old) (hold : old.final = false) (result : PartResult)
    (level : Option Level) : s.reportPart r.id b result level =
      { s with store := s.store.afterReport before r after plan b result level } :=
  h.holds.reportPart h.written h.work h.awaits hold h.edge result level

theorem of_same (h : s.Serves before r after plan b old) (hstore : t.store = s.store)
    (htc : t.belt.tc = s.belt.tc) : t.Serves before r after plan b old where
  holds := ⟨by rw [hstore]; exact h.holds.records, h.holds.alone⟩
  written := h.written
  work := h.work
  awaits := h.awaits
  edge := by
    unfold State.edgePassed
    rw [htc]
    exact h.edge

end State.Serves

/-- The loss of a bank's only entry: the queue is empty, the part reported, and INHIBITED set by that
cause. -/
theorem State.loseEntry_only {s : State} {before after : List Record} {r : Record} {plan : Plan}
    {b : BankId} {old : PartResult} {e : Entry} (h : s.Serves before r after plan b old)
    (hold : old.final = false) (hqueue : (s.bank b).queue = [e]) (hid : r.id = e.track) (cause : Cause) :
    ∃ cursors flags, s.loseEntry b e.track cause =
      { s.setBank b { s.bank b with queue := [] } with
        store := s.store.afterReport before r after plan b (.lost cause) none
        cursors := cursors, flags := flags } ∧
      (cause = .inhibited → flags.getLsbD (Flag.position .inhibited) = true) := by
  have hremoved : s.removeEntry b e.track =
      (s.setBank b { s.bank b with queue := [] }).setPulsesCursor b
        (s.cursors.pulses[b].leave (s.bank b).keys e.track.toNat) := by
    simp [State.removeEntry, State.modBank_eq, hqueue]
  have hserves : (s.removeEntry b e.track).Serves before r after plan b old := by
    rw [hremoved]
    exact h.of_same rfl rfl
  have hreport := hserves.report hold (.lost cause) none
  rw [hid, hremoved] at hreport
  unfold State.loseEntry State.finishEntry
  rw [hremoved, hreport]
  by_cases hc : cause = .inhibited
  · subst hc
    exact ⟨_, _, rfl, fun _ => (State.flag_setFlag _ .inhibited .inhibited).trans (by simp)⟩
  · exact ⟨_, _, by rw [State.setFlagIf, decide_eq_false hc]; rfl, fun h => absurd h hc⟩

/-! ### Waves (R112) -/

/-- When a nozzle that a wave opens closes: an open one at the later of the two times. -/
def extended (present : Option Time) (closing : Time) : Time :=
  match present with
  | some t => laterOf t closing
  | none => closing

theorem extended_extended (present : Option Time) (closing : Time) :
    extended (some (extended present closing)) closing = extended present closing := by
  have hself : laterOf closing closing = closing := by simp [laterOf]
  cases present with
  | none => exact hself
  | some t =>
    show laterOf (laterOf t closing) closing = laterOf t closing
    by_cases h : atOrPast t closing = true
    · have hlater : laterOf t closing = t := if_pos h
      rw [hlater, hlater]
    · have hlater : laterOf t closing = closing := if_neg h
      rw [hlater, hself]

/-- The nozzles of a bank after a wave. -/
def extendAll (closing : Time) (nozzles : Vector (Option Time) 8) (l : List Member) :
    Vector (Option Time) 8 :=
  l.foldl (fun v (m : Member) => v.set m (some (extended v[m] closing))) nozzles

theorem getElem_extendAll (closing : Time) (nozzles : Vector (Option Time) 8) (l : List Member)
    (m : Member) : (extendAll closing nozzles l)[m] =
      if m ∈ l then some (extended nozzles[m] closing) else nozzles[m] := by
  induction l generalizing nozzles with
  | nil => simp [extendAll]
  | cons x l ih =>
    refine (ih (nozzles.set x (some (extended nozzles[x] closing)))).trans ?_
    by_cases hx : m = x
    · subst hx
      simp [extended_extended]
    · have hval : ¬x.val = m.val := fun h => hx (Fin.ext h.symm)
      simp [hx, hval]

/-- The nozzles of a bank with none of them open, after a wave. -/
theorem getElem_extendAll_closed {nozzles : Vector (Option Time) 8} (closing : Time) (l : List Member)
    {m : Member} (h : nozzles[m].isSome = false) :
    (extendAll closing nozzles l)[m] = if m ∈ l then some closing else none := by
  have hnone : nozzles[m] = none := by simpa using h
  rw [getElem_extendAll, hnone]
  rfl

/-- A bank after a wave of its only entry opened these members. -/
def Bank.waved (e : Entry) (closing : Time) (l : List Member) (k : Bank) : Bank :=
  { k with
    nozzles := extendAll closing k.nozzles l
    queue := [{ e with hit := e.hit || decide (l ≠ []) }] }

theorem State.openNozzle_drives (s : State) (b : BankId) (m : Member) (closing : Time) :
    s.Drives (s.openNozzle b m closing) b fun k =>
      { k with nozzles := k.nozzles.set m (some closing) } := .modBank s b _

theorem State.markHit_drives (s : State) (b : BankId) (id : TrackId) :
    s.Drives (s.markHit b id) b fun k => { k with
      queue := k.queue.map fun e => if e.track = id then { e with hit := true } else e } :=
  ⟨rfl, fun _ => rfl⟩

/-- One healthy member with a good coil at a wave. -/
theorem State.waveMember_drives {s : State} {b : BankId} {id : TrackId} {coils : Coils} {m : Member}
    (h : s.Sound b coils [m]) (closing : Time) :
    s.Drives (State.waveMember b id closing coils s m) b fun k => { k with
      nozzles := k.nozzles.set m (some (extended k.nozzles[m] closing))
      queue := k.queue.map fun e => if e.track = id then { e with hit := true } else e } := by
  have hhealthy : ¬s.faulty (nozzleOf b m) = true := by simp [h.healthy m (by simp)]
  have hcoil := h.coil m (by simp)
  unfold State.waveMember
  rw [if_neg hhealthy]
  split
  · rename_i present hpresent
    exact ((s.openNozzle_drives b m _).trans (State.markHit_drives _ b id)).congr
      (by simp only [hpresent, extended])
  · rename_i hclosed
    have hopens : s.driveOpens b m coils = true := by simp [State.driveOpens, h.fireEnable, hcoil]
    rw [if_pos hopens]
    exact ((State.drive_good h.fireEnable hcoil closing).trans (State.markHit_drives _ b id)).congr
      (by simp only [hclosed, extended])

/-- The members of a wave one after another, for the bank's only entry. -/
theorem foldl_waved (closing : Time) (e : Entry) (l : List Member) (k : Bank) (hk : k.queue = [e]) :
    l.foldl (fun k (m : Member) => { k with
      nozzles := k.nozzles.set m (some (extended k.nozzles[m] closing))
      queue := k.queue.map fun x => if x.track = e.track then { x with hit := true } else x }) k =
      k.waved e closing l := by
  induction l generalizing k e with
  | nil =>
    cases k
    cases hk
    simp [Bank.waved, extendAll]
  | cons m l ih =>
    rw [List.foldl_cons]
    refine (ih { e with hit := true } _ (by simp [hk])).trans ?_
    simp [Bank.waved, extendAll]

/-- The next wave of a bank's only entry, its members healthy with good coils (R112). -/
theorem State.openWave_drives {s : State} {b : BankId} {e : Entry} {p : PulseRun} {coils : Coils}
    (h : s.Sound b coils allMembers) (hqueue : (s.bank b).queue = [e]) (hpulse : e.pulse = some p) :
    s.Drives (s.openWave b e.track coils) b fun k =>
      k.waved { e with pulse := some { p with wavesOpened := p.wavesOpened + 1 } }
        (timePlus s.timeBase (p.duration * 500))
        (waveMembers (s.bankSettings b).openOrder (s.bankSettings b).mso e.mask p.wavesOpened) := by
  have hwave := State.foldl_drives
    (l := waveMembers (s.bankSettings b).openOrder (s.bankSettings b).mso e.mask p.wavesOpened)
    (s := s.modEntry b e.track fun e => { e with
      pulse := some { p with wavesOpened := p.wavesOpened + 1 } })
    (fun t m ht => State.waveMember_drives (id := e.track) ht (timePlus s.timeBase (halfMs p.duration)))
    (coils := coils) (b := b)
    ⟨h.fireEnable, fun m _ => h.healthy m (mem_allMembers m), fun m _ => h.coil m (mem_allMembers m)⟩
  unfold State.openWave
  rw [State.entry?_only hqueue]
  simp only [hpulse]
  refine ((State.Drives.modBank s b _).trans hwave).congr ?_
  refine foldl_waved _ { e with pulse := some { p with wavesOpened := p.wavesOpened + 1 } } _ _ ?_
  simp [hqueue]

/-- An entry that opens now for a duration, with so many of its waves opened (R102, R112, R113). -/
def Entry.begun (e : Entry) (st : BankSettings) (now : Time) (duration opened : Nat) : Entry :=
  { e with
    state := .opened
    pulse := some
      { duration := duration, firstWave := now, wavesOpened := opened
        expiry := timePlus now (((e.waves - 1) * st.waveGap + duration) * 500) } }

/-- A bank whose only entry opens for a duration, with its first wave (R102, R112). -/
def State.openedBank (s : State) (b : BankId) (e : Entry) (duration : Nat) : Bank :=
  ({ s.bank b with state := .opened } : Bank).waved
    (e.begun (s.bankSettings b) s.timeBase duration 1) (timePlus s.timeBase (duration * 500))
    (waveMembers (s.bankSettings b).openOrder (s.bankSettings b).mso e.mask 0)

/-- The state of a bank whose only entry opens, before its first wave. -/
def State.opening (s : State) (b : BankId) (e : Entry) (duration : Nat) (st : Store) : State :=
  { s.setBank b { s.bank b with
      state := .opened
      queue := [e.begun (s.bankSettings b) s.timeBase duration 0] } with store := st }

/-- The opening of a bank's only entry is reported, and its first wave opens (R102, R109, R117). -/
theorem State.openEntry_only {s : State} {before after : List Record} {r : Record} {plan : Plan}
    {b : BankId} {old : PartResult} {e : Entry} (h : s.Serves before r after plan b old)
    (hold : old.final = false) (hqueue : (s.bank b).queue = [e]) (hid : r.id = e.track)
    (duration : Nat) (coils : Coils) :
    s.openEntry b e.track duration coils =
      (s.opening b e duration (s.store.afterReport before r after plan b .opened (some e.level))).openWave
        b e.track coils := by
  have hserves : (s.opening b e duration s.store).Serves before r after plan b old :=
    h.of_same rfl rfl
  have hreport := hserves.report hold .opened (some e.level)
  rw [hid] at hreport
  unfold State.openEntry
  rw [State.entry?_only hqueue]
  dsimp only
  rw [State.modEntry_only hqueue, State.modBank_eq, State.setBank_setBank, State.bank_setBank]
  exact congrArg (fun t => State.openWave t b e.track coils) hreport

/-- With healthy closed nozzles and good coils its first wave opens whole. -/
theorem State.openEntry_opened {s : State} {before after : List Record} {r : Record} {plan : Plan}
    {b : BankId} {old : PartResult} {e : Entry} {coils : Coils} (h : s.Serves before r after plan b old)
    (hold : old.final = false) (hqueue : (s.bank b).queue = [e]) (hid : r.id = e.track)
    (hsound : s.Sound b coils allMembers) (duration : Nat) :
    (s.openEntry b e.track duration coils).bank b = s.openedBank b e duration ∧
      (s.openEntry b e.track duration coils).store =
        s.store.afterReport before r after plan b .opened (some e.level) ∧
      (s.openEntry b e.track duration coils).run = s.run := by
  have hbank : ∀ st, (s.opening b e duration st).bank b = { s.bank b with
      state := .opened, queue := [e.begun (s.bankSettings b) s.timeBase duration 0] } :=
    fun st => State.bank_setBank s b _
  have hwave := State.openWave_drives (s := s.opening b e duration
      (s.store.afterReport before r after plan b .opened (some e.level))) (b := b)
    (e := e.begun (s.bankSettings b) s.timeBase duration 0) (coils := coils)
    ⟨hsound.fireEnable, hsound.healthy, hsound.coil⟩ (congrArg Bank.queue (hbank _)) rfl
  rw [State.openEntry_only h hold hqueue hid]
  refine ⟨?_, hwave.store, hwave.run⟩
  refine hwave.bank.trans ?_
  rw [hbank]
  rfl

end Sys2Proof.Machine

/-!
SUPPORT. A bank at work on the one record its entries belong to, whose trailing edge has not crossed: the
record stays, so no other bank and no run state changes, whatever the coils do (R56, R57, R151).
-/

namespace Sys2Proof.Machine

/-- All entries of a bank belong to one record, which the store holds once and does not retire yet. -/
structure State.Working (s : State) (b : BankId) (id : TrackId) : Prop where
  entries : ∀ e ∈ (s.bank b).queue, e.track = id
  stays : ∃ before r after, (s.store.records = before ++ r :: after ∧ ∀ x ∈ before ++ after, x.id ≠ r.id) ∧
    r.id = id ∧ s.edgePassed r = false

/-- The outcome rule of a record that stays moves the store alone, and the record stays. -/
theorem State.Holds.outcomeRule_stays {s : State} {before after : List Record} {r : Record}
    (h : s.Holds before r after) (hedge : s.edgePassed r = false) :
    ∃ st q, s.outcomeRule r.id = { s with store := st } ∧ st.records = before ++ q :: after ∧
      q.id = r.id ∧ s.edgePassed q = false := by
  have hsame : ∃ st q, s = { s with store := st } ∧ st.records = before ++ q :: after ∧
      q.id = r.id ∧ s.edgePassed q = false := ⟨s.store, r, rfl, h.records, rfl, hedge⟩
  unfold State.outcomeRule
  rw [h.record?]
  dsimp only
  split
  · exact hsame
  · split
    · rw [h.endRecord hedge]
      exact ⟨_, _, rfl, rfl, rfl, hedge⟩
    · exact hsame

/-- So does a report for it (R52, R102). -/
theorem State.Holds.reportPart_stays {s : State} {before after : List Record} {r : Record}
    (h : s.Holds before r after) (hedge : s.edgePassed r = false) (b : BankId) (result : PartResult)
    (level : Option Level) :
    ∃ st q, s.reportPart r.id b result level = { s with store := st } ∧
      st.records = before ++ q :: after ∧ q.id = r.id ∧ s.edgePassed q = false := by
  have hwritten : ∀ g : GlobalTally, ∃ st q,
      (({ s with store := { s.store with
        records := before ++ r.report b result level :: after
        globals := g } } : State).outcomeRule r.id) = { s with store := st } ∧
      st.records = before ++ q :: after ∧ q.id = r.id ∧ s.edgePassed q = false := fun g =>
    (h.change (t := { s with store := { s.store with
      records := before ++ r.report b result level :: after, globals := g } }) rfl rfl).outcomeRule_stays hedge
  unfold State.reportPart
  rw [h.record?]
  dsimp only
  split
  · rw [h.modRecord]
    split
    · exact hwritten _
    · exact hwritten s.store.globals
  · exact ⟨s.store, r, rfl, h.records, rfl, hedge⟩

/-- `t` is `s` after work of a bank on the record of its entries. -/
structure WorksOn (b : BankId) (id : TrackId) (s t : State) : Prop where
  working : s.Working b id → t.Working b id
  bank_ne : s.Working b id → ∀ c, c ≠ b → t.bank c = s.bank c
  run : s.Working b id → s.run ≠ .conditioning → t.run = s.run
  debt : s.Working b id → (s.bank b).debt = 0 → (t.bank b).debt = 0

namespace WorksOn

variable {b : BankId} {id : TrackId}

theorem refl (s : State) : WorksOn b id s s := ⟨fun h => h, fun _ _ _ => rfl, fun _ _ => rfl, fun _ h => h⟩

theorem trans {s t u : State} (h : WorksOn b id s t) (k : WorksOn b id t u) : WorksOn b id s u where
  working x := k.working (h.working x)
  bank_ne x c hc := (k.bank_ne (h.working x) c hc).trans (h.bank_ne x c hc)
  run x hrun := (k.run (h.working x) (by rw [h.run x hrun]; exact hrun)).trans (h.run x hrun)
  debt x hdebt := k.debt (h.working x) (h.debt x hdebt)

theorem foldl {α : Type} {f : State → α → State} {l : List α} (h : ∀ t, ∀ a ∈ l, WorksOn b id t (f t a))
    (s : State) : WorksOn b id s (l.foldl f s) := by
  induction l generalizing s with
  | nil => exact refl s
  | cons a l ih =>
    exact (h s a List.mem_cons_self).trans (ih (fun t x hx => h t x (List.mem_cons_of_mem a hx)) _)

/-- A change of flags, health, cursors or the like. -/
theorem of_same {s t : State} (hstore : t.store = s.store) (htc : t.belt.tc = s.belt.tc)
    (hbanks : t.banks = s.banks) (hrun : t.run = s.run) : WorksOn b id s t where
  working h := by
    obtain ⟨before, r, after, hholds, hid, hedge⟩ := h.stays
    refine ⟨?_, before, r, after, by rw [hstore]; exact hholds, hid, ?_⟩
    · rw [State.bank_of_banks hbanks]
      exact h.entries
    · unfold State.edgePassed
      rw [htc]
      exact hedge
  bank_ne _ c _ := State.bank_of_banks hbanks c
  run _ _ := hrun
  debt _ hdebt := by
    rw [State.bank_of_banks hbanks]
    exact hdebt

theorem setFlag (s : State) (f : Flag) : WorksOn b id s (s.setFlag f) := of_same rfl rfl rfl rfl

theorem setNozzle (s : State) (n : NozzleId) (v : Nozzle) : WorksOn b id s (s.setNozzle n v) :=
  of_same rfl rfl rfl rfl

theorem setPulsesCursor (s : State) (v : Cursor) : WorksOn b id s (s.setPulsesCursor b v) :=
  of_same rfl rfl rfl rfl

/-- A change of the bank that brings no entry of another record and no debt. -/
theorem modBank {s : State} {f : Bank → Bank}
    (hqueue : ∀ e ∈ (f (s.bank b)).queue, ∃ x ∈ (s.bank b).queue, x.track = e.track)
    (hdebt : (s.bank b).debt = 0 → (f (s.bank b)).debt = 0) : WorksOn b id s (s.modBank b f) where
  working h := by
    refine ⟨fun e he => ?_, h.stays⟩
    rw [State.bank_modBank] at he
    obtain ⟨x, hx, htrack⟩ := hqueue e he
    rw [← htrack]
    exact h.entries x hx
  bank_ne _ c hc := State.bank_modBank_ne s f hc
  run _ _ := rfl
  debt _ h := by
    rw [State.bank_modBank]
    exact hdebt h

theorem modEntry (s : State) (track : TrackId) {f : Entry → Entry} (hf : ∀ e, (f e).track = e.track) :
    WorksOn b id s (s.modEntry b track f) := by
  refine modBank (fun e he => ?_) fun h => h
  obtain ⟨x, hx, rfl⟩ := List.mem_map.mp he
  refine ⟨x, hx, ?_⟩
  split
  · exact (hf x).symm
  · rfl

theorem reportPart (s : State) (c : BankId) (result : PartResult) (level : Option Level) :
    WorksOn b id s (s.reportPart id c result level) := by
  have hstore : s.Working b id → ∃ st, s.reportPart id c result level = { s with store := st } ∧
      ∃ before q after, st.records = before ++ q :: after ∧ (∀ x ∈ before ++ after, x.id ≠ q.id) ∧
        q.id = id ∧ s.edgePassed q = false := by
    intro h
    obtain ⟨before, r, after, ⟨hrecords, halone⟩, rfl, hedge⟩ := h.stays
    obtain ⟨st, q, heq, hafter, hid, hpassed⟩ :=
      (State.Holds.mk hrecords halone).reportPart_stays hedge c result level
    exact ⟨st, heq, before, q, after, hafter, by rw [hid]; exact halone, hid, hpassed⟩
  constructor
  · intro h
    obtain ⟨st, heq, before, q, after, hrecords, halone, hid, hedge⟩ := hstore h
    rw [heq]
    exact ⟨h.entries, before, q, after, ⟨hrecords, halone⟩, hid, hedge⟩
  · intro h d _
    obtain ⟨st, heq, -⟩ := hstore h
    rw [heq]
    rfl
  · intro h _
    obtain ⟨st, heq, -⟩ := hstore h
    rw [heq]
  · intro h hdebt
    obtain ⟨st, heq, -⟩ := hstore h
    rw [heq]
    exact hdebt

theorem readinessTest (s : State) : WorksOn b id s s.readinessTest := by
  unfold State.readinessTest
  split
  · rename_i h
    exact ⟨fun hw => ⟨hw.entries, hw.stays⟩, fun _ _ _ => rfl, fun _ hrun => absurd h.1 hrun,
      fun _ hdebt => hdebt⟩
  · exact refl s

/-- The fence of the bank reports its entries, all of the record (R119). -/
theorem fenceBank (s : State) : WorksOn b id s (s.fenceBank b) := by
  by_cases hentries : ∀ e ∈ (s.bank b).queue, e.track = id
  · unfold State.fenceBank
    split
    · exact refl s
    · have hfenced : WorksOn b id s (s.modBank b Bank.fencedBank) :=
        modBank (fun e he => absurd he (List.not_mem_nil)) fun _ => rfl
      refine ((hfenced.trans (setPulsesCursor _ _)).trans (foldl (fun t e he => ?_) _)).trans
        (readinessTest _)
      rw [hentries e he]
      exact reportPart t b _ _
  · exact ⟨fun h => absurd h.entries hentries, fun h => absurd h.entries hentries,
      fun h => absurd h.entries hentries, fun h => absurd h.entries hentries⟩

theorem autoFence (s : State) : WorksOn b id s (s.autoFence b) := by
  unfold State.autoFence
  split
  · exact (fenceBank s).trans (setFlag _ _)
  · exact refl s

theorem drive (s : State) (m : Member) (closing : Time) (coils : Coils) :
    WorksOn b id s (s.drive b m closing coils) := by
  unfold State.drive
  split
  · split
    · exact (modBank (fun e he => ⟨e, he, rfl⟩) fun h => h).trans (setNozzle _ _ _)
    · unfold State.badCheck
      dsimp only
      split
      · exact ((setNozzle _ _ _).trans (setFlag _ _)).trans (autoFence _)
      · exact setNozzle _ _ _
  · exact refl s

theorem openWave (s : State) (track : TrackId) (coils : Coils) :
    WorksOn b id s (s.openWave b track coils) := by
  have hmark : ∀ t : State, WorksOn b id t (t.markHit b track) := fun t => modEntry t track fun _ => rfl
  unfold State.openWave
  split
  · exact refl s
  · split
    · exact refl s
    · refine WorksOn.trans (modEntry s track ?_) (foldl (fun t m _ => ?_) _)
      · exact fun _ => rfl
      unfold State.waveMember
      split
      · exact refl t
      · split
        · exact (modBank (fun e he => ⟨e, he, rfl⟩) fun h => h).trans (hmark _)
        · split
          · exact (drive t m _ coils).trans (hmark _)
          · exact drive t m _ coils

end WorksOn

end Sys2Proof.Machine

/-!
SUPPORT. A trigger reached at a forward count, row by row (6.4).
-/

namespace Sys2Proof.Machine

/-! ### Work on the record of a bank's entries -/

namespace WorksOn

variable {b : BankId} {id : TrackId}

theorem startSwitch (s : State) (target : Level) : WorksOn b id s (s.startSwitch b target) :=
  modBank (fun e he => ⟨e, he, rfl⟩) fun h => h

theorem headTest (s : State) : WorksOn b id s (s.headTest b) := by
  unfold State.headTest
  split
  · split
    · exact startSwitch s _
    · exact refl s
  · exact refl s

theorem openEntry (s : State) (duration : Nat) (coils : Coils) :
    WorksOn b id s (s.openEntry b id duration coils) := by
  unfold State.openEntry
  split
  · exact refl s
  · refine WorksOn.trans (WorksOn.trans (WorksOn.trans (modEntry s id ?_) (modBank ?_ ?_))
      (reportPart _ b _ _)) (openWave _ id coils)
    · exact fun _ => rfl
    · exact fun e he => ⟨e, he, rfl⟩
    · exact fun h => h

theorem setFlagIf (s : State) (c : Bool) (f : Flag) : WorksOn b id s (s.setFlagIf c f) := by
  unfold State.setFlagIf
  split
  · exact setFlag s f
  · exact refl s

theorem loseEntry (s : State) (cause : Cause) : WorksOn b id s (s.loseEntry b id cause) := by
  have hremoved : WorksOn b id s (s.removeEntry b id) :=
    WorksOn.trans (modBank (fun e he => ⟨e, List.mem_of_mem_filter he, rfl⟩) fun h => h)
      (setPulsesCursor _ _)
  exact (hremoved.trans (reportPart _ b (.lost cause) none)).trans (setFlagIf _ _ _)

theorem trigger (coils : Coils) (s : State) : WorksOn b id s (State.trigger b coils s id) := by
  unfold State.trigger
  split
  · exact refl s
  · split
    · have htime : ∀ e : Entry, WorksOn b id s
          (s.modEntry b id fun e => { e with triggerTime := some s.timeBase }) :=
        fun _ => modEntry s id fun _ => rfl
      rename_i e _ _
      refine (htime e).trans ?_
      split
      · exact (loseEntry _ _).trans (headTest _)
      · exact openEntry _ _ coils
      · refine WorksOn.trans (modEntry _ id ?_) (openEntry _ _ coils)
        exact fun _ => rfl
      · exact modEntry _ id fun _ => rfl
    · exact refl s

theorem lateStart (coils : Coils) (s : State) : WorksOn b id s (State.lateStart b coils s id) := by
  unfold State.lateStart
  split
  · exact refl s
  · split
    · split
      · exact loseEntry s _
      · split
        · exact loseEntry s _
        · split
          · exact loseEntry s _
          · split
            · exact openEntry s _ coils
            · exact loseEntry s _
    · exact refl s

end WorksOn

theorem State.Serves.working {s : State} {before after : List Record} {r : Record} {plan : Plan}
    {b : BankId} {old : PartResult} {e : Entry} (h : s.Serves before r after plan b old)
    (hqueue : (s.bank b).queue = [e]) (hid : r.id = e.track) : s.Working b e.track where
  entries x hx := by
    rw [hqueue, List.mem_singleton] at hx
    rw [hx]
  stays := ⟨before, r, after, ⟨h.holds.records, h.holds.alone⟩, hid, h.edge⟩

/-! ### The rows (R109) -/

/-- FIRE-ENABLE, suspension and SHED let the entry open. -/
structure State.Fires (s : State) (e : Entry) : Prop where
  fireEnable : s.fireEnable = true
  suspension : s.suspension = false
  pressure : ¬(s.shed = true ∧ e.level = .high)

section Rows

variable {s : State} {b : BankId} {e : Entry}

theorem State.triggerAction_inhibited (h : s.fireEnable = false) :
    s.triggerAction b e = .loses .inhibited := if_pos h

theorem State.triggerAction_suspended (hfire : s.fireEnable = true) (h : s.suspension = true) :
    s.triggerAction b e = .loses .suspended := by
  unfold State.triggerAction
  rw [if_neg (by simp [hfire]), if_pos h]

theorem State.triggerAction_pressure (hfire : s.fireEnable = true) (hsusp : s.suspension = false)
    (h : s.shed = true ∧ e.level = .high) : s.triggerAction b e = .loses .pressure := by
  unfold State.triggerAction
  rw [if_neg (by simp [hfire]), if_neg (by simp [hsusp]), if_pos h]

theorem State.triggerAction_busy (h : s.Fires e) (hidle : (s.bank b).state ≠ .idle)
    (hopened : (s.bank b).state ≠ .opened) : s.triggerAction b e = .pends := by
  unfold State.triggerAction
  rw [if_neg (by simp [h.fireEnable]), if_neg (by simp [h.suspension]), if_neg h.pressure]
  split
  · exact absurd ‹_› hidle
  · exact absurd ‹_› hopened
  · rfl

theorem State.triggerAction_free (h : s.Fires e)
    (hfree : (s.bank b).state = .idle ∨ (s.bank b).state = .opened) :
    s.triggerAction b e =
      if e.level = (s.bank b).level then .opens
      else match e.policy with
        | .yield => .loses .conflict
        | .degrade =>
          if s.shed = true ∧ (s.bank b).level = .high then .loses .pressure else .opensDegraded := by
  unfold State.triggerAction
  rw [if_neg (by simp [h.fireEnable]), if_neg (by simp [h.suspension]), if_neg h.pressure]
  rcases hfree with hstate | hstate <;> simp only [hstate] <;> rfl

section Free

variable (h : s.Fires e) (hfree : (s.bank b).state = .idle ∨ (s.bank b).state = .opened)

include h hfree

theorem State.triggerAction_own (hlevel : e.level = (s.bank b).level) : s.triggerAction b e = .opens := by
  rw [State.triggerAction_free h hfree, if_pos hlevel]

theorem State.triggerAction_yield (hlevel : e.level ≠ (s.bank b).level) (hpolicy : e.policy = .yield) :
    s.triggerAction b e = .loses .conflict := by
  rw [State.triggerAction_free h hfree, if_neg hlevel, hpolicy]

theorem State.triggerAction_barred (hlevel : e.level ≠ (s.bank b).level) (hpolicy : e.policy = .degrade)
    (hbar : s.shed = true ∧ (s.bank b).level = .high) : s.triggerAction b e = .loses .pressure := by
  rw [State.triggerAction_free h hfree, if_neg hlevel, hpolicy]
  exact if_pos hbar

theorem State.triggerAction_degrade (hlevel : e.level ≠ (s.bank b).level) (hpolicy : e.policy = .degrade)
    (hbar : ¬(s.shed = true ∧ (s.bank b).level = .high)) : s.triggerAction b e = .opensDegraded := by
  rw [State.triggerAction_free h hfree, if_neg hlevel, hpolicy]
  exact if_neg hbar

end Free

end Rows

/-! ### The trigger of a bank's only entry -/

section Trigger

variable {s : State} {before after : List Record} {r : Record} {plan : Plan} {b : BankId} {e : Entry}

/-- A bank's only entry replaced by another of the same record. -/
def State.withEntry (s : State) (b : BankId) (e : Entry) : State :=
  s.setBank b { s.bank b with queue := [e] }

theorem State.trigger_only (hqueue : (s.bank b).queue = [e]) (hstate : e.state = .waiting)
    (coils : Coils) :
    State.trigger b coils s e.track =
      match s.triggerAction b e with
      | .loses cause =>
        ((s.withEntry b { e with triggerTime := some s.timeBase }).loseEntry b e.track cause).headTest b
      | .opens =>
        (s.withEntry b { e with triggerTime := some s.timeBase }).openEntry b e.track e.dp coils
      | .opensDegraded =>
        (s.withEntry b { e with
          triggerTime := some s.timeBase, level := (s.bank b).level, degraded := true }).openEntry b
            e.track e.dp coils
      | .pends => s.withEntry b { e with triggerTime := some s.timeBase, state := .pending } := by
  have hagain : ∀ f : Entry → Entry,
      (s.withEntry b { e with triggerTime := some s.timeBase }).modEntry b e.track f =
        s.withEntry b (f { e with triggerTime := some s.timeBase }) := by
    intro f
    have hq : ((s.withEntry b { e with triggerTime := some s.timeBase }).bank b).queue =
        [{ e with triggerTime := some s.timeBase }] := by simp [State.withEntry]
    refine (State.modEntry_only hq f).trans ?_
    unfold State.withEntry
    rw [State.setBank_setBank, State.bank_setBank]
  unfold State.trigger
  rw [State.entry?_only hqueue]
  dsimp only
  rw [if_pos hstate, State.modEntry_only hqueue]
  cases s.triggerAction b e with
  | loses cause => rfl
  | opens => rfl
  | opensDegraded => exact congrArg (fun t => State.openEntry t b e.track e.dp coils) (hagain _)
  | pends => exact hagain _

theorem State.Serves.withEntry (h : s.Serves before r after plan b .waiting) (x : Entry) :
    (s.withEntry b x).Serves before r after plan b .waiting := h.of_same rfl rfl

/-- The row that loses the entry. -/
theorem State.trigger_loses (h : s.Serves before r after plan b .waiting)
    (hqueue : (s.bank b).queue = [e]) (hid : r.id = e.track) (hstate : e.state = .waiting) {cause : Cause}
    (haction : s.triggerAction b e = .loses cause) (coils : Coils) :
    ∃ cursors flags, State.trigger b coils s e.track =
      { s.setBank b { s.bank b with queue := [] } with
        store := s.store.afterReport before r after plan b (.lost cause) none
        cursors := cursors, flags := flags } ∧
      (cause = .inhibited → flags.getLsbD (Flag.position .inhibited) = true) := by
  obtain ⟨cursors, flags, hlost, hflag⟩ := State.loseEntry_only
    (h.withEntry { e with triggerTime := some s.timeBase }) rfl
    (e := { e with triggerTime := some s.timeBase }) (by simp [State.withEntry]) hid cause
  refine ⟨cursors, flags, ?_, hflag⟩
  rw [State.trigger_only hqueue hstate, haction]
  have hempty : (s.withEntry b { e with triggerTime := some s.timeBase }).setBank b
      { (s.withEntry b { e with triggerTime := some s.timeBase }).bank b with queue := [] } =
        s.setBank b { s.bank b with queue := [] } := by
    unfold State.withEntry
    rw [State.setBank_setBank, State.bank_setBank]
  rw [hempty] at hlost
  dsimp only at hlost ⊢
  rw [hlost, State.headTest_of_empty]
  · rfl
  · exact congrArg Bank.queue (State.bank_setBank s b { s.bank b with queue := [] })

/-- The rows that open the entry, at the level of its bank. -/
theorem State.trigger_opens (hqueue : (s.bank b).queue = [e]) (hstate : e.state = .waiting)
    (haction : (s.triggerAction b e = .opens ∧ e.level = (s.bank b).level) ∨
      (s.triggerAction b e = .opensDegraded ∧ e.level ≠ (s.bank b).level)) (coils : Coils) :
    State.trigger b coils s e.track =
      (s.withEntry b { e with
        triggerTime := some s.timeBase
        level := (s.bank b).level
        degraded := e.degraded || decide (e.level ≠ (s.bank b).level) }).openEntry b e.track e.dp coils := by
  rw [State.trigger_only hqueue hstate]
  rcases haction with ⟨haction, hlevel⟩ | ⟨haction, hlevel⟩
  · rw [haction]
    simp [hlevel]
  · rw [haction]
    simp [hlevel]

end Trigger

end Sys2Proof.Machine

/-!
SUPPORT. A forward count that reaches one trigger, and O33 (1.2, 6.4).
-/

namespace Sys2Proof.Machine

/-- Work that leaves every bank but one alone is the work on that bank. -/
theorem foldl_only {f : State → BankId → State} {s : State} {b : BankId}
    (hbefore : ∀ c, c ≠ b → f s c = s) (hafter : ∀ c, c ≠ b → f (f s b) c = f s b) :
    allBanks.foldl f s = f s b := by
  have hfixed : ∀ (l : List BankId) (t : State), (∀ c ∈ l, f t c = t) → l.foldl f t = t := by
    intro l t hl
    induction l with
    | nil => rfl
    | cons c l ih =>
      rw [List.foldl_cons, hl c List.mem_cons_self]
      exact ih fun d hd => hl d (List.mem_cons_of_mem c hd)
  obtain ⟨earlier, later, hsplit⟩ := List.append_of_mem (mem_allBanks b)
  have hnodup := nodup_allBanks
  rw [hsplit] at hnodup ⊢
  obtain ⟨-, hlater, hapart⟩ := List.nodup_append.mp hnodup
  rw [List.foldl_append, hfixed earlier s fun c hc => hbefore c (hapart c hc b List.mem_cons_self),
    List.foldl_cons]
  exact hfixed later _ fun c hc => hafter c fun heq => (List.nodup_cons.mp hlater).1 (by rw [← heq]; exact hc)

/-- The belt of a forward count (R4, R6, R11, R14). -/
theorem State.forwardCount_eq (s : State) (a b : Bool) :
    ∃ belt : Belt, (s.countedBelt a b true).reverseTest true = { s with belt := belt } ∧
      belt.tc = s.belt.tc + 1 ∧ belt.overspeed = s.belt.overspeed ∧
      belt.reverse = (s.belt.reverse && decide ((s.belt.counted true).rx ≠ 0)) ∧
      belt.v = s.belt.v := by
  cases hrev : s.belt.reverse with
  | true =>
    refine ⟨_, State.reverseTest_active (s := s.countedBelt a b true) hrev true, rfl, rfl, ?_, rfl⟩
    rw [Bool.true_and]
    rfl
  | false =>
    exact ⟨_, State.reverseTest_quiet (s := s.countedBelt a b true) hrev
      (fun hcross => absurd hcross.2.1 (by decide)), rfl, rfl, hrev, rfl⟩

theorem State.triggerTest_unreached {s : State} {b : BankId} (h : ∀ e ∈ (s.bank b).queue,
    e.state = .waiting → atOrPast s.belt.tc e.trigger = false) (coils : Coils) :
    State.triggerTest coils s b = s := by
  have hnone : s.reachedTriggers b = [] := by
    unfold State.reachedTriggers
    rw [List.map_eq_nil_iff, List.filter_eq_nil_iff]
    intro e he
    by_cases hstate : e.state = .waiting
    · simp [h e he hstate]
    · simp [hstate]
  unfold State.triggerTest
  rw [hnone]
  rfl

/-- A count that brings no record to its horizon or its retirement (R50, R56). -/
theorem State.handCount_settled {s : State} {r : Record} (hrecords : s.store.records = [r])
    (hreached : r.reached = true) (hwork : r.state.terminal = false) (forward : Bool) (coils : Coils) :
    s.handCount forward coils =
      (if forward then allBanks.foldl (State.triggerTest coils) s else s).purgeTests coils := by
  have hhorizon : s.horizonAll = s := by simp [State.horizonAll, hrecords, hreached]
  have hretire : s.retireAll = s := by simp [State.retireAll, hrecords, hwork]
  unfold State.handCount
  rw [hhorizon, hretire]

theorem RecState.not_terminal_of_work {st : RecState} (h : st = .planned ∨ st = .firing) :
    st.terminal = false := by
  rcases h with rfl | rfl <;> rfl

/-- The forward count that reaches the trigger of one bank's only entry, and no other (R109). -/
theorem State.handCount_trigger {s : State} {r : Record} {plan : Plan} {b : BankId} {e : Entry}
    (h : s.Serves [] r [] plan b .waiting) (hreached : r.reached = true) (hid : r.id = e.track)
    (hqueue : (s.bank b).queue = [e]) (hstate : e.state = .waiting)
    (htrigger : atOrPast s.belt.tc e.trigger = true) (hdebts : s.noDebts)
    (hothers : ∀ c, c ≠ b → ∀ x ∈ (s.bank c).queue,
      x.state = .waiting → atOrPast s.belt.tc x.trigger = false) (coils : Coils) :
    s.handCount true coils = State.trigger b coils s e.track := by
  have hreachedTriggers : State.triggerTest coils s b = State.trigger b coils s e.track := by
    simp [State.triggerTest, State.reachedTriggers, hqueue, hstate, htrigger]
  have hworks : WorksOn b e.track s (State.trigger b coils s e.track) := .trigger coils s
  have hworking := h.working hqueue hid
  have hbanks := hworks.bank_ne hworking
  have hside : BankSide s (State.trigger b coils s e.track) := .trigger b coils s e.track
  have hfold : allBanks.foldl (State.triggerTest coils) s = State.trigger b coils s e.track := by
    rw [foldl_only (fun c hc => State.triggerTest_unreached (hothers c hc) coils), hreachedTriggers]
    intro c hc
    rw [hreachedTriggers]
    refine State.triggerTest_unreached ?_ coils
    rw [hbanks c hc, hside.belt]
    exact hothers c hc
  rw [State.handCount_settled h.holds.records hreached (RecState.not_terminal_of_work h.work),
    if_pos rfl, hfold, State.purgeTests_of_noDebts]
  intro c
  by_cases hc : c = b
  · rw [hc]
    exact hworks.debt hworking (hdebts b)
  · rw [hbanks c hc]
    exact hdebts c

section Rows

variable {s : State} {r : Record} {plan : Plan} {b : BankId} {e : Entry}

/-- After the close of the event: the lost entry is gone, its record told, the cause counted. -/
theorem closeEvent_trigger_loses (h : s.Serves [] r [] plan b .waiting)
    (hqueue : (s.bank b).queue = [e]) (hid : r.id = e.track) (hstate : e.state = .waiting) {cause : Cause}
    (haction : s.triggerAction b e = .loses cause) (coils : Coils) (start : State) :
    ((closeEvent start (State.trigger b coils s e.track)).bank b = { s.bank b with queue := [] } ∧
      (closeEvent start (State.trigger b coils s e.track)).store = { s.store with
        records := [r.reported plan b (.lost cause) none]
        globals := s.store.globals.count cause }) ∧
      (cause = .inhibited → (closeEvent start (State.trigger b coils s e.track)).flag .inhibited = true) := by
  obtain ⟨cursors, flags, heq, hflag⟩ := State.trigger_loses h hqueue hid hstate haction coils
  rw [heq]
  refine ⟨⟨?_, ?_⟩, fun hcause => ?_⟩
  · rw [State.bank_of_banks (closeEvent_banks _ _)]
    exact State.bank_setBank s b _
  · rw [closeEvent_store]
    rfl
  · rw [closeEvent_flag _ _ (by decide)]
    exact hflag hcause

/-- After the close of the event: the entry is OPEN at its bank's level, its first wave open. -/
theorem closeEvent_trigger_opens (h : s.Serves [] r [] plan b .waiting)
    (hqueue : (s.bank b).queue = [e]) (hid : r.id = e.track) (hstate : e.state = .waiting)
    (haction : (s.triggerAction b e = .opens ∧ e.level = (s.bank b).level) ∨
      (s.triggerAction b e = .opensDegraded ∧ e.level ≠ (s.bank b).level)) {coils : Coils}
    (hsound : s.Sound b coils allMembers) (hclosed : ∀ m : Member, s.nozzleOpen b m = false)
    (start : State) :
    let wave := waveMembers (s.bankSettings b).openOrder (s.bankSettings b).mso e.mask 0
    let t := closeEvent start (State.trigger b coils s e.track)
    (t.bank b).state = .opened ∧
      (∀ m : Member, (t.bank b).nozzles[m] =
        if m ∈ wave then some (timePlus s.timeBase (e.dp * 500)) else none) ∧
      (t.bank b).queue = [{ e with
        level := (s.bank b).level
        degraded := e.degraded || decide (e.level ≠ (s.bank b).level)
        state := .opened
        triggerTime := some s.timeBase
        hit := e.hit || decide (wave ≠ [])
        pulse := some
          { duration := e.dp, firstWave := s.timeBase, wavesOpened := 1
            expiry := timePlus s.timeBase
              (((e.waves - 1) * (s.bankSettings b).waveGap + e.dp) * 500) } }] ∧
      t.store = { s.store with records := [r.reported plan b .opened (some (s.bank b).level)] } := by
  intro wave t
  have hbank : ∀ x, (s.withEntry b x).bank b = { s.bank b with queue := [x] } :=
    fun x => State.bank_setBank s b _
  obtain ⟨hopened, hstore, -⟩ := State.openEntry_opened (coils := coils)
    (e := { e with
      triggerTime := some s.timeBase
      level := (s.bank b).level
      degraded := e.degraded || decide (e.level ≠ (s.bank b).level) })
    (h.withEntry _) rfl (congrArg Bank.queue (hbank _)) hid
    ⟨hsound.fireEnable, hsound.healthy, hsound.coil⟩ e.dp
  rw [← State.trigger_opens hqueue hstate haction] at hopened hstore
  have htbank : t.bank b = _ := (State.bank_of_banks (closeEvent_banks _ _) b).trans hopened
  refine ⟨by rw [htbank]; rfl, fun m => ?_, by rw [htbank]; rfl, ?_⟩
  · rw [htbank]
    refine getElem_extendAll_closed _ _ ?_
    rw [hbank]
    exact hclosed m
  · exact (closeEvent_store _ _).trans hstore

end Rows

theorem State.bank_closeEvent (s t : State) (b : BankId) : (closeEvent s t).bank b = t.bank b :=
  State.bank_of_banks (closeEvent_banks s t) b

end Sys2Proof.Machine

namespace Sys2Proof.Laws.ValveBanks

open Sys2Proof Sys2Proof.Machine

/-- Settles O33: the count reaches the one trigger, which is dealt with by the first row that applies. -/
theorem triggerRows : Obligations.TriggerRows := by
  unfold Obligations.TriggerRows
  intro a b coils bank e r plan s hs hdecode hrecords hid hplan hawaits hwork hreached hedge hdebts hqueue
    hstate htrigger hothers
  obtain ⟨belt, hcounted, htc, hover, hreverse, -⟩ := s.forwardCount_eq a b
  have hserves : ({ s with belt := belt } : State).Serves [] r [] plan bank .waiting :=
    ⟨.of_single hrecords, hplan, hwork, hawaits, by unfold State.edgePassed; rw [htc]; exact hedge⟩
  have hcount : ({ s with belt := belt } : State).handCount true coils =
      State.trigger bank coils { s with belt := belt } e.track :=
    State.handCount_trigger hserves hreached hid hqueue hstate (by rw [htc]; exact htrigger) hdebts
      (by rw [htc]; exact hothers) coils
  have hworks : WorksOn bank e.track { s with belt := belt }
      (State.trigger bank coils { s with belt := belt } e.track) := .trigger coils _
  have hsuspension : ({ s with belt := belt } : State).suspension = true ↔
      (s.settings.limitAction = .suspend ∧
        (s.belt.overspeed = true ∨ (s.belt.reverse = true ∧ (s.belt.counted true).rx ≠ 0))) := by
    simp [State.suspension, hover, hreverse]
  refine ⟨closeEvent s (State.trigger bank coils { s with belt := belt } e.track), ?_, fun k hk => ?_, ?_⟩
  · refine (execEncoderEdge_powered hs a b coils).trans ?_
    rw [hdecode]
    dsimp only
    rw [State.takeLevels_count, hcounted, hcount]
  · rw [State.bank_closeEvent]
    exact hworks.bank_ne (hserves.working hqueue hid) k hk
  · have hloses := fun cause haction => closeEvent_trigger_loses (cause := cause) hserves hqueue hid hstate
      haction coils s
    dsimp only
    rw [← hsuspension, Bool.not_eq_true]
    refine ⟨fun hfire => ?_, fun hfire hsusp => (hloses _ (State.triggerAction_suspended hfire hsusp)).1,
      fun hfire hsusp => ⟨fun hshed hhigh =>
        (hloses _ (State.triggerAction_pressure hfire hsusp ⟨hshed, hhigh⟩)).1, fun hpressure => ?_⟩⟩
    · obtain ⟨hlost, hflag⟩ := hloses _ (State.triggerAction_inhibited hfire)
      exact ⟨hlost, hflag rfl⟩
    · have hfires : ({ s with belt := belt } : State).Fires e := ⟨hfire, hsusp, hpressure⟩
      refine ⟨fun hbusy => ?_, fun hfree hlevel hpolicy => (hloses .conflict ?_).1,
        fun hfree hlevel hpolicy hshed hhigh => (hloses .pressure ?_).1,
        fun hfree hlevel hsound => closeEvent_trigger_opens hserves hqueue hid hstate ?_
          ⟨hfire, fun m _ => (hsound m).1, fun m _ => (hsound m).2.2⟩ (fun m => (hsound m).2.1) s⟩
      · obtain ⟨hidle, hopened⟩ := not_or.mp hbusy
        have hpends := State.triggerAction_busy (b := bank) hfires hidle hopened
        rw [State.trigger_only (s := { s with belt := belt }) hqueue hstate, hpends]
        exact ⟨(State.bank_of_banks (closeEvent_banks _ _) bank).trans (State.bank_setBank _ _ _),
          closeEvent_store _ _⟩
      · exact State.triggerAction_yield hfires hfree hlevel hpolicy
      · exact State.triggerAction_barred hfires hfree hlevel hpolicy ⟨hshed, hhigh⟩
      · by_cases hsame : e.level = (s.bank bank).level
        · exact .inl ⟨State.triggerAction_own hfires hfree hsame, hsame⟩
        · obtain ⟨hpolicy, hbar⟩ := hlevel.resolve_left hsame
          exact .inr ⟨State.triggerAction_degrade hfires hfree hsame hpolicy hbar, hsame⟩

end Sys2Proof.Laws.ValveBanks

/-!
SUPPORT. The events of an OPEN pulse, and O34 (6.5).
-/

namespace Sys2Proof.Machine

/-! ### Later waves and closings (R112) -/

theorem execWave_due {s : State} (hs : s.powered = true) {b : BankId} {e : Entry} {p : PulseRun}
    (hqueue : (s.bank b).queue = [e]) (hpulse : e.pulse = some p) (hleft : wavesLeft e p = true)
    (coils : Coils) :
    exec (.wave b e.track coils) s = .next (closeEvent s
      ((s.atTime (waveTime p (s.bankSettings b).waveGap p.wavesOpened)).openWave b e.track coils)) := by
  show execWave b e.track coils s = _
  unfold execWave
  rw [event_powered hs, State.entry?_only hqueue]
  dsimp only
  rw [hpulse]
  exact congrArg (fun t => Host.Outcome.next (closeEvent s t)) (if_pos hleft)

/-- Events of an entry that runs no pulse change nothing. -/
theorem exec_pulse_none {s : State} (hs : s.powered = true) {b : BankId} {id : TrackId}
    (h : ∀ e ∈ (s.bank b).queue, e.track = id → e.pulse = none) (coils : Coils) :
    exec (.wave b id coils) s = .next (closeEvent s s) ∧
      exec (.pulseExpiry b id) s = .next (closeEvent s s) := by
  have hentry : ∀ e, s.entry? b id = some e → e.pulse = none := by
    intro e he
    have hmem := List.mem_of_find?_eq_some he
    have htrack := List.find?_some he
    exact h e hmem (of_decide_eq_true htrack)
  constructor
  · show execWave b id coils s = _
    unfold execWave
    rw [event_powered hs]
    split
    · rfl
    · rename_i e he
      rw [hentry e he]
  · show execPulseExpiry b id s = _
    unfold execPulseExpiry
    rw [event_powered hs]
    split
    · rfl
    · rename_i e he
      rw [hentry e he]

theorem execNozzleClosing_due {s : State} (hs : s.powered = true) {b : BankId} {m : Member} {due : Time}
    (h : (s.bank b).nozzles[m] = some due) :
    exec (.nozzleClosing b m) s = .next (closeEvent s
      (({ s with timeBase := laterOf s.timeBase due } : State).setBank b { s.bank b with
        nozzles := (s.bank b).nozzles.set m none })) := by
  show execNozzleClosing b m s = _
  unfold execNozzleClosing
  rw [event_powered hs, h]
  rfl

theorem execNozzleClosing_closed {s : State} (hs : s.powered = true) {b : BankId} {m : Member}
    (h : (s.bank b).nozzles[m] = none) :
    exec (.nozzleClosing b m) s = .next (closeEvent s s) := by
  show execNozzleClosing b m s = _
  unfold execNozzleClosing
  rw [event_powered hs, h]

/-! ### The pulse expiry (R113) -/

/-- The only entry of a track id in its queue. -/
theorem State.entry?_among {s : State} {b : BankId} {earlier later : List Entry} {e : Entry}
    (hqueue : (s.bank b).queue = earlier ++ e :: later)
    (hothers : ∀ x ∈ earlier ++ later, x.track ≠ e.track) : s.entry? b e.track = some e := by
  have hearlier : (earlier.find? fun x => decide (x.track = e.track)) = none := by
    simpa using fun x hx => hothers x (List.mem_append_left _ hx)
  simp [State.entry?, hqueue, List.find?_append, hearlier]

theorem filter_among {earlier later : List Entry} {e : Entry}
    (hothers : ∀ x ∈ earlier ++ later, x.track ≠ e.track) :
    ((earlier ++ e :: later).filter fun x => decide (x.track ≠ e.track)) = earlier ++ later := by
  have hkeep : ((earlier ++ later).filter fun x => decide (x.track ≠ e.track)) = earlier ++ later :=
    List.filter_eq_self.mpr fun x hx => decide_eq_true (hothers x hx)
  rw [List.filter_append] at hkeep ⊢
  simpa using hkeep

/-- A bank after the end of one of its OPEN entries, at a time (R113). -/
def State.pulseEnded (s : State) (b : BankId) (rest : List Entry) : Bank :=
  { s.bank b with
    queue := rest
    state := if anyOpen rest = true then .opened
      else .settling (timePlus s.timeBase ((s.bankSettings b).tRC * 500))
    nozzles := closeDue (s.bank b).nozzles s.timeBase }

/-- A state with an entry gone from a bank and the bank's due nozzles closed. -/
def State.pulseLeft (s : State) (b : BankId) (rest : List Entry) : State :=
  s.setBank b { s.bank b with queue := rest, nozzles := closeDue (s.bank b).nozzles s.timeBase }

theorem State.pulseLeft_eq {s : State} {b : BankId} {earlier later : List Entry} {e : Entry}
    (hqueue : (s.bank b).queue = earlier ++ e :: later)
    (hothers : ∀ x ∈ earlier ++ later, x.track ≠ e.track) :
    ∃ v, (s.modBank b fun k => { k with nozzles := closeDue k.nozzles s.timeBase }).removeEntry b e.track =
      (s.pulseLeft b (earlier ++ later)).setPulsesCursor b v := by
  unfold State.removeEntry
  rw [State.modBank_modBank, State.modBank_eq]
  simp only [hqueue, filter_among hothers]
  exact ⟨_, rfl⟩

/-- The recharge that follows the last OPEN entry. -/
theorem State.settle_pulseLeft {s : State} {b : BankId} {rest : List Entry}
    (hstate : (s.bank b).state = .opened) (st : Store) (v : Cursor) :
    let t : State := { (s.pulseLeft b rest).setPulsesCursor b v with store := st }
    (if (t.bank b).state = .opened ∧ anyOpen (t.bank b).queue = false then t.settle b else t) =
      { (s.setBank b (s.pulseEnded b rest)).setPulsesCursor b v with store := st } := by
  intro t
  have hbank : t.bank b =
      { s.bank b with queue := rest, nozzles := closeDue (s.bank b).nozzles s.timeBase } :=
    State.bank_setBank s b _
  have hsettled : t.settle b = { (s.setBank b { s.bank b with
      queue := rest
      state := .settling (timePlus s.timeBase ((s.bankSettings b).tRC * 500))
      nozzles := closeDue (s.bank b).nozzles s.timeBase }).setPulsesCursor b v with store := st } := by
    have hset : (s.pulseLeft b rest).setBank b { s.bank b with
        queue := rest
        state := .settling (timePlus s.timeBase ((s.bankSettings b).tRC * 500))
        nozzles := closeDue (s.bank b).nozzles s.timeBase } = _ := State.setBank_setBank s b _ _
    unfold State.settle
    rw [State.modBank_eq, hbank]
    exact congrArg (fun w : State => { w.setPulsesCursor b v with store := st }) hset
  rw [hsettled, hbank]
  dsimp only
  cases hopen : anyOpen rest with
  | true =>
    have hkept : s.pulseEnded b rest =
        { s.bank b with queue := rest, nozzles := closeDue (s.bank b).nozzles s.timeBase } := by
      simp [State.pulseEnded, hopen, hstate]
    rw [hkept]
    exact if_neg (by simp)
  | false =>
    have hended : s.pulseEnded b rest = { s.bank b with
        queue := rest
        state := .settling (timePlus s.timeBase ((s.bankSettings b).tRC * 500))
        nozzles := closeDue (s.bank b).nozzles s.timeBase } := by
      simp [State.pulseEnded, hopen]
    rw [hended]
    exact if_pos ⟨hstate, rfl⟩

/-- The end of an OPEN entry: it leaves, its result is told, its due nozzles close, and after the last
OPEN entry the bank recharges. -/
theorem State.pulseEnds_among {s : State} {before after : List Record} {r : Record} {plan : Plan}
    {b : BankId} {earlier later : List Entry} {e : Entry} (h : s.Serves before r after plan b .opened)
    (hid : r.id = e.track) (hqueue : (s.bank b).queue = earlier ++ e :: later)
    (hothers : ∀ x ∈ earlier ++ later, x.track ≠ e.track) (hstate : (s.bank b).state = .opened) :
    ∃ v, s.pulseEnds b e =
      { (s.setBank b (s.pulseEnded b (earlier ++ later))).setPulsesCursor b v with
        store := s.store.afterReport before r after plan b (e.endResult .unavailable) none } := by
  obtain ⟨v, hremoved⟩ := State.pulseLeft_eq hqueue hothers
  have hserves : ((s.pulseLeft b (earlier ++ later)).setPulsesCursor b v).Serves before r after plan b
      .opened := h.of_same rfl rfl
  have hfinished := hserves.report rfl (e.endResult .unavailable) none
  rw [hid] at hfinished
  refine ⟨v, ?_⟩
  unfold State.pulseEnds State.finishEntry
  dsimp only
  rw [hremoved, hfinished]
  exact State.settle_pulseLeft hstate _ v

theorem execPulseExpiry_due {s : State} (hs : s.powered = true) {b : BankId} {e : Entry} {p : PulseRun}
    (hentry : s.entry? b e.track = some e) (hpulse : e.pulse = some p) (hstate : e.state = .opened)
    (hwaves : e.waves ≤ p.wavesOpened) :
    exec (.pulseExpiry b e.track) s =
      .next (closeEvent s ((s.atTime p.expiry).pulseEnds b e)) := by
  have hleft : wavesLeft e p = false := by
    have hnot : ¬p.wavesOpened < e.waves := by omega
    simp [wavesLeft, hnot]
  show execPulseExpiry b e.track s = _
  unfold execPulseExpiry
  rw [event_powered hs, hentry]
  dsimp only
  rw [hpulse]
  exact congrArg (fun t => Host.Outcome.next (closeEvent s t)) (if_pos ⟨hstate, hleft⟩)

theorem anyOpen_iff (q : List Entry) : anyOpen q = true ↔ ∃ x ∈ q, x.state = .opened := by
  simp [anyOpen]

end Sys2Proof.Machine

namespace Sys2Proof.Laws.ValveBanks

open Sys2Proof Sys2Proof.Machine

/-- Settles O34: the next wave, a closing, the end of the pulse, and the events of no pulse. -/
theorem pulseLife : Obligations.PulseLife := by
  unfold Obligations.PulseLife
  refine ⟨?_, fun bank m s hs => ⟨fun due => execNozzleClosing_due hs, execNozzleClosing_closed hs⟩, ?_,
    fun bank id coils s hs h => exec_pulse_none hs h coils, fun e h => if_pos h, fun e h => if_neg (by simp [h])⟩
  · intro bank e p coils s hs hfire hqueue hpulse hstate hopened hsound st wave now closing
    have hwave := State.openWave_drives
      (s := s.atTime (waveTime p (s.bankSettings bank).waveGap p.wavesOpened)) (coils := coils)
      ⟨hfire, fun m _ => (hsound m).1, fun m _ => (hsound m).2⟩ hqueue hpulse
    have hbank := (State.bank_closeEvent s _ bank).trans hwave.bank
    refine ⟨_, execWave_due hs hqueue hpulse (by simp [wavesLeft, hstate, hopened]) coils, ?_, ?_, ?_,
      fun m => ?_, ?_, fun k hk => ?_, ?_⟩
    · rw [closeEvent_timeBase, hwave.eq]
      rfl
    · rw [hbank]
      rfl
    · rw [hbank]
      rfl
    · rw [hbank]
      refine (getElem_extendAll _ _ _ m).trans ?_
      by_cases hm : m ∈ wave
      · rw [if_pos hm]
        refine (if_pos hm).trans ?_
        show some (extended (s.bank bank).nozzles[m] closing) = _
        cases (s.bank bank).nozzles[m] <;> rfl
      · rw [if_neg hm]
        exact if_neg hm
    · exact (closeEvent_store _ _).trans hwave.store
    · exact (State.bank_closeEvent _ _ k).trans (hwave.bank_ne hk)
    · exact (closeEvent_run _ _).trans hwave.run
  · intro bank e p earlier later r plan before after s hs hqueue hothers hpulse hstate hwaves hopened hrecords
      hid halone hwork hplan hawaits hedge now result
    have hserves : (s.atTime p.expiry).Serves before r after plan bank .opened :=
      ⟨⟨hrecords, halone⟩, hplan, hwork, hawaits, hedge⟩
    obtain ⟨v, hends⟩ := State.pulseEnds_among hserves hid hqueue hothers hopened
    refine ⟨_, execPulseExpiry_due hs (State.entry?_among hqueue hothers) hpulse hstate hwaves, ?_, ?_, ?_, ?_,
      fun k hk => ?_⟩
    · rw [closeEvent_timeBase, hends]
      rfl
    · rw [State.bank_closeEvent, hends]
      refine (State.bank_setBank _ bank _).trans ?_
      unfold State.pulseEnded
      simp only [anyOpen_iff]
      rfl
    · rw [closeEvent_store, hends]
      cases hhit : e.hit with
      | false => simp [Store.afterReport, Entry.endResult, result, hhit, State.atTime]
      | true =>
        cases hdegraded : e.degraded <;>
          simp [Store.afterReport, Entry.endResult, result, hhit, hdegraded, State.atTime]
    · rw [closeEvent_run, hends]
      rfl
    · rw [State.bank_closeEvent, hends]
      exact State.bank_setBank_ne _ _ hk

end Sys2Proof.Laws.ValveBanks

/-!
SUPPORT. The bank that becomes free, the late start of its only entry, and O35 (6.6).
-/

namespace Sys2Proof.Machine

/-- A bank that is IDLE at a level. -/
def State.freed (s : State) (b : BankId) (level : Level) : State :=
  s.setBank b { s.bank b with state := .idle, level := level }

section Freed

variable {s : State} {b : BankId}

theorem State.bank_freed (s : State) (b : BankId) (level : Level) :
    (s.freed b level).bank b = { s.bank b with state := .idle, level := level } := s.bank_setBank b _

theorem State.startSwitch_freed (s : State) (b : BankId) (level target : Level) :
    (s.freed b level).startSwitch b target = s.setBank b { s.bank b with
      level := level
      state := .switching target (timePlus s.timeBase ((s.bankSettings b).tSW * 1000)) } := by
  unfold State.startSwitch
  rw [State.modBank_eq, State.bank_freed]
  exact State.setBank_setBank s b _ _

/-- The free-bank work whose head test starts a switch (R116). -/
theorem State.freeBankWork_switches {w : State} {target : Level} (hidle : (w.bank b).state = .idle)
    (hwanted : w.switchWanted b = some target) (coils : Coils) :
    w.freeBankWork b coils = w.startSwitch b target := by
  have hhead : w.headTest b = w.startSwitch b target := by
    unfold State.headTest
    rw [if_pos hidle, hwanted]
  unfold State.freeBankWork
  dsimp only
  rw [hhead]
  refine if_neg ?_
  unfold State.startSwitch
  rw [State.bank_modBank]
  exact BankState.noConfusion

/-- The free-bank work whose head test starts none: the late starts, and the tests after them. -/
theorem State.freeBankWork_stays {w : State} (hidle : (w.bank b).state = .idle)
    (hwanted : w.switchWanted b = none) (coils : Coils) :
    w.freeBankWork b coils =
      State.purgeTest coils (((w.lateStarters b).foldl (State.lateStart b coils) w).headTest b) b := by
  have hhead : w.headTest b = w := by
    unfold State.headTest
    rw [hwanted]
    exact ite_self _
  unfold State.freeBankWork
  dsimp only
  rw [hhead, if_pos hidle]

theorem State.lateStarters_none (h : ∀ x ∈ (s.bank b).queue, x.state ≠ .pending) :
    s.lateStarters b = [] := by
  unfold State.lateStarters
  rw [List.map_eq_nil_iff, List.filter_eq_nil_iff]
  intro x hx
  simp [h x hx]

/-- The free-bank work of a bank with nothing PENDING, no switch to make and no purge owed. -/
theorem State.freeBankWork_rests {w : State} (hidle : (w.bank b).state = .idle)
    (hwanted : w.switchWanted b = none) (hpending : ∀ x ∈ (w.bank b).queue, x.state ≠ .pending)
    (hdebt : (w.bank b).debt = 0) (coils : Coils) : w.freeBankWork b coils = w := by
  have hhead : w.headTest b = w := by
    unfold State.headTest
    rw [hwanted]
    exact ite_self _
  rw [State.freeBankWork_stays hidle hwanted, State.lateStarters_none hpending, List.foldl_nil, hhead,
    State.purgeTest_of_no_debt hdebt]

/-- The end of a recharge is that of a bank freed at its own level (R114). -/
theorem State.rechargeDone_eq (s : State) (b : BankId) (coils : Coils) :
    s.rechargeDone b coils = (s.freed b (s.bank b).level).freeBankWork b coils := by
  have hwanted : (s.freed b (s.bank b).level).switchWanted b = s.switchWanted b := by
    have hhead : ((s.freed b (s.bank b).level).bank b).head? = (s.bank b).head? := by
      rw [State.bank_freed]
      rfl
    unfold State.switchWanted
    rw [hhead, State.bank_freed]
    rfl
  unfold State.rechargeDone
  cases h : s.switchWanted b with
  | some target =>
    rw [State.freeBankWork_switches (by rw [State.bank_freed]) (hwanted.trans h), State.startSwitch_freed]
    rfl
  | none => rfl

/-- A head at another level that SHED does not bar asks for a switch (R114, R116). -/
theorem State.switchWanted_other {e : Entry} (hhead : (s.bank b).head? = some e)
    (hlevel : e.level ≠ (s.bank b).level) (hbar : ¬(s.shed = true ∧ e.level = .high)) :
    s.switchWanted b = some e.level := by
  simp only [State.switchWanted, hhead, if_neg hlevel, if_neg hbar]

theorem State.switchWanted_own {e : Entry} (hhead : (s.bank b).head? = some e)
    (h : e.level = (s.bank b).level ∨ (s.shed = true ∧ e.level = .high)) :
    s.switchWanted b = none := by
  simp only [State.switchWanted, hhead]
  by_cases hlevel : e.level = (s.bank b).level
  · exact if_pos hlevel
  · rw [if_neg hlevel]
    exact if_pos (h.resolve_left hlevel)

theorem State.lateStarters_only {e : Entry} (hqueue : (s.bank b).queue = [e]) (hpending : e.state = .pending)
    (h : e.level = (s.bank b).level ∨ (s.shed = true ∧ e.level = .high)) :
    s.lateStarters b = [e.track] := by
  have hstarts : (decide (e.level = (s.bank b).level) || (s.shed && decide (e.level = .high))) = true := by
    simpa using h
  simp [State.lateStarters, hqueue, hpending, hstarts]

end Freed

/-! ### The events (R114, R115) -/

theorem execRechargeExpiry_settling {s : State} (hs : s.powered = true) {b : BankId} {due : Time}
    (h : (s.bank b).state = .settling due) (coils : Coils) :
    exec (.rechargeExpiry b coils) s = .next (closeEvent s
      (((s.atTime due).freed b (s.bank b).level).freeBankWork b coils)) := by
  have hdone := State.rechargeDone_eq (s.atTime due) b coils
  show execRechargeExpiry b coils s = _
  unfold execRechargeExpiry
  rw [event_powered hs]
  simp only [h]
  rw [hdone]
  rfl

theorem execSwitchExpiry_switching {s : State} (hs : s.powered = true) {b : BankId} {level : Level}
    {due : Time} (h : (s.bank b).state = .switching level due) (coils : Coils) :
    exec (.switchExpiry b coils) s = .next (closeEvent s
      (((s.atTime due).freed b level).freeBankWork b coils)) := by
  show execSwitchExpiry b coils s = _
  unfold execSwitchExpiry
  rw [event_powered hs]
  simp only [h]
  rfl

theorem execRechargeExpiry_none {s : State} (hs : s.powered = true) {b : BankId}
    (h : ∀ due, (s.bank b).state ≠ .settling due) (coils : Coils) :
    exec (.rechargeExpiry b coils) s = .next (closeEvent s s) := by
  show execRechargeExpiry b coils s = _
  unfold execRechargeExpiry
  rw [event_powered hs]
  split
  · rename_i due hstate
    exact absurd hstate (h due)
  · rfl

theorem execSwitchExpiry_none {s : State} (hs : s.powered = true) {b : BankId}
    (h : ∀ level due, (s.bank b).state ≠ .switching level due) (coils : Coils) :
    exec (.switchExpiry b coils) s = .next (closeEvent s s) := by
  show execSwitchExpiry b coils s = _
  unfold execSwitchExpiry
  rw [event_powered hs]
  split
  · rename_i level due hstate
    exact absurd hstate (h level due)
  · rfl

/-! ### The late start (R117) -/

theorem extendAll_closed {nozzles : Vector (Option Time) 8} (h : ∀ m : Member, nozzles[m].isSome = false)
    (closing : Time) (l : List Member) :
    extendAll closing nozzles l = Vector.ofFn fun m : Member => if m ∈ l then some closing else none := by
  ext i hi : 1
  have hm := getElem_extendAll_closed closing l (h ⟨i, hi⟩)
  simpa using hm

section LateStart

variable {w : State} {before after : List Record} {r : Record} {plan : Plan} {b : BankId} {e : Entry}
  {coils : Coils}

/-- The first wave of a bank with no nozzle open. -/
theorem State.openedBank_closed {s : State} {b : BankId}
    (h : ∀ m : Member, (s.bank b).nozzles[m].isSome = false) (e : Entry) (duration : Nat) :
    s.openedBank b e duration = { s.bank b with
      state := .opened
      nozzles := Vector.ofFn fun m : Member =>
        if m ∈ waveMembers (s.bankSettings b).openOrder (s.bankSettings b).mso e.mask 0
        then some (timePlus s.timeBase (duration * 500)) else none
      queue := [{ e.begun (s.bankSettings b) s.timeBase duration 1 with
        hit := e.hit || decide
          (waveMembers (s.bankSettings b).openOrder (s.bankSettings b).mso e.mask 0 ≠ []) }] } := by
  unfold State.openedBank Bank.waved
  rw [extendAll_closed h]
  rfl

theorem State.lateStart_only (hqueue : (w.bank b).queue = [e]) (hpending : e.state = .pending) :
    State.lateStart b coils w e.track =
      if w.fireEnable = false then w.loseEntry b e.track .inhibited
      else if w.suspension then w.loseEntry b e.track .suspended
      else if w.shed = true ∧ e.level = .high then w.loseEntry b e.track .pressure
      else if e.dmin + w.waited e ≤ e.dp then w.openEntry b e.track (e.dp - w.waited e) coils
      else w.loseEntry b e.track .lateStart := by
  unfold State.lateStart
  rw [State.entry?_only hqueue]
  exact if_pos hpending

section Rows

variable (hqueue : (w.bank b).queue = [e]) (hpending : e.state = .pending)

include hqueue hpending

theorem State.lateStart_inhibited (hfire : w.fireEnable = false) :
    State.lateStart b coils w e.track = w.loseEntry b e.track .inhibited :=
  (State.lateStart_only hqueue hpending).trans (if_pos hfire)

theorem State.lateStart_suspended (hfire : w.fireEnable = true) (hsusp : w.suspension = true) :
    State.lateStart b coils w e.track = w.loseEntry b e.track .suspended := by
  rw [State.lateStart_only hqueue hpending, if_neg (by simp [hfire]), if_pos hsusp]

theorem State.lateStart_pressure (hfire : w.fireEnable = true) (hsusp : w.suspension = false)
    (hshed : w.shed = true ∧ e.level = .high) :
    State.lateStart b coils w e.track = w.loseEntry b e.track .pressure := by
  rw [State.lateStart_only hqueue hpending, if_neg (by simp [hfire]), if_neg (by simp [hsusp]),
    if_pos hshed]

theorem State.lateStart_short (hfires : w.Fires e) (hshort : e.dp < e.dmin + w.waited e) :
    State.lateStart b coils w e.track = w.loseEntry b e.track .lateStart := by
  rw [State.lateStart_only hqueue hpending, if_neg (by simp [hfires.fireEnable]),
    if_neg (by simp [hfires.suspension]), if_neg hfires.pressure, if_neg (by omega)]

theorem State.lateStart_rest (hfires : w.Fires e) (hrest : e.dmin + w.waited e ≤ e.dp) :
    State.lateStart b coils w e.track = w.openEntry b e.track (e.dp - w.waited e) coils := by
  rw [State.lateStart_only hqueue hpending, if_neg (by simp [hfires.fireEnable]),
    if_neg (by simp [hfires.suspension]), if_neg hfires.pressure, if_pos hrest]

end Rows

/-- A bank that owes no purge and whose only entry has its late start. -/
structure State.LateStarts (w : State) (before : List Record) (r : Record) (after : List Record) (plan : Plan)
    (b : BankId) (e : Entry) : Prop where
  serves : w.Serves before r after plan b .waiting
  id : r.id = e.track
  idle : (w.bank b).state = .idle
  queue : (w.bank b).queue = [e]
  pending : e.state = .pending
  level : e.level = (w.bank b).level ∨ (w.shed = true ∧ e.level = .high)
  debt : (w.bank b).debt = 0

theorem State.LateStarts.freeBankWork (h : w.LateStarts before r after plan b e) :
    w.freeBankWork b coils = (State.lateStart b coils w e.track).headTest b := by
  have hnotOpen : e.state ≠ .opened := by
    rw [h.pending]
    exact EntryState.noConfusion
  have hhead := State.head?_only h.queue hnotOpen
  have hworks : WorksOn b e.track w ((State.lateStart b coils w e.track).headTest b) :=
    (WorksOn.lateStart coils w).trans (.headTest _)
  rw [State.freeBankWork_stays h.idle (State.switchWanted_own hhead h.level),
    State.lateStarters_only h.queue h.pending h.level, List.foldl_cons, List.foldl_nil]
  exact State.purgeTest_of_no_debt (hworks.debt (h.serves.working h.queue h.id) h.debt) coils

theorem State.LateStarts.loses (h : w.LateStarts before r after plan b e) {cause : Cause}
    (hlost : State.lateStart b coils w e.track = w.loseEntry b e.track cause) :
    ∃ cursors flags, w.freeBankWork b coils =
      { w.setBank b { w.bank b with queue := [] } with
        store := w.store.afterReport before r after plan b (.lost cause) none
        cursors := cursors, flags := flags } ∧
      (cause = .inhibited → flags.getLsbD (Flag.position .inhibited) = true) := by
  obtain ⟨cursors, flags, heq, hflag⟩ := State.loseEntry_only h.serves rfl h.queue h.id cause
  refine ⟨cursors, flags, ?_, hflag⟩
  rw [h.freeBankWork, hlost, heq, State.headTest_of_empty]
  exact congrArg Bank.queue (State.bank_setBank w b { w.bank b with queue := [] })

/-- After the close of the event: the entry is gone, its record told, the cause counted. -/
theorem State.LateStarts.closeEvent_loses (h : w.LateStarts before r after plan b e) {cause : Cause}
    (hlost : State.lateStart b coils w e.track = w.loseEntry b e.track cause) (start : State) :
    ((closeEvent start (w.freeBankWork b coils)).bank b = { w.bank b with queue := [] } ∧
      (closeEvent start (w.freeBankWork b coils)).store = { w.store with
        records := before ++ r.reported plan b (.lost cause) none :: after
        globals := w.store.globals.count cause } ∧
      (closeEvent start (w.freeBankWork b coils)).run = w.run) ∧
      (cause = .inhibited → (closeEvent start (w.freeBankWork b coils)).flag .inhibited = true) := by
  obtain ⟨cursors, flags, heq, hflag⟩ := h.loses hlost
  rw [heq]
  refine ⟨⟨?_, ?_, ?_⟩, fun hcause => ?_⟩
  · rw [State.bank_closeEvent]
    exact State.bank_setBank w b _
  · rw [closeEvent_store]
    rfl
  · rw [closeEvent_run]
    rfl
  · rw [closeEvent_flag _ _ (by decide)]
    exact hflag hcause

theorem State.LateStarts.opens (h : w.LateStarts before r after plan b e) (hfires : w.Fires e)
    (hrest : e.dmin + w.waited e ≤ e.dp) (hsound : w.Sound b coils allMembers) :
    (w.freeBankWork b coils).bank b = w.openedBank b e (e.dp - w.waited e) ∧
      (w.freeBankWork b coils).store =
        w.store.afterReport before r after plan b .opened (some e.level) ∧
      (w.freeBankWork b coils).run = w.run := by
  have hopened := State.openEntry_opened h.serves rfl h.queue h.id hsound (e.dp - w.waited e)
  rw [h.freeBankWork, State.lateStart_rest h.queue h.pending hfires hrest, State.headTest_of_ne_idle]
  · exact hopened
  · rw [hopened.1]
    exact BankState.noConfusion

end LateStart

end Sys2Proof.Machine

namespace Sys2Proof.Laws.ValveBanks

open Sys2Proof Sys2Proof.Machine

/-- Settles O35: both events free the bank, whose head test or late start follows. -/
theorem bankFrees : Obligations.BankFrees := by
  unfold Obligations.BankFrees
  intro bank coils s hs hdebt at_
  refine ⟨fun due hstate hqueue => ?_, fun due e hstate hhead hlevel hbar => ?_,
    fun due target hstate hqueue => ?_, fun c level due hc => ?_,
    fun h => execRechargeExpiry_none hs h coils, fun h => execSwitchExpiry_none hs h coils⟩
  · rw [execRechargeExpiry_settling hs hstate, State.freeBankWork_of_empty]
    · rfl
    · rw [State.bank_freed]
      exact hqueue
    · rw [State.bank_freed]
      exact hdebt
  · rw [execRechargeExpiry_settling hs hstate, State.freeBankWork_switches (target := e.level),
      State.startSwitch_freed]
    · rfl
    · rw [State.bank_freed]
    · refine State.switchWanted_other ?_ ?_ hbar
      · rw [State.bank_freed]
        exact hhead
      · rw [State.bank_freed]
        exact hlevel
  · rw [execSwitchExpiry_switching hs hstate, State.freeBankWork_of_empty]
    · rfl
    · rw [State.bank_freed]
      exact hqueue
    · rw [State.bank_freed]
      exact hdebt
  · have hexec : exec c s = .next (closeEvent s
        (((s.atTime due).freed bank level).freeBankWork bank coils)) := by
      rcases hc with ⟨rfl, hstate, rfl⟩ | ⟨rfl, hstate⟩
      · exact execRechargeExpiry_settling hs hstate coils
      · exact execSwitchExpiry_switching hs hstate coils
    have hbank := State.bank_freed (s.atTime due) bank level
    dsimp only
    rw [hexec]
    refine ⟨fun e hhead hlevel hbar => ?_, fun e hhead hpending hlevel => ?_, ?_⟩
    · rw [State.freeBankWork_switches (target := e.level), State.startSwitch_freed]
      · rfl
      · rw [hbank]
      · refine State.switchWanted_other ?_ ?_ hbar
        · rw [hbank]
          exact hhead
        · rw [hbank]
          exact hlevel
    · have hnone : ∀ x ∈ (((s.atTime due).freed bank level).bank bank).queue, x.state ≠ .pending := by
        rw [hbank]
        exact hpending
      have hwanted : ((s.atTime due).freed bank level).switchWanted bank = none := by
        refine State.switchWanted_own (e := e) ?_ ?_
        · rw [hbank]
          exact hhead
        · rw [hbank]
          exact hlevel
      rw [State.freeBankWork_rests (by rw [hbank]) hwanted hnone (by rw [hbank]; exact hdebt)]
      rfl
    · intro e r plan before after since hqueue hpending hsince hlevel hrecords hid halone hwork hplan hawaits
        hedge
      have hlate : ((s.atTime due).freed bank level).LateStarts before r after plan bank e :=
        { serves := ⟨⟨hrecords, halone⟩, hplan, hwork, hawaits, hedge⟩
          id := hid
          idle := by rw [hbank]
          queue := by rw [hbank]; exact hqueue
          pending := hpending
          level := by rw [hbank]; exact hlevel
          debt := by rw [hbank]; exact hdebt }
      have hworks : WorksOn bank e.track ((s.atTime due).freed bank level)
          (((s.atTime due).freed bank level).freeBankWork bank coils) := by
        rw [hlate.freeBankWork]
        exact (WorksOn.lateStart coils _).trans (.headTest _)
      have hworking := hlate.serves.working hlate.queue hlate.id
      have hwaited : ((s.atTime due).freed bank level).waited e =
          ((laterOf s.timeBase due - since).toNat + 499) / 500 := by
        simp only [State.waited, hsince]
        rfl
      have hloses := fun cause hlost => hlate.closeEvent_loses (cause := cause) (coils := coils) hlost s
      have hempty : ({ ((s.atTime due).freed bank level).bank bank with queue := [] } : Bank) =
          { s.bank bank with queue := [], level := level, state := .idle } := by
        rw [hbank]
        rfl
      rw [hempty] at hloses
      refine ⟨_, rfl, ?_, fun b hb => ?_, fun hrun => ?_, fun hfire => ?_, fun hfire hsusp => ?_,
        fun hfire hsusp => ⟨fun hshed hhigh => ?_, fun hpressure => ⟨fun hshort => ?_, fun hrest hsound => ?_⟩⟩⟩
      · rw [closeEvent_timeBase, (BankSide.freeBankWork _ bank coils).timeBase]
        rfl
      · rw [State.bank_closeEvent, hworks.bank_ne hworking b hb]
        exact State.bank_setBank_ne _ _ hb
      · rw [closeEvent_run]
        exact hworks.run hworking hrun
      · obtain ⟨hlost, hflag⟩ := hloses .inhibited (State.lateStart_inhibited hlate.queue hpending hfire)
        exact ⟨hlost, hflag rfl⟩
      · exact (hloses .suspended (State.lateStart_suspended hlate.queue hpending hfire hsusp)).1
      · exact (hloses .pressure (State.lateStart_pressure hlate.queue hpending hfire hsusp
          ⟨hshed, hhigh⟩)).1
      · exact (hloses .lateStart (State.lateStart_short hlate.queue hpending ⟨hfire, hsusp, hpressure⟩
          (by rw [hwaited]; exact hshort))).1
      · obtain ⟨hopened, hstore, hrun⟩ := hlate.opens (coils := coils) ⟨hfire, hsusp, hpressure⟩
          (by rw [hwaited]; exact hrest)
          ⟨hfire, fun m _ => (hsound m).1, fun m _ => (hsound m).2.2⟩
        refine ⟨?_, (closeEvent_store _ _).trans hstore, (closeEvent_run _ _).trans hrun⟩
        rw [State.bank_closeEvent, hopened, hwaited, State.openedBank_closed, hbank]
        · rfl
        · rw [hbank]
          exact fun m => (hsound m).2.1

end Sys2Proof.Laws.ValveBanks

/-!
SUPPORT. A record that enters the store in its place, its planning event, and O26 (3.2, 3.5, 3.9).
-/

namespace Sys2Proof.Machine

/-! ### Store order (R40) -/

theorem goesBefore_iff (r x : Record) : goesBefore r x = true ↔
    (serialDiff r.pArr x.pArr < 0 ∨ (serialDiff r.pArr x.pArr = 0 ∧ r.born < x.born)) := by
  simp [goesBefore]

/-- A placed record stands behind the records that it does not go before, ahead of the first that it does. -/
theorem place_split (r : Record) (l : List Record) :
    ∃ before after, l = before ++ after ∧ place r l = before ++ r :: after ∧ r.placed before after := by
  induction l with
  | nil => exact ⟨[], [], rfl, rfl, by simp [Record.placed]⟩
  | cons x xs ih =>
    unfold place
    by_cases hx : goesBefore r x = true
    · refine ⟨[], x :: xs, rfl, if_pos hx, by simp, fun y rest hy => ?_⟩
      obtain ⟨rfl, -⟩ := List.cons.inj hy
      exact (goesBefore_iff r x).mp hx
    · obtain ⟨before, after, rfl, hplace, hbehind, hahead⟩ := ih
      refine ⟨x :: before, after, rfl, (if_neg hx).trans (by rw [hplace]; rfl), fun y hy => ?_, hahead⟩
      rcases List.mem_cons.mp hy with rfl | hy
      · exact fun hfirst => hx ((goesBefore_iff r y).mpr hfirst)
      · exact hbehind y hy

/-- The store with a new record between others, under the next id, counted in CREATED (R41, R43). -/
def Store.created (st : Store) (before : List Record) (r : Record) (after : List Record) : Store :=
  { st with
    records := before ++ r :: after
    nextId := st.idToUse + 1
    births := st.births + 1
    globals := { st.globals with created := satInc st.globals.created } }

theorem State.createRecord_eq {s : State} (hroom : s.store.records.length < 512)
    (make : TrackId → Nat → Record) {r : Record} (hr : make s.store.idToUse s.store.births = r)
    (hid : r.id = s.store.idToUse) :
    ∃ before after, s.store.records = before ++ after ∧ r.placed before after ∧
      s.createRecord make = { s with store := s.store.created before r after } ∧
      ({ s with store := s.store.created before r after } : State).Holds before r after := by
  obtain ⟨before, after, hsplit, hplace, hplaced⟩ := place_split r s.store.records
  refine ⟨before, after, hsplit, hplaced, ?_, rfl, fun x hx => ?_⟩
  · unfold State.createRecord
    rw [hr, hplace]
    rfl
  · rw [hid]
    intro hheld
    refine s.store.idToUse_fresh (by omega) (hheld ▸ List.mem_map_of_mem ?_)
    rw [hsplit]
    exact hx

/-! ### The planning event (R50, R51) -/

/-- A record at its planning event. -/
def State.due (s : State) (r : Record) : Record :=
  if r.state = .joining then { s.resolveReady r r.aPart none with reached := true }
  else { r with reached := true }

theorem State.due_same (s : State) (r : Record) :
    (s.due r).id = r.id ∧ (s.due r).pArr = r.pArr ∧ (s.due r).length = r.length ∧
      (s.due r).born = r.born := by
  unfold State.due
  split <;> exact ⟨rfl, rfl, rfl, rfl⟩

namespace State.Holds

variable {s : State} {before after : List Record} {r : Record}

theorem planningEvent (h : s.Holds before r after) :
    s.planningEvent r.id = ({ s with store := { s.store with
      records := before ++ s.due r :: after } } : State).dealReady r.id := by
  unfold State.planningEvent
  rw [h.modRecord]
  rfl

theorem horizonTest_beyond (h : s.Holds before r after) (hfar : s.withinHorizon r = false) :
    s.horizonTest r.id = s := by
  unfold State.horizonTest
  rw [h.record?]
  exact if_neg (by simp [hfar])

theorem horizonTest_within (h : s.Holds before r after) (hmark : r.reached = false)
    (hnear : s.withinHorizon r = true) : s.horizonTest r.id = s.planningEvent r.id := by
  unfold State.horizonTest
  rw [h.record?]
  exact if_pos ⟨hmark, hnear⟩

/-- A READY record by its route copy: PASSED by a PASS route (R51). -/
theorem dealReady_pass (h : s.Holds before r after) (hstate : r.state = .ready) {res : Resolution}
    (hres : r.resolution = some res) (hpass : res.route.destination = .pass)
    (hedge : s.edgePassed r = false) :
    s.dealReady r.id = { s with store := { s.store with
      records := before ++ { r with state := .passed, missCause := none } :: after } } := by
  refine Eq.trans ?_ (h.endRecord hedge .passed none)
  simp only [State.dealReady, h.record?, hstate, hres, hpass]
  rfl

/-- A READY record by its route copy: a planning pass on the bar that it names (R51). -/
theorem dealReady_bar (h : s.Holds before r after) (hstate : r.state = .ready) {res : Resolution}
    (hres : r.resolution = some res) {bar : Bar} (hbar : res.route.destination.bar? = some bar) :
    s.dealReady r.id = s.planPass r res.route bar := by
  simp only [State.dealReady, h.record?, hstate, hres, hbar]

end State.Holds

/-- A record too slow to plan is held short of the bar (R82). -/
theorem State.planPass_held {s : State} {r : Record} {bar : Bar} (hslow : s.belt.v < s.settings.vmin)
    (hshort : atOrPast s.belt.tc (posPlus r.pArr (s.settings.trim bar)) = false) (route : Route) :
    s.planPass r route bar = s := by
  unfold State.planPass
  rw [if_pos hslow, if_neg (by simp [hshort])]

/-! ### A record at its creation (R43, R47, R60) -/

/-- The state with a record in the store between others. -/
def State.withRecord (s : State) (before : List Record) (q : Record) (after : List Record) : State :=
  { s with store := s.store.created before q after }

theorem State.created_withRecord {s : State} {before after : List Record} {r q : Record}
    (hsplit : s.store.records = before ++ after) (hplaced : r.placed before after)
    (hid : q.id = s.store.idToUse) (hpArr : q.pArr = r.pArr) (hborn : q.born = r.born) :
    s.Created q (s.withRecord before q after) := by
  refine ⟨rfl, rfl, rfl, hid, before, after, hsplit, rfl, ?_⟩
  unfold Record.placed at *
  rw [hpArr, hborn]
  exact hplaced

/-- What a new record becomes at its creation: it stays as it is beyond the horizon; within it a PASS route
passes it at once, and a record too slow to plan is held (R50, R51, R82). -/
inductive State.Becomes (s : State) (r : Record) : Record → Prop where
  | waits (h : s.withinHorizon r = false) : s.Becomes r r
  | passes {res : Resolution} (h : s.withinHorizon r = true) (hready : (s.due r).state = .ready)
      (hres : (s.due r).resolution = some res) (hpass : res.route.destination = .pass)
      (hedge : s.edgePassed r = false) :
      s.Becomes r { s.due r with state := .passed, missCause := none }
  | held {res : Resolution} {bar : Bar} (h : s.withinHorizon r = true)
      (hready : (s.due r).state = .ready) (hres : (s.due r).resolution = some res)
      (hbar : res.route.destination.bar? = some bar) (hslow : s.belt.v < s.settings.vmin)
      (hshort : atOrPast s.belt.tc (posPlus r.pArr (s.settings.trim bar)) = false) :
      s.Becomes r (s.due r)

/-- The horizon test of a record that the store has just taken. -/
theorem State.horizonTest_withRecord {s : State} {before after : List Record} {r q : Record}
    (h : (s.withRecord before r after).Holds before r after) (hmark : r.reached = false)
    (hq : s.Becomes r q) :
    (s.withRecord before r after).horizonTest r.id = s.withRecord before q after := by
  obtain ⟨hid, hpArr, hlength, -⟩ := s.due_same r
  have hdue : (s.withRecord before (s.due r) after).Holds before (s.due r) after := h.change rfl hid
  have hplanning : (s.withRecord before r after).planningEvent r.id =
      (s.withRecord before (s.due r) after).dealReady (s.due r).id := by
    rw [hid]
    exact h.planningEvent
  cases hq with
  | waits hfar => exact h.horizonTest_beyond hfar
  | passes hnear hready hres hpass hedge =>
    have hstill : (s.withRecord before (s.due r) after).edgePassed (s.due r) = false := by
      unfold State.edgePassed at hedge ⊢
      rw [hpArr, hlength]
      exact hedge
    rw [h.horizonTest_within hmark hnear, hplanning, hdue.dealReady_pass hready hres hpass hstill]
    rfl
  | held hnear hready hres hbar hslow hshort =>
    rw [h.horizonTest_within hmark hnear, hplanning, hdue.dealReady_bar hready hres hbar]
    exact State.planPass_held (s := s.withRecord before (s.due r) after) hslow
      (by rw [hpArr]; exact hshort) _

/-- A new record enters the store, where no purge is owed. -/
theorem State.addRecord_created {s : State} (hroom : s.store.records.length < 512) (hdebts : s.noDebts)
    (make : TrackId → Nat → Record) {r q : Record} (hr : make s.store.idToUse s.store.births = r)
    (hid : r.id = s.store.idToUse) (hmark : r.reached = false) (hq : s.Becomes r q) (coils : Coils) :
    s.addRecord make coils = { s with store := (s.addRecord make coils).store } ∧
      s.Created q (s.addRecord make coils) := by
  obtain ⟨before, after, hsplit, hplaced, hcreate, hholds⟩ := State.createRecord_eq hroom make hr hid
  have hsame : q.id = r.id ∧ q.pArr = r.pArr ∧ q.born = r.born := by
    obtain ⟨hid, hpArr, -, hborn⟩ := s.due_same r
    cases hq with
    | waits => exact ⟨rfl, rfl, rfl⟩
    | passes => exact ⟨hid, hpArr, hborn⟩
    | held => exact ⟨hid, hpArr, hborn⟩
  have hadd : s.addRecord make coils = s.withRecord before q after := by
    unfold State.addRecord
    rw [hcreate, ← hid]
    have htest : ({ s with store := s.store.created before r after } : State).horizonTest r.id =
        s.withRecord before q after := State.horizonTest_withRecord hholds hmark hq
    rw [htest]
    exact State.purgeTests_of_noDebts (s := s.withRecord before q after) hdebts coils
  rw [hadd]
  exact ⟨rfl, State.created_withRecord hsplit hplaced (hsame.1.trans hid) hsame.2.1 hsame.2.2⟩

end Sys2Proof.Machine

namespace Sys2Proof.Machine

/-! ### INJECT (R60) -/

/-- A piece that has not passed the eject line has its trailing edge before it. -/
theorem atOrPast_posPlus_of_ahead {tc p : Pos} {n : Nat} (h : 0 ≤ serialDiff p tc)
    (hreach : serialDiff p tc ≤ 16777215) (hn : 1 ≤ n) (hlong : n ≤ 65535) :
    atOrPast tc (posPlus p n) = false := by
  have hsum : posPlus p n = p + BitVec.ofNat 32 n := by
    unfold posPlus
    rw [BitVec.ofInt_natCast]
  have hback : tc - (p + BitVec.ofNat 32 n) = -((p - tc) + BitVec.ofNat 32 n) := by
    bv_omega
  unfold atOrPast serialDiff at *
  rw [hsum, hback]
  generalize p - tc = d at *
  have hd := BitVec.toInt_eq_toNat_cond d
  have hlt := d.isLt
  have hsmall : d.toNat ≤ 16777215 := by
    split at hd <;> omega
  have hneg := BitVec.toInt_eq_toNat_cond (-(d + BitVec.ofNat 32 n))
  have hnat : (-(d + BitVec.ofNat 32 n)).toNat = 4294967296 - (d.toNat + n) := by
    rw [BitVec.toNat_neg, BitVec.toNat_add, BitVec.toNat_ofNat]
    omega
  rw [hnat] at hneg
  refine decide_eq_false ?_
  rw [hneg]
  split <;> omega

theorem classOfCode_lt {n : Nat} (h : n < 32) : classOfCode n = ⟨n, h⟩ := dif_pos h

theorem modeByte_iff (mode : Byte) : mode.toNat = 1 ↔ mode = 1 := by
  constructor
  · intro h
    exact BitVec.eq_of_toNat_eq h
  · rintro rfl
    rfl

section Inject

variable {s : State} (hs : s.ready) (tag : Byte) {payload : List Byte} (hlen : payload.length = 10)
  (coils : Coils)

include hs hlen

theorem execInject_refused {status : Status}
    (h : (s.run ≠ .run ∧ status = .refusedState) ∨
      (s.run = .run ∧ (readInject payload).valid s.belt.tc = false ∧ status = .range) ∨
      (s.run = .run ∧ (readInject payload).valid s.belt.tc = true ∧ s.store.full = true ∧
        status = .refusedBusy)) :
    exec (.inject tag payload coils) s = .next (closeEvent s (s.replied 0x92 tag [status.code])) := by
  show execInject tag payload coils s = _
  unfold execInject
  refine serve_refused hs (by simp [hlen]) ?_
  dsimp only
  rcases h with ⟨hrun, rfl⟩ | ⟨hrun, hvalid, rfl⟩ | ⟨hrun, hvalid, hfull, rfl⟩
  · rw [if_pos hrun]
  · rw [if_neg (by simp [hrun]), if_pos hvalid]
  · rw [if_neg (by simp [hrun]), if_neg (by simp [hvalid]), if_pos hfull]

theorem execInject_taken (hrun : s.run = .run) (hvalid : (readInject payload).valid s.belt.tc = true)
    (hroom : s.store.full = false) :
    exec (.inject tag payload coils) s = .next (closeEvent s
      ((s.addRecord (s.injected (readInject payload)) coils).replied 0x92 tag
        (0x00 :: bytes2 s.store.idToUse.toNat))) := by
  show execInject tag payload coils s = _
  unfold execInject
  refine serve_taken hs (by simp [hlen]) ?_
  dsimp only
  rw [if_neg (by simp [hrun]), if_neg (by simp [hvalid]), if_neg (by simp [hroom])]

end Inject

end Sys2Proof.Machine

namespace Sys2Proof.Laws.TrackStore

open Sys2Proof Sys2Proof.Machine

/-- Settles O26: the tests in order, and what the new record becomes. -/
theorem inject : Obligations.Inject := by
  unfold Obligations.Inject
  intro tag f l hi lo cls mode p3 p2 p1 p0 coils s hs c position pArr inRange
  have harrival : (readInject [f, l, hi, lo, cls, mode, p3, p2, p1, p0]).arrival s.belt.tc = pArr := by
    show (if mode.toNat = 1 then _ else _) = _
    simp only [modeByte_iff]
    rfl
  have hvalid : (readInject [f, l, hi, lo, cls, mode, p3, p2, p1, p0]).valid s.belt.tc = true ↔ inRange := by
    unfold InjectFields.valid
    rw [harrival, decide_eq_true_iff]
    rfl
  have hfull : s.store.full = true ↔ 512 ≤ s.store.records.length := decide_eq_true_iff
  refine ⟨fun hrun => execInject_refused (status := .refusedState) hs tag rfl coils (.inl ⟨hrun, rfl⟩),
    fun hrun hrange => execInject_refused (status := .range) hs tag rfl coils
      (.inr (.inl ⟨hrun, Bool.eq_false_iff.mpr fun h => hrange (hvalid.mp h), rfl⟩)),
    fun hrun hrange hlong => execInject_refused (status := .refusedBusy) hs tag rfl coils
      (.inr (.inr ⟨hrun, hvalid.mpr hrange, hfull.mpr hlong, rfl⟩)), ?_⟩
  intro hrun hrange hroom hdebts hc k route made creates
  have hexec := execInject_taken hs tag rfl coils hrun (hvalid.mpr hrange)
    (Bool.eq_false_iff.mpr fun h => absurd (hfull.mp h) (by omega))
  have hr : s.injected (readInject [f, l, hi, lo, cls, mode, p3, p2, p1, p0]) s.store.idToUse s.store.births =
      made .ready false := by
    unfold State.injected
    rw [harrival]
    simp only [readInject, byteAt, List.getD_cons_zero, List.getD_cons_succ, classOfCode_lt hc]
    rfl
  have hcreates : ∀ q, s.Becomes (made .ready false) q → creates q := by
    intro q hq
    obtain ⟨hstore, hcreated⟩ := State.addRecord_created hroom hdebts _ hr rfl rfl hq coils
    exact ⟨_, hexec, hstore, hcreated⟩
  obtain ⟨-, -, hlength, -, -, hahead, hreach⟩ := hrange
  have hlong : read2 hi lo ≤ 65535 := by
    have hhi := hi.isLt
    have hlo := lo.isLt
    unfold read2
    omega
  refine ⟨fun hfar => hcreates _ (.waits (decide_eq_false (by exact not_le.mpr hfar))), fun hnear =>
    ⟨fun hpass => hcreates _ (.passes (decide_eq_true hnear) rfl rfl hpass
        (atOrPast_posPlus_of_ahead hahead hreach hlength hlong)),
      fun bar hbar hslow hshort =>
        hcreates _ (.held (decide_eq_true hnear) rfl rfl hbar hslow hshort)⟩⟩

end Sys2Proof.Laws.TrackStore

/-!
SUPPORT. A bound report in RUN, and O22 (2.6, 3.2).
-/

namespace Sys2Proof.Machine

/-! ### The report handed on (R32, R35, R36) -/

/-- A report whose fields lie in their ranges is handed on as it stands (R32). -/
theorem ReportFields.clamped_of_inRange {r : ReportFields} (hcolumns : r.first ≤ r.last) (hlast : r.last ≤ 63)
    (hlength : 0 < r.length) (hcls : r.cls < 32) (hconf : r.confidence ≤ 15) : r.clamped = r := by
  have hfirst : min r.first 63 = r.first := by omega
  have hlast' : min r.last 63 = r.last := by omega
  unfold ReportFields.clamped
  rw [hfirst, hlast', if_pos hcls]
  dsimp only
  rw [min_eq_left hcolumns, max_eq_right hcolumns, max_eq_left (by omega), min_eq_left hconf]

theorem readReport_part (seq first last hi lo conf : Byte) (position : Pos) {cls : Byte}
    (hc : cls.toNat < 32) : (readReport [seq, first, last, hi, lo, cls, conf]).part position =
      { position := position, first := first.toNat, last := last.toNat, length := read2 hi lo
        cls := ⟨cls.toNat, hc⟩, confidence := conf.toNat } := by
  unfold ReportFields.part
  simp only [readReport, byteAt, List.getD_cons_zero, List.getD_cons_succ, classOfCode_lt hc]

theorem State.popOldest_track (s : State) (c : Channel) : (s.popOldest c).cursors.track = s.cursors.track := by
  unfold State.popOldest
  split
  · rfl
  · rfl

/-- The state in which the report of the one entry of a head's FIFO is handed on. -/
theorem State.asked_only (s : State) (h : Head) (payload : List Byte) {e : LatchEntry}
    (hfifo : (s.latch (channelOfLine (lineOfHead h))).fifo = [e]) :
    ∃ la hd k fl l, (s.asked h payload).popOldest (channelOfLine (lineOfHead h)) =
      { s with latches := la, heads := hd, cursors := k, flags := fl, link := l } ∧
      hd.b.present = s.heads.b.present ∧ (la.get (channelOfLine (lineOfHead h))).fifo = [] ∧
      k.track = s.cursors.track := by
  obtain ⟨k, fl, l, hbound, -⟩ := s.asked_bound h payload (older := []) (newer := []) hfifo
  have htrack : ((s.asked h payload).popOldest (channelOfLine (lineOfHead h))).cursors.track =
      s.cursors.track := by
    obtain ⟨fl', l', hask, -⟩ := s.asked_eq h payload
    rw [State.popOldest_track, hask]
  refine ⟨_, _, k, fl, l, hbound, ?_, congrArg Latch.fifo (Latches.get_put _ _ _), ?_⟩
  · cases h <;> rfl
  · rw [← htrack]
    exact (congrArg (fun t => t.cursors.track) hbound).symm

/-- A report bound to the one entry of its head's FIFO, its fields in range. -/
theorem execReport_only {s : State} (hs : s.powered = true) (h : Head)
    {payload : List Byte} (hlen : payload.length = 7) {e : LatchEntry}
    (hfifo : (s.latch (channelOfLine (lineOfHead h))).fifo = [e]) (hseq : e.seq = (readReport payload).seq)
    (hrange : (readReport payload).clamped = readReport payload) (coils : Coils) :
    ∃ la hd k fl l, let w : State := { s with latches := la, heads := hd, cursors := k, flags := fl, link := l }
      exec (.report h payload coils) s = .next (closeEvent s
        (w.handReport h ((readReport payload).part e.position) coils)) ∧
      hd.b.present = s.heads.b.present ∧ (la.get (channelOfLine (lineOfHead h))).fifo = [] ∧
      k.track = s.cursors.track := by
  obtain ⟨la, hd, k, fl, l, heq, hpresent, hempty, htrack⟩ := s.asked_only h payload hfifo
  refine ⟨la, hd, k, fl, l, ?_, hpresent, hempty, htrack⟩
  obtain ⟨fl', l', hask, -⟩ := s.asked_eq h payload
  have hfifo' : ((s.asked h payload).latch (channelOfLine (lineOfHead h))).fifo = [] ++ e :: [] := by
    rw [hask]
    exact hfifo
  refine (execReport_powered hs h payload coils).trans ?_
  rw [State.takeReport_asked s h hlen, State.bind_bound hfifo' (by rw [hrange]; exact hseq) (by simp), hrange]
  refine congrArg (fun t => Host.Outcome.next (closeEvent s t)) ?_
  exact congrArg (State.handReport · h _ coils) heq

theorem State.Created.of_store {s t w u : State} {r : Record} (h : w.Created r u)
    (hs : s.store = w.store) (ht : t.store = u.store) : s.Created r t := by
  unfold State.Created at *
  rw [hs, ht]
  exact h

/-- A dropped report is counted under its unresolved class, and nothing else of the store changes (R44). -/
theorem State.dropReport_store (s : State) (p : HeadPart) :
    (s.dropReport p).store.records = s.store.records ∧ (s.dropReport p).store.globals = s.store.globals ∧
      (s.dropReport p).store.nextId = s.store.nextId ∧
      ∀ c : ClassCode, (s.dropReport p).store.classTallies[c] =
        if c = s.candidateClass p then
          { s.store.classTallies[c] with dropped := satInc s.store.classTallies[c].dropped }
        else s.store.classTallies[c] := by
  refine ⟨rfl, rfl, rfl, fun c => ?_⟩
  unfold State.dropReport State.modTally
  by_cases hc : c = s.candidateClass p
  · subst hc
    simp
  · have hval : ¬(s.candidateClass p).val = c.val := fun h => hc (Fin.ext h.symm)
    simp [hc, hval]

theorem State.full_iff (s : State) : s.store.full = true ↔ 512 ≤ s.store.records.length := decide_eq_true_iff

theorem State.createOrDrop_room {s : State} (h : s.store.records.length < 512) (p : HeadPart)
    (make : TrackId → Nat → Record) (coils : Coils) :
    s.createOrDrop p make coils = s.addRecord make coils :=
  if_neg fun hfull => absurd (s.full_iff.mp hfull) (by omega)

theorem State.createOrDrop_full {s : State} (h : 512 ≤ s.store.records.length) (p : HeadPart)
    (make : TrackId → Nat → Record) (coils : Coils) : s.createOrDrop p make coils = s.dropReport p :=
  if_pos (s.full_iff.mpr h)

/-- A report that creates: what the new record becomes is in the store after the event. -/
theorem closeEvent_createOrDrop_room {s w : State} (hstore : w.store = s.store)
    (hroom : s.store.records.length < 512) (hdebts : w.noDebts) (p : HeadPart)
    {make : TrackId → Nat → Record} {r q : Record} (hr : make s.store.idToUse s.store.births = r)
    (hid : r.id = s.store.idToUse) (hmark : r.reached = false) (hq : w.Becomes r q) (coils : Coils) :
    s.Created q (closeEvent s (w.createOrDrop p make coils)) := by
  rw [← hstore] at hroom hr hid
  obtain ⟨-, hcreated⟩ := State.addRecord_created hroom hdebts make hr hid hmark hq coils
  rw [State.createOrDrop_room hroom]
  exact hcreated.of_store hstore.symm (closeEvent_store _ _)

/-- A report that a full store drops (R44). -/
theorem closeEvent_createOrDrop_full {s w : State} (hstore : w.store = s.store)
    (hfull : 512 ≤ s.store.records.length) (p : HeadPart) (make : TrackId → Nat → Record) (coils : Coils) :
    let t := closeEvent s (w.createOrDrop p make coils)
    t.flag .storeFull = true ∧ t.store.records = s.store.records ∧
      t.store.globals = s.store.globals ∧ t.store.nextId = s.store.nextId ∧
      ∀ c : ClassCode, t.store.classTallies[c] =
        if c = w.candidateClass p then
          { s.store.classTallies[c] with dropped := satInc s.store.classTallies[c].dropped }
        else s.store.classTallies[c] := by
  intro t
  have hdrop : w.createOrDrop p make coils = w.dropReport p :=
    State.createOrDrop_full (by rw [hstore]; exact hfull) p make coils
  have hflag : t.flag .storeFull = true := by
    refine (closeEvent_flag _ _ (by decide)).trans ?_
    rw [hdrop]
    exact (State.flag_setFlag _ .storeFull .storeFull).trans (by simp)
  have htstore : t.store = (w.dropReport p).store := by rw [← hdrop]; exact closeEvent_store _ _
  have hkept := w.dropReport_store p
  rw [hstore] at hkept
  rw [htstore]
  exact ⟨hflag, hkept⟩

theorem State.handReport_latches (s : State) (h : Head) (p : HeadPart) (coils : Coils) :
    (s.handReport h p coils).latches = s.latches := (BankSide.handReport s h p coils).latches

theorem State.handReport_a {s : State} (hrun : s.run = .run) (p : HeadPart) (coils : Coils) :
    s.handReport .a p coils = s.reportA p coils := if_pos hrun

theorem State.handReport_b {s : State} (hrun : s.run = .run) (p : HeadPart) (coils : Coils) :
    s.handReport .b p coils = s.reportB p coils := if_pos hrun

theorem posPlus_natCast (p : Pos) (n : Nat) : posPlus p n = p + BitVec.ofNat 32 n := by
  unfold posPlus
  rw [BitVec.ofInt_natCast]

namespace State.Becomes

variable {s : State} {r d : Record} {res : Resolution} (hdue : s.due r = d)
  (hnear : serialDiff d.pArr s.belt.tc ≤ (s.settings.horizon : Int)) (hready : d.state = .ready)
  (hres : d.resolution = some res)

include hdue hnear hready hres

theorem passed (hpass : res.route.destination = .pass)
    (hedge : atOrPast s.belt.tc (posPlus d.pArr d.length) = false) :
    s.Becomes r { d with state := .passed, missCause := none } := by
  subst hdue
  obtain ⟨-, hpArr, hlength, -⟩ := s.due_same r
  refine .passes (decide_eq_true ?_) hready hres hpass ?_
  · rw [← hpArr]
    exact hnear
  · unfold State.edgePassed
    rw [← hpArr, ← hlength]
    exact hedge

theorem slow {bar : Bar} (hbar : res.route.destination.bar? = some bar)
    (hslow : s.belt.v < s.settings.vmin)
    (hshort : atOrPast s.belt.tc (posPlus d.pArr (s.settings.trim bar)) = false) : s.Becomes r d := by
  subst hdue
  obtain ⟨-, hpArr, -⟩ := s.due_same r
  refine .held (decide_eq_true ?_) hready hres hbar hslow ?_
  · rw [← hpArr]
    exact hnear
  · rw [← hpArr]
    exact hshort

end State.Becomes

/-- The record that a head A report makes (R43). -/
def State.headARecord (s : State) (p : HeadPart) (id : TrackId) (born : Nat) : Record :=
  let r := newRecord (p.position + BitVec.ofNat 32 s.settings.dA) (some p) none p id born
  if s.heads.b.present then r else s.resolveReady r (some p) none

theorem State.reportA_eq (s : State) (p : HeadPart) (coils : Coils) :
    s.reportA p coils = s.createOrDrop p (s.headARecord p) coils := by
  unfold State.reportA
  rw [posPlus_natCast]
  rfl

/-- At its planning event it is READY, resolved from its A part, whatever head B is (R50). -/
theorem State.due_headARecord (s : State) (p : HeadPart) (id : TrackId) (born : Nat) :
    s.due (s.headARecord p id born) =
      { newRecord (p.position + BitVec.ofNat 32 s.settings.dA) (some p) none p id born with
        state := .ready, reached := true
        resolution := some { cls := s.candidateClass p, route := s.route (s.candidateClass p) } } := by
  unfold State.headARecord
  dsimp only
  split <;> rfl

theorem State.headARecord_same (s : State) (p : HeadPart) (id : TrackId) (born : Nat) :
    (s.headARecord p id born).id = id ∧ (s.headARecord p id born).reached = false ∧
      (s.headARecord p id born).pArr = p.position + BitVec.ofNat 32 s.settings.dA ∧
      (s.headARecord p id born).length = p.length := by
  unfold State.headARecord
  dsimp only
  split <;> exact ⟨rfl, rfl, rfl, rfl⟩

/-- Head A's report creates its record (R43). -/
theorem closeEvent_reportA_room {s w : State} (hstore : w.store = s.store)
    (hroom : s.store.records.length < 512) (hdebts : w.noDebts) (p : HeadPart) {q : Record}
    (hq : w.Becomes (w.headARecord p s.store.idToUse s.store.births) q) (coils : Coils) :
    s.Created q (closeEvent s (w.reportA p coils)) := by
  obtain ⟨hid, hmark, -⟩ := w.headARecord_same p s.store.idToUse s.store.births
  rw [State.reportA_eq]
  exact closeEvent_createOrDrop_room hstore hroom hdebts p rfl hid hmark hq coils

end Sys2Proof.Machine

namespace Sys2Proof.Laws.TrackStore

open Sys2Proof Sys2Proof.Machine

/-- Settles O22: the report is handed on as it stands, and creates its record or is dropped. -/
theorem headACreates : Obligations.HeadACreates := by
  unfold Obligations.HeadACreates
  intro seq cls conf first last hi lo e coils s hs hrun hdebts hfifo hseq hcolumns hlast hlength hconf hc k
    part unresolved route pArr made resolved
  have hrange : (readReport [seq, first, last, hi, lo, cls, conf]).clamped =
      readReport [seq, first, last, hi, lo, cls, conf] :=
    ReportFields.clamped_of_inRange hcolumns hlast hlength hc hconf
  have hpart : (readReport [seq, first, last, hi, lo, cls, conf]).part e.position = part :=
    readReport_part seq first last hi lo conf e.position hc
  obtain ⟨la, hd, cursors, flags, link, hexec, hpresent, hempty, -⟩ :=
    execReport_only hs .a (payload := [seq, first, last, hi, lo, cls, conf]) rfl hfifo hseq hrange coils
  rw [hpart] at hexec
  refine ⟨_, hexec, ?_, fun hroom => ?_, fun hfull => ?_⟩
  · rw [closeEvent_latches, State.handReport_latches]
    exact hempty
  · rw [State.handReport_a (by exact hrun)]
    have hcreates := fun q hq => closeEvent_reportA_room (s := s) (q := q)
      (w := { s with latches := la, heads := hd, cursors := cursors, flags := flags, link := link })
      rfl hroom hdebts part hq coils
    have hdue := State.due_headARecord
      { s with latches := la, heads := hd, cursors := cursors, flags := flags, link := link }
      part s.store.idToUse s.store.births
    obtain ⟨-, -, hpArr, -⟩ := State.headARecord_same
      { s with latches := la, heads := hd, cursors := cursors, flags := flags, link := link }
      part s.store.idToUse s.store.births
    refine ⟨fun hfar => ?_, fun hnear => ⟨fun hpass hedge => ?_, fun bar hbar hslow hshort => ?_⟩⟩
    · have hwaits := hcreates _ (.waits (decide_eq_false (by rw [hpArr]; exact not_le.mpr hfar)))
      refine ⟨fun hb => ?_, fun hb => ?_⟩
      · have hjoining : State.headARecord
            { s with latches := la, heads := hd, cursors := cursors, flags := flags, link := link }
            part s.store.idToUse s.store.births = made .joining false none := if_pos (hpresent.trans hb)
        rw [hjoining] at hwaits
        exact hwaits
      · have hready : State.headARecord
            { s with latches := la, heads := hd, cursors := cursors, flags := flags, link := link }
            part s.store.idToUse s.store.births = made .ready false resolved :=
          if_neg (by rw [hpresent.trans hb]; exact Bool.false_ne_true)
        rw [hready] at hwaits
        exact hwaits
    · exact hcreates _ (.passed hdue hnear rfl rfl hpass hedge)
    · exact hcreates _ (.slow hdue hnear rfl rfl hbar hslow hshort)
  · rw [State.handReport_a (by exact hrun)]
    exact closeEvent_createOrDrop_full (by rfl) hfull part _ coils

end Sys2Proof.Laws.TrackStore

/-!
SUPPORT. The record that a head B report joins, the class of two parts, and O23 (3.3, 3.4).
-/

namespace Sys2Proof.Machine

/-! ### The candidates (R45) -/

theorem State.candidate_iff (s : State) (p : HeadPart) (pArrB : Pos) (r : Record) :
    s.candidate p pArrB r = true ↔
      r.state = .joining ∧
        ((serialDiff r.pArr pArrB).natAbs : Int) ≤
          s.settings.joinTolerance + (if s.belt.slip then s.settings.slipMargin else 0 : Nat) ∧
        ∃ a, r.aPart = some a ∧ p.first ≤ a.last + 2 ∧ a.first ≤ p.last + 2 := by
  have hreach : r.distance pArrB ≤ s.joinReach ↔
      ((serialDiff r.pArr pArrB).natAbs : Int) ≤
        s.settings.joinTolerance + (if s.belt.slip then s.settings.slipMargin else 0 : Nat) := by
    unfold Record.distance State.joinReach
    split <;> omega
  unfold State.candidate
  cases r.aPart with
  | none => simp
  | some a => simp [hreach, and_assoc]

/-- One candidate is chosen before another (R45). -/
def Record.nearer (pArrB : Pos) (x y : Record) : Prop :=
  x.distance pArrB < y.distance pArrB ∨ (x.distance pArrB = y.distance pArrB ∧ x.born ≤ y.born)

theorem Record.nearer_refl (pArrB : Pos) (x : Record) : x.nearer pArrB x := .inr ⟨rfl, le_rfl⟩

theorem Record.nearer_trans {pArrB : Pos} {x y z : Record} (h : x.nearer pArrB y) (k : y.nearer pArrB z) :
    x.nearer pArrB z := by
  unfold Record.nearer at *
  omega

theorem betterCandidate_nearer (pArrB : Pos) (x y : Record) :
    (betterCandidate pArrB x y).nearer pArrB x ∧ (betterCandidate pArrB x y).nearer pArrB y := by
  unfold betterCandidate Record.nearer
  split
  · omega
  · split <;> omega

theorem foldl_betterCandidate_nearer (pArrB : Pos) (l : List Record) (x : Record) :
    ∀ y ∈ x :: l, (l.foldl (betterCandidate pArrB) x).nearer pArrB y := by
  induction l generalizing x with
  | nil =>
    intro y hy
    rw [List.mem_singleton] at hy
    rw [hy]
    exact Record.nearer_refl pArrB x
  | cons z l ih =>
    intro y hy
    obtain ⟨hx, hz⟩ := betterCandidate_nearer pArrB x z
    have hnearer := ih (betterCandidate pArrB x z)
    have hfirst := hnearer _ List.mem_cons_self
    rw [List.foldl_cons]
    rcases List.mem_cons.mp hy with rfl | hy
    · exact Record.nearer_trans hfirst hx
    · rcases List.mem_cons.mp hy with rfl | hy
      · exact Record.nearer_trans hfirst hz
      · exact hnearer y (List.mem_cons_of_mem _ hy)

theorem State.joinChoice_none (s : State) (p : HeadPart) (pArrB : Pos) :
    s.joinChoice p pArrB = none ↔ ∀ r ∈ s.store.records, s.candidate p pArrB r = false := by
  unfold State.joinChoice
  split
  · rename_i hnil
    rw [List.filter_eq_nil_iff] at hnil
    simpa using hnil
  · rename_i r rest hcons
    have hmem : r ∈ s.store.records.filter (s.candidate p pArrB) := by
      rw [hcons]
      exact List.mem_cons_self
    obtain ⟨hstore, hcandidate⟩ := List.mem_filter.mp hmem
    simp only [reduceCtorEq, false_iff]
    intro hnone
    rw [hnone r hstore] at hcandidate
    exact Bool.noConfusion hcandidate

theorem State.joinChoice_some {s : State} {p : HeadPart} {pArrB : Pos} {r : Record}
    (h : s.joinChoice p pArrB = some r) :
    r ∈ s.store.records ∧ s.candidate p pArrB r = true ∧
      ∀ q ∈ s.store.records, s.candidate p pArrB q = true → r.nearer pArrB q := by
  unfold State.joinChoice at h
  split at h
  · cases h
  · rename_i x rest hcons
    obtain rfl := Option.some.inj h
    have hmem := foldl_betterCandidate_mem pArrB rest x
    have hnearer := foldl_betterCandidate_nearer pArrB rest x
    rw [← hcons] at hmem hnearer
    obtain ⟨hstore, hcandidate⟩ := List.mem_filter.mp hmem
    exact ⟨hstore, hcandidate, fun q hq hqcandidate => hnearer q (List.mem_filter.mpr ⟨hq, hqcandidate⟩)⟩

/-! ### The class of two parts (R49) -/

section BetterClass

variable {s : State} {a b : HeadPart}

theorem State.betterClass_lower
    (h : (s.route (s.candidateClass b)).precedence < (s.route (s.candidateClass a)).precedence) :
    s.betterClass a b = s.candidateClass a := if_pos h

theorem State.betterClass_higher
    (h : (s.route (s.candidateClass a)).precedence < (s.route (s.candidateClass b)).precedence) :
    s.betterClass a b = s.candidateClass b := by
  unfold State.betterClass
  dsimp only
  rw [if_neg (by omega), if_pos h]

theorem State.betterClass_tie
    (h : (s.route (s.candidateClass a)).precedence = (s.route (s.candidateClass b)).precedence) :
    s.betterClass a b =
      if a.confidence < b.confidence then s.candidateClass b else s.candidateClass a := by
  unfold State.betterClass
  dsimp only
  rw [if_neg (by omega), if_neg (by omega)]

end BetterClass

/-! ### The join and the creation (R46, R47) -/

/-- A join beyond the horizon changes that record alone and gives it its place (R40, R46). -/
theorem State.join_beyond {s : State} {r : Record} {p : HeadPart} {pArrB : Pos} (hdebts : s.noDebts)
    (hfar : (s.settings.horizon : Int) < serialDiff pArrB s.belt.tc) (coils : Coils) :
    ∃ before after, (s.store.records.filter fun q => decide (q.id ≠ r.id)) = before ++ after ∧
      (s.join r p pArrB coils).store =
        { s.store with records := before ++ s.joined r p pArrB :: after } ∧
      (s.join r p pArrB coils).cursors = s.cursors ∧ (s.joined r p pArrB).placed before after := by
  obtain ⟨before, after, hsplit, hplace, hplaced⟩ :=
    place_split (s.joined r p pArrB) (s.store.records.filter fun q => decide (q.id ≠ r.id))
  have hholds : ({ s with store := { s.store with
      records := before ++ s.joined r p pArrB :: after } } : State).Holds before (s.joined r p pArrB) after := by
    refine ⟨rfl, fun x hx => ?_⟩
    rw [← hsplit] at hx
    exact of_decide_eq_true (List.mem_filter.mp hx).2
  have htest := hholds.horizonTest_beyond (decide_eq_false (not_le.mpr hfar))
  have hjoin : s.join r p pArrB coils = { s with store := { s.store with
      records := before ++ s.joined r p pArrB :: after } } := by
    unfold State.join
    rw [hplace]
    refine (congrArg (State.purgeTests · coils) htest).trans ?_
    exact State.purgeTests_of_noDebts (s := { s with store := { s.store with
      records := before ++ s.joined r p pArrB :: after } }) hdebts coils
  refine ⟨before, after, hsplit, ?_, ?_, hplaced⟩
  · rw [hjoin]
  · rw [hjoin]

/-- The record that a head B report without a candidate makes (R47). -/
def State.headBRecord (s : State) (p : HeadPart) (id : TrackId) (born : Nat) : Record :=
  s.resolveReady (newRecord (p.position + BitVec.ofNat 32 s.settings.dB) none (some p) p id born) none
    (some p)

theorem State.reportB_joins {s : State} {p : HeadPart} {pArrB : Pos} {r : Record}
    (harrival : p.position + BitVec.ofNat 32 s.settings.dB = pArrB) (h : s.joinChoice p pArrB = some r)
    (coils : Coils) : s.reportB p coils = s.join r p pArrB coils := by
  unfold State.reportB
  simp only [posPlus_natCast, harrival, h]

theorem State.reportB_creates {s : State} {p : HeadPart}
    (h : s.joinChoice p (p.position + BitVec.ofNat 32 s.settings.dB) = none) (coils : Coils) :
    s.reportB p coils = s.createOrDrop p (s.headBRecord p) coils := by
  unfold State.reportB
  simp only [posPlus_natCast, h]
  rfl

end Sys2Proof.Machine

namespace Sys2Proof.Laws.TrackStore

open Sys2Proof Sys2Proof.Machine

/-- Settles O23: the candidate chosen, the class of two parts, the join, and what a report with or without
a candidate makes of the store. -/
theorem headBJoins : Obligations.HeadBJoins := by
  unfold Obligations.HeadBJoins
  refine ⟨fun p pArrB s => ⟨s.candidate_iff p pArrB, s.joinChoice_none p pArrB,
      fun r hr => State.joinChoice_some hr⟩, fun a b s => ?_, fun a b pArrB r s ha => ?_, ?_⟩
  · refine ⟨State.betterClass_lower, State.betterClass_higher, fun htie hconf => ?_, fun htie hconf => ?_⟩
    · exact (State.betterClass_tie htie).trans (if_neg (by omega))
    · exact (State.betterClass_tie htie).trans (if_pos hconf)
  · unfold State.joined State.resolveReady
    rw [ha]
    rfl
  · intro seq cls conf first last hi lo e coils s hs hrun hdebts hfifo hseq hcolumns hlast hlength hconf hc k
      part unresolved route pArr made
    have hrange : (readReport [seq, first, last, hi, lo, cls, conf]).clamped =
        readReport [seq, first, last, hi, lo, cls, conf] :=
      ReportFields.clamped_of_inRange hcolumns hlast hlength hc hconf
    have hpart : (readReport [seq, first, last, hi, lo, cls, conf]).part e.position = part :=
      readReport_part seq first last hi lo conf e.position hc
    obtain ⟨la, hd, cursors, flags, link, hexec, -, hempty, htrack⟩ :=
      execReport_only hs .b (payload := [seq, first, last, hi, lo, cls, conf]) rfl hfifo hseq hrange coils
    rw [hpart] at hexec
    refine ⟨_, hexec, ?_, fun r hchoice hfar => ?_, fun hnone hroom => ?_, fun hnone hfull => ?_⟩
    · rw [closeEvent_latches, State.handReport_latches]
      exact hempty
    · rw [State.handReport_b (by exact hrun), State.reportB_joins (pArrB := pArr) (by rfl) (by exact hchoice)]
      obtain ⟨before, after, hsplit, hstore, hcursors, hplaced⟩ := State.join_beyond (r := r) (p := part)
        (s := { s with latches := la, heads := hd, cursors := cursors, flags := flags, link := link })
        hdebts hfar coils
      refine ⟨before, after, hsplit, ?_, hplaced, ?_⟩
      · rw [closeEvent_store]
        exact hstore
      · rw [closeEvent_cursors]
        exact (congrArg Cursors.track hcursors).trans htrack
    · rw [State.handReport_b (by exact hrun), State.reportB_creates (by exact hnone)]
      have hcreates := fun q hq => closeEvent_createOrDrop_room (s := s) (q := q)
        (w := { s with latches := la, heads := hd, cursors := cursors, flags := flags, link := link })
        rfl hroom hdebts part (make := State.headBRecord
          { s with latches := la, heads := hd, cursors := cursors, flags := flags, link := link } part)
        rfl rfl rfl hq coils
      exact ⟨fun hfar => hcreates _ (.waits (decide_eq_false (by exact not_le.mpr hfar))), fun hnear =>
        ⟨fun hpass hedge => hcreates _ (.passed rfl hnear rfl rfl hpass hedge),
          fun bar hbar hslow hshort => hcreates _ (.slow rfl hnear rfl rfl hbar hslow hshort)⟩⟩
    · rw [State.handReport_b (by exact hrun), State.reportB_creates (by exact hnone)]
      exact closeEvent_createOrDrop_full (by rfl) hfull part _ coils

end Sys2Proof.Laws.TrackStore

/-!
SUPPORT. A plan's parts offered to their banks one after another (5.7, 6.2, 6.3).
-/

namespace Sys2Proof.Machine

/-! ### The answers of the banks (R102, R103) -/

/-- A part after its bank's answer to the offer: at the level it was admitted at, or LOST. -/
def State.answerOf (u : State) (o : Part → Offer) (p : Part) : Part :=
  match u.admission p.bank (o p) with
  | .ok level => { p with level := level }
  | .error cause => { p with result := .lost cause }

/-- The tallies after a part's answer. -/
def Part.counted (g : GlobalTally) (p : Part) : GlobalTally :=
  match p.result with
  | .lost cause => g.count cause
  | _ => g

/-- A planned record with these parts, not yet opened: MISSED once every one is LOST (R54). -/
def Record.answered (r : Record) (plan : Plan) (parts : List Part) : Record :=
  { r with
    plan := some { plan with parts := parts }
    state := if ∀ p ∈ parts, p.result.isLost = true then .missed else .planned
    missCause := if ∀ p ∈ parts, p.result.isLost = true then (outcomeOf parts).2 else r.missCause }

/-- A part that its bank has not opened: WAITING or LOST. -/
def Part.unopened (p : Part) : Prop := p.result = .waiting ∨ p.result.isLost = true

theorem Part.unopened.final_iff {p : Part} (h : p.unopened) :
    p.result.final = true ↔ p.result.isLost = true := by
  rcases h with h | h
  · simp [h, PartResult.final, PartResult.isLost]
  · cases hr : p.result <;> simp [hr, PartResult.isLost, PartResult.final] at h ⊢

theorem all_final_iff {parts : List Part} (h : ∀ p ∈ parts, p.unopened) :
    (parts.all fun p => p.result.final) = true ↔ ∀ p ∈ parts, p.result.isLost = true := by
  rw [List.all_eq_true]
  exact forall₂_congr fun p hp => (h p hp).final_iff

section Answer

variable {r : Record} {plan : Plan} {answered rest : List Part} {p : Part}

/-- While one part is WAITING the record is PLANNED. -/
theorem Record.answered_waiting (hp : p.result = .waiting) :
    (r.answered plan (answered ++ p :: rest)).state = .planned ∧
      (r.answered plan (answered ++ p :: rest)).missCause = r.missCause := by
  have hnot : ¬∀ q ∈ answered ++ p :: rest, q.result.isLost = true := fun hall => by
    have := hall p (List.mem_append_right _ List.mem_cons_self)
    simp [hp, PartResult.isLost] at this
  exact ⟨if_neg hnot, if_neg hnot⟩

/-- A bank's report for its part of a record not yet opened (R52, R54, R102). -/
theorem Record.reported_answered (hp : p.result = .waiting)
    (hothers : ∀ q ∈ answered ++ rest, q.bank ≠ p.bank ∧ q.unopened) {result : PartResult}
    (hresult : ({ p with result := result } : Part).unopened) (level : Option Level) :
    (r.answered plan (answered ++ p :: rest)).reported { plan with parts := answered ++ p :: rest } p.bank
        result level =
      r.answered plan (answered ++ { p with result := result, level := level.getD p.level } :: rest) := by
  have hkeep : ∀ l : List Part, (∀ q ∈ l, q.bank ≠ p.bank) →
      (l.map fun q => if q.bank = p.bank then { q with result := result, level := level.getD q.level } else q) =
        l := fun l hl => (List.map_congr_left fun q hq => if_neg (hl q hq)).trans (List.map_id' l)
  have hparts : ((answered ++ p :: rest).map fun q =>
      if q.bank = p.bank then { q with result := result, level := level.getD q.level } else q) =
        answered ++ { p with result := result, level := level.getD p.level } :: rest := by
    rw [List.map_append, List.map_cons, if_pos rfl,
      hkeep answered fun q hq => (hothers q (List.mem_append_left _ hq)).1,
      hkeep rest fun q hq => (hothers q (List.mem_append_right _ hq)).1]
  have hunopened : ∀ q ∈ answered ++ { p with result := result, level := level.getD p.level } :: rest,
      q.unopened := by
    intro q hq
    rcases List.mem_append.mp hq with hq | hq
    · exact (hothers q (List.mem_append_left _ hq)).2
    · rcases List.mem_cons.mp hq with rfl | hq
      · exact hresult
      · exact (hothers q (List.mem_append_right _ hq)).2
  obtain ⟨hstate, hmiss⟩ := Record.answered_waiting (r := r) (plan := plan) (answered := answered)
    (rest := rest) hp
  have hopened : result ≠ .opened := by
    rcases hresult with h | h
    · intro heq
      simp [heq] at h
    · intro heq
      simp [heq, PartResult.isLost] at h
  unfold Record.reported
  rw [hparts, hstate, hmiss]
  by_cases hall : ∀ q ∈ answered ++ { p with result := result, level := level.getD p.level } :: rest,
      q.result.isLost = true
  · obtain ⟨c, -, houtcome⟩ := outcomeOf_all_lost (by simp) hall
    simp only [(all_final_iff hunopened).mpr hall, if_true, houtcome]
    unfold Record.answered
    rw [if_pos hall, if_pos hall, houtcome]
  · have hfinal : ¬((answered ++ { p with result := result, level := level.getD p.level } :: rest).all
        fun q => q.result.final) = true := fun h => hall ((all_final_iff hunopened).mp h)
    simp only [if_neg hfinal, if_neg fun h : _ ∧ result = .opened => hopened h.2]
    unfold Record.answered
    rw [if_neg hall, if_neg hall]

end Answer

/-! ### One offer (R92, R102, R103, R108) -/

/-- The head test changes its bank's state alone. -/
theorem State.headTest_eq (s : State) (b : BankId) : s.headTest b = s.setBank b ((s.headTest b).bank b) := by
  unfold State.headTest
  split
  · split
    · unfold State.startSwitch
      rw [State.bank_modBank]
      rfl
    · exact (s.setBank_self b).symm
  · exact (s.setBank_self b).symm

/-- It looks at its bank, SHED, the time base and the settings. -/
theorem State.bank_headTest_congr {s t : State} {b : BankId} (hbank : t.bank b = s.bank b)
    (hshed : t.shed = s.shed) (htime : t.timeBase = s.timeBase) (hsettings : t.settings = s.settings) :
    (t.headTest b).bank b = (s.headTest b).bank b := by
  have hwanted : t.switchWanted b = s.switchWanted b := by
    unfold State.switchWanted
    rw [hbank, hshed]
  unfold State.headTest
  rw [hbank, hwanted]
  split
  · split
    · unfold State.startSwitch State.bankSettings
      rw [State.bank_modBank, State.bank_modBank, hbank, htime, hsettings]
    · exact hbank
  · exact hbank

/-- An admission looks at its bank, SHED, the time base, the settings and the belt. -/
theorem State.admission_congr {s t : State} {b : BankId} (hbank : t.bank b = s.bank b)
    (hshed : t.shed = s.shed) (htime : t.timeBase = s.timeBase) (hsettings : t.settings = s.settings)
    (hbelt : t.belt = s.belt) (o : Offer) : t.admission b o = s.admission b o := by
  have hown : t.bankSettings b = s.bankSettings b := by
    unfold State.bankSettings
    rw [hsettings]
  have hconflict : ∀ level, t.conflictAt b o level = s.conflictAt b o level := by
    intro level
    unfold State.conflictAt State.queueConflict State.standingConflict State.switchTime
    rw [hbank, hshed, htime, hown, hbelt]
  unfold State.admission
  rw [hbank]
  simp only [hconflict]

/-- A bank with a new entry in its queue, before its head test. -/
def State.queued (u : State) (b : BankId) (o : Offer) (level : Level) : State :=
  u.modBank b fun k => { k with queue := queueEntry (newEntry (u.bankSettings b) o level) k.queue }

/-- A bank after an offer. -/
def State.offeredBank (u : State) (b : BankId) (o : Offer) : Bank :=
  match u.admission b o with
  | .ok level => ((u.queued b o level).headTest b).bank b
  | .error _ => u.bank b

/-- The state while a record's parts are offered: some answered, the rest still to come. -/
def State.offering (u : State) (r : Record) (plan : Plan) (answered rest : List Part)
    (banks : Vector Bank 16) : State :=
  { u with
    store := { u.store with
      records := [r.answered plan (answered ++ rest)]
      globals := answered.foldl Part.counted u.store.globals }
    banks := banks }

section Offer

variable {u : State} {r : Record} {plan : Plan} {answered rest : List Part} {p : Part}
  {banks : Vector Bank 16}

theorem State.serves_offering (hedge : u.edgePassed r = false) (hp : p.result = .waiting)
    (hothers : ∀ q ∈ answered ++ rest, q.bank ≠ p.bank ∧ q.unopened) :
    (u.offering r plan answered (p :: rest) banks).Serves [] (r.answered plan (answered ++ p :: rest)) []
      { plan with parts := answered ++ p :: rest } p.bank .waiting where
  holds := .of_single rfl
  written := rfl
  work := .inl (Record.answered_waiting hp).1
  awaits := by
    refine ⟨⟨p, List.mem_append_right _ List.mem_cons_self, rfl⟩, fun q hq hbank => ?_⟩
    rcases List.mem_append.mp hq with hq | hq
    · exact absurd hbank (hothers q (List.mem_append_left _ hq)).1
    · rcases List.mem_cons.mp hq with rfl | hq
      · exact hp
      · exact absurd hbank (hothers q (List.mem_append_right _ hq)).1
  edge := hedge

/-- The offer of one part. -/
theorem State.offer_offering (hedge : u.edgePassed r = false) (hp : p.result = .waiting)
    (hothers : ∀ q ∈ answered ++ rest, q.bank ≠ p.bank ∧ q.unopened) (hbank : banks[p.bank] = u.bank p.bank)
    {o : Part → Offer} (hid : (o p).track = r.id) :
    (u.offering r plan answered (p :: rest) banks).offer p.bank (o p) =
      u.offering r plan (answered ++ [u.answerOf o p]) rest
        (banks.set p.bank (u.offeredBank p.bank (o p))) := by
  have hserves := State.serves_offering (u := u) (r := r) (plan := plan) (banks := banks) hedge hp hothers
  have hadmission : (u.offering r plan answered (p :: rest) banks).admission p.bank (o p) =
      u.admission p.bank (o p) :=
    State.admission_congr (s := u) (t := u.offering r plan answered (p :: rest) banks) hbank rfl rfl rfl
      rfl (o p)
  unfold State.offer
  rw [hadmission]
  cases hverdict : u.admission p.bank (o p) with
  | error cause =>
    have hanswer : u.answerOf o p = { p with result := .lost cause } := by
      simp only [State.answerOf, hverdict]
    have hkept : banks.set p.bank (u.offeredBank p.bank (o p)) = banks := by
      simp only [State.offeredBank, hverdict, ← hbank]
      simp
    have hreport := hserves.report rfl (.lost cause) none
    dsimp only
    rw [hid]
    refine hreport.trans ?_
    rw [hanswer, hkept]
    unfold Store.afterReport
    rw [Record.reported_answered hp hothers (.inr rfl)]
    simp [State.offering, Part.counted, List.foldl_append]
  | ok level =>
    have hanswer : u.answerOf o p = { p with level := level } := by
      simp only [State.answerOf, hverdict]
    have hmod : (u.offering r plan answered (p :: rest) banks).modBank p.bank (fun k => { k with
        queue := queueEntry (newEntry
          ((u.offering r plan answered (p :: rest) banks).bankSettings p.bank) (o p) level) k.queue }) =
        u.offering r plan answered (p :: rest)
          (banks.set p.bank ((u.queued p.bank (o p) level).bank p.bank)) := by
      have hsame : (u.offering r plan answered (p :: rest) banks).bank p.bank = u.bank p.bank := hbank
      unfold State.queued
      rw [State.modBank_eq, State.bank_modBank]
      unfold State.setBank
      rw [hsame]
      rfl
    have hreport := (hserves.of_same (t := u.offering r plan answered (p :: rest)
      (banks.set p.bank ((u.queued p.bank (o p) level).bank p.bank))) rfl rfl).report rfl .waiting
        (some level)
    dsimp only
    unfold State.enqueue
    rw [hid, hmod]
    refine (congrArg (State.headTest · p.bank) hreport).trans ?_
    unfold Store.afterReport
    rw [Record.reported_answered hp hothers (.inl rfl), State.headTest_eq,
      State.bank_headTest_congr (s := u.queued p.bank (o p) level)]
    · have hsame : ({ p with result := .waiting, level := (some level).getD p.level } : Part) =
          { p with level := level } := by
        rw [← hp]
        rfl
      have hoffered : u.offeredBank p.bank (o p) = ((u.queued p.bank (o p) level).headTest p.bank).bank p.bank := by
        simp only [State.offeredBank, hverdict]
      rw [hsame, hanswer, hoffered]
      simp [State.offering, State.setBank, Part.counted, List.foldl_append, hp]
    · simp [State.offering, State.bank]
    · rfl
    · rfl
    · rfl

end Offer

/-! ### All offers of a plan (R92) -/

theorem State.answerOf_bank (u : State) (o : Part → Offer) (p : Part) : (u.answerOf o p).bank = p.bank := by
  unfold State.answerOf
  split <;> rfl

theorem State.answerOf_unopened (u : State) (o : Part → Offer) {p : Part} (hp : p.result = .waiting) :
    (u.answerOf o p).unopened := by
  unfold State.answerOf
  split
  · exact .inl hp
  · exact .inr rfl

/-- The offers of the parts still to come, each to a bank of its own. -/
theorem State.foldl_offer_offering {u : State} {r : Record} {plan : Plan} (hedge : u.edgePassed r = false)
    {o : Part → Offer} (hid : ∀ p, (o p).track = r.id) (rest : List Part) :
    ∀ (answered : List Part) (banks : Vector Bank 16), (rest.map fun p => p.bank).Nodup →
      (∀ p ∈ rest, p.result = .waiting) → (∀ q ∈ answered, q.unopened ∧ ∀ p ∈ rest, q.bank ≠ p.bank) →
      (∀ p ∈ rest, banks[p.bank] = u.bank p.bank) →
      ∃ after : Vector Bank 16,
        rest.foldl (fun t p => t.offer p.bank (o p)) (u.offering r plan answered rest banks) =
          u.offering r plan (answered ++ rest.map (u.answerOf o)) [] after ∧
        (∀ p ∈ rest, after[p.bank] = u.offeredBank p.bank (o p)) ∧
        ∀ b : BankId, (∀ p ∈ rest, p.bank ≠ b) → after[b] = banks[b] := by
  induction rest with
  | nil =>
    intro answered banks _ _ _ _
    exact ⟨banks, by simp, by simp, fun _ _ => rfl⟩
  | cons p rest ih =>
    intro answered banks hnodup hwaiting hanswered hbanks
    obtain ⟨hp, hrest⟩ := List.nodup_cons.mp hnodup
    have hne : ∀ q ∈ rest, q.bank ≠ p.bank := fun q hq heq => hp (List.mem_map.mpr ⟨q, hq, heq⟩)
    have hpwait := hwaiting p List.mem_cons_self
    have hone := State.offer_offering (u := u) (r := r) (plan := plan) (answered := answered) (rest := rest)
      hedge hpwait (fun q hq => by
        rcases List.mem_append.mp hq with hq | hq
        · exact ⟨(hanswered q hq).2 p List.mem_cons_self, (hanswered q hq).1⟩
        · exact ⟨hne q hq, .inl (hwaiting q (List.mem_cons_of_mem p hq))⟩)
      (hbanks p List.mem_cons_self) (hid p)
    obtain ⟨after, hfold, htaken, hkept⟩ := ih (answered ++ [u.answerOf o p])
      (banks.set p.bank (u.offeredBank p.bank (o p))) hrest
      (fun q hq => hwaiting q (List.mem_cons_of_mem p hq)) (fun q hq => by
        rcases List.mem_append.mp hq with hq | hq
        · exact ⟨(hanswered q hq).1, fun x hx => (hanswered q hq).2 x (List.mem_cons_of_mem p hx)⟩
        · rw [List.mem_singleton] at hq
          subst hq
          refine ⟨u.answerOf_unopened o hpwait, fun x hx => ?_⟩
          rw [State.answerOf_bank]
          exact (hne x hx).symm)
      (fun q hq => by
        have hval : ¬p.bank.val = q.bank.val := fun h => hne q hq (Fin.ext h.symm)
        simpa [Vector.getElem_set, hval] using hbanks q (List.mem_cons_of_mem p hq))
    refine ⟨after, ?_, fun q hq => ?_, fun b hb => ?_⟩
    · rw [List.foldl_cons, hone, hfold]
      simp
    · rcases List.mem_cons.mp hq with rfl | hq
      · rw [hkept q.bank hne]
        simp
      · exact htaken q hq
    · rw [hkept b fun q hq => hb q (List.mem_cons_of_mem p hq)]
      have hval : ¬p.bank.val = b.val := fun h => hb p List.mem_cons_self (Fin.ext h)
      simp [hval]

/-! ### A planning pass that plans (R78, R91, R92) -/

/-- A pass with speed enough and its trigger ahead. -/
structure State.Plans (u : State) (r : Record) (route : Route) (bar : Bar) : Prop where
  speed : (u.settings.vmin : Int) ≤ u.belt.v
  ahead : atOrPast u.belt.tc (u.planOf r route bar).trigger = false
  parts : (u.planOf r route bar).parts ≠ []

theorem State.planOf_waiting (u : State) (r : Record) (route : Route) (bar : Bar) :
    ∀ p ∈ (u.planOf r route bar).parts, p.result = .waiting := by
  intro p hp
  obtain ⟨n, -, -, rfl⟩ := mem_partsOf.mp hp
  rfl

/-- The parts of a planned record are offered to their banks. -/
theorem State.planPass_plans {u : State} {r : Record} {route : Route} {bar : Bar}
    (hrecords : u.store.records = [r]) (hedge : u.edgePassed r = false) (h : u.Plans r route bar) :
    let plan := u.planOf r route bar
    let o := offerOf r.id route plan u.belt.v
    ∃ after : Vector Bank 16,
      u.planPass r route bar = u.offering r plan (plan.parts.map (u.answerOf o)) [] after ∧
        (∀ p ∈ plan.parts, after[p.bank] = u.offeredBank p.bank (o p)) ∧
        ∀ b : BankId, (∀ p ∈ plan.parts, p.bank ≠ b) → after[b] = u.bank b := by
  intro plan o
  obtain ⟨p, rest, hparts⟩ := List.exists_cons_of_ne_nil h.parts
  have hpwait : p.result = .waiting := u.planOf_waiting r route bar p (by rw [hparts]; exact List.mem_cons_self)
  have hstart : (u.modRecord r.id fun q => { q with plan := some plan, state := .planned }) =
      u.offering r plan [] plan.parts u.banks := by
    have hanswered : r.answered plan plan.parts = { r with plan := some plan, state := .planned } := by
      obtain ⟨hstate, hmiss⟩ := Record.answered_waiting (r := r) (plan := plan) (answered := [])
        (rest := rest) hpwait
      have hlist : plan.parts = [] ++ p :: rest := hparts
      rw [← hlist] at hstate hmiss
      have hall : r.answered plan plan.parts = { r.answered plan plan.parts with
          state := .planned, missCause := r.missCause } := by
        rw [← hstate, ← hmiss]
      exact hall
    rw [(State.Holds.of_single hrecords).modRecord]
    unfold State.offering
    simp only [List.nil_append, hanswered]
    rfl
  obtain ⟨after, hfold, htaken, hkept⟩ := State.foldl_offer_offering (plan := plan) hedge (o := o)
    (fun _ => rfl) plan.parts [] u.banks (nodup_bank_partsOf _ _ _) (u.planOf_waiting r route bar) (by simp)
    (fun _ _ => rfl)
  refine ⟨after, ?_, htaken, hkept⟩
  unfold State.planPass
  rw [if_neg (by have := h.speed; omega)]
  dsimp only
  rw [if_neg (by simp [h.ahead]), if_neg h.parts, hstart]
  exact hfold

end Sys2Proof.Machine

/-!
SUPPORT. What a planning pass makes of the store and the banks, and O31 (3.5, 5.2, 5.7).
-/

namespace Sys2Proof.Machine

/-! ### A bank after an offer (R100, R102, R103, R116) -/

section Offered

variable {u : State} {b : BankId} {o : Offer} {level : Level}

theorem State.offeredBank_error {cause : Cause} (h : u.admission b o = .error cause) :
    u.offeredBank b o = u.bank b := by
  simp only [State.offeredBank, h]

theorem State.bank_queued (u : State) (b : BankId) (o : Offer) (level : Level) :
    (u.queued b o level).bank b =
      { u.bank b with queue := queueEntry (newEntry (u.bankSettings b) o level) (u.bank b).queue } :=
  u.bank_modBank b _

theorem State.offeredBank_ok (h : u.admission b o = .ok level) :
    u.offeredBank b o = { u.bank b with
      queue := queueEntry (newEntry (u.bankSettings b) o level) (u.bank b).queue
      state := (u.offeredBank b o).state } := by
  have hoffered : u.offeredBank b o = ((u.queued b o level).headTest b).bank b := by
    simp only [State.offeredBank, h]
  rw [hoffered]
  obtain ⟨st, hst⟩ := (u.queued b o level).headTest_bank b b
  rw [hst, State.bank_queued]

theorem State.offeredBank_ne_idle (h : u.admission b o = .ok level) (hidle : (u.bank b).state ≠ .idle) :
    (u.offeredBank b o).state = (u.bank b).state := by
  have hoffered : u.offeredBank b o = ((u.queued b o level).headTest b).bank b := by
    simp only [State.offeredBank, h]
  rw [hoffered, State.headTest_of_ne_idle (by rw [State.bank_queued]; exact hidle), State.bank_queued]

/-- An admitted part is not one that SHED bars (R103). -/
theorem State.admission_unbarred (h : u.admission b o = .ok level) :
    ¬(u.shed = true ∧ level = .high) := by
  have hfree : u.conflictAt b o level = false := by
    unfold State.admission at h
    split at h
    · cases h
    · split at h
      · rename_i hfree
        cases h
        exact hfree
      · split at h
        · cases h
        · split at h
          · cases h
          · rename_i hother
            cases h
            exact Bool.eq_false_iff.mpr hother
  rintro ⟨hshed, rfl⟩
  simp [State.conflictAt, hshed] at hfree

/-- The first entry of an IDLE bank stays with it or calls for a switch (R116). -/
theorem State.offeredBank_idle (h : u.admission b o = .ok level) (hidle : (u.bank b).state = .idle)
    (hempty : (u.bank b).queue = []) :
    (u.offeredBank b o).state =
      if level = (u.bank b).level then .idle
      else .switching level (timePlus u.timeBase ((u.bankSettings b).tSW * 1000)) := by
  have hoffered : u.offeredBank b o = ((u.queued b o level).headTest b).bank b := by
    simp only [State.offeredBank, h]
  have hbank := u.bank_queued b o level
  have hhead : ((u.queued b o level).bank b).head? = some (newEntry (u.bankSettings b) o level) := by
    rw [hbank, hempty]
    rfl
  rw [hoffered]
  unfold State.headTest
  rw [if_pos (by rw [hbank]; exact hidle)]
  by_cases hlevel : level = (u.bank b).level
  · rw [State.switchWanted_own hhead (.inl (by rw [hbank]; exact hlevel)), if_pos hlevel]
    dsimp only
    rw [hbank]
    exact hidle
  · have hbar : ¬(u.shed = true ∧ level = .high) := State.admission_unbarred h
    rw [State.switchWanted_other hhead (by rw [hbank]; exact hlevel) (by exact hbar),
      if_neg hlevel]
    exact congrArg Bank.state (State.bank_modBank _ b _)

end Offered

/-! ### The plan as the statements read it -/

/-- What the offers of a plan make of the store and the banks. -/
theorem State.plansTo_of_offering {u t : State} {r : Record} {route : Route} {bar : Bar}
    {after : Vector Bank 16}
    (hstore : t.store = (u.offering r (u.planOf r route bar) ((u.planOf r route bar).parts.map
      (u.answerOf (offerOf r.id route (u.planOf r route bar) u.belt.v))) [] after).store)
    (hbanks : t.banks = after)
    (htaken : ∀ p ∈ (u.planOf r route bar).parts,
      after[p.bank] = u.offeredBank p.bank (offerOf r.id route (u.planOf r route bar) u.belt.v p))
    (hkept : ∀ b : BankId, (∀ p ∈ (u.planOf r route bar).parts, p.bank ≠ b) → after[b] = u.bank b) :
    u.PlansTo r route bar t := by
  have hbank : ∀ b, t.bank b = after[b] := fun b => by rw [State.bank, hbanks]
  unfold State.PlansTo
  intro plan verdict answered refused
  refine ⟨?_, fun b hb => (hbank b).trans (hkept b hb), fun p hp => ?_⟩
  · rw [hstore]
    unfold State.offering
    rw [List.append_nil]
    rfl
  · have hp' := (hbank p.bank).trans (htaken p hp)
    intro k st
    refine ⟨fun cause hcause => hp'.trans (State.offeredBank_error hcause), fun level hlevel => ?_⟩
    intro waves e
    rw [hp']
    exact ⟨State.offeredBank_ok hlevel, State.offeredBank_ne_idle hlevel, State.offeredBank_idle hlevel⟩

/-- The offers look at nothing of the store and at no flag but through SHED. -/
theorem State.PlansTo.of_flags {u t : State} {flags : FlagMask} {records : List Record} {r : Record}
    {route : Route} {bar : Bar}
    (hshed : ({ u with flags := flags, store := { u.store with records := records } } : State).shed = u.shed)
    (h : ({ u with flags := flags, store := { u.store with records := records } } : State).PlansTo r route
      bar t) : u.PlansTo r route bar t := by
  have hadmission : ∀ b o,
      ({ u with flags := flags, store := { u.store with records := records } } : State).admission b o =
        u.admission b o := fun b o =>
    State.admission_congr (s := u) (by rfl) hshed (by rfl) (by rfl) (by rfl) o
  unfold State.PlansTo at *
  simp only [hadmission] at h
  exact h

/-! ### The other results of a pass (R55, R82, R87, R91) -/

section Pass

variable {s : State} {before after : List Record} {r : Record} {route : Route} {bar : Bar}

/-- A record missed with a cause, which is counted (R55). -/
theorem State.Holds.missRecord (h : s.Holds before r after) (hedge : s.edgePassed r = false) (cause : Cause) :
    s.missRecord r.id cause = { s with store := { s.store with
      records := before ++ { r with state := .missed, missCause := some cause } :: after
      globals := s.store.globals.count cause } } :=
  State.Holds.endRecord (s := s.countCause cause) ⟨h.records, h.alone⟩ hedge .missed (some cause)

theorem State.Holds.planPass_slow (h : s.Holds before r after) (hedge : s.edgePassed r = false)
    (hslow : s.belt.v < s.settings.vmin)
    (hbar : atOrPast s.belt.tc (posPlus r.pArr (s.settings.trim bar)) = true) :
    s.planPass r route bar = { s with store := { s.store with
      records := before ++ { r with state := .missed, missCause := some .slow } :: after
      globals := s.store.globals.count .slow } } := by
  rw [← h.missRecord hedge]
  unfold State.planPass
  rw [if_pos hslow, if_pos hbar]

theorem State.Holds.planPass_late (h : s.Holds before r after) (hedge : s.edgePassed r = false)
    (hspeed : (s.settings.vmin : Int) ≤ s.belt.v)
    (hpassed : atOrPast s.belt.tc (s.planOf r route bar).trigger = true) :
    s.planPass r route bar = { s with store := { s.store with
      records := before ++ { r with state := .missed, missCause := some .late } :: after
      globals := s.store.globals.count .late } } := by
  rw [← h.missRecord hedge]
  unfold State.planPass
  rw [if_neg (by omega)]
  exact if_pos hpassed

theorem State.Holds.planPass_unavailable (h : s.Holds before r after) (hedge : s.edgePassed r = false)
    (hspeed : (s.settings.vmin : Int) ≤ s.belt.v)
    (hahead : atOrPast s.belt.tc (s.planOf r route bar).trigger = false)
    (hnone : (s.planOf r route bar).parts = []) :
    s.planPass r route bar = { s with store := { s.store with
      records := before ++ { r with
        state := .missed, plan := some (s.planOf r route bar), missCause := some .unavailable } :: after
      globals := s.store.globals.count .unavailable } } := by
  have hplanned : (s.modRecord r.id fun q => { q with plan := some (s.planOf r route bar) }).Holds before
      { r with plan := some (s.planOf r route bar) } after := by
    rw [h.modRecord]
    exact ⟨rfl, h.alone⟩
  have hmissed := hplanned.missRecord (by rw [h.modRecord]; exact hedge) .unavailable
  unfold State.planPass
  rw [if_neg (by omega)]
  dsimp only
  rw [if_neg (by simp [hahead]), if_pos hnone]
  refine hmissed.trans ?_
  rw [h.modRecord]

end Pass

/-! ### The speed sample (R51) -/

theorem State.overspeedTest_unlimited {s : State} (h : s.settings.overspeedLimit = 0) :
    s.overspeedTest = s := if_pos h

/-- A held record, the only one of the store, at a speed sample without an overspeed limit. -/
theorem execSpeedSample_held {s : State} (hs : s.powered = true) (hlimit : s.settings.overspeedLimit = 0)
    {r : Record} {res : Resolution} {bar : Bar} (hrecords : s.store.records = [r]) (hstate : r.state = .ready)
    (hreached : r.reached = true) (hres : r.resolution = some res)
    (hbar : res.route.destination.bar? = some bar) (coils : Coils) :
    exec (.speedSample coils) s = .next (closeEvent s
      ((s.takeSample.planPass r res.route bar).purgeTests coils)) := by
  have htest : s.takeSample.overspeedTest = s.takeSample := State.overspeedTest_unlimited hlimit
  have hheld : r.held = true := by simp [Record.held, hstate, hreached]
  have hsingle : s.takeSample.store.records = [r] := hrecords
  have hplan : s.takeSample.planHeld = s.takeSample.planPass r res.route bar := by
    unfold State.planHeld
    rw [hsingle, List.filter_cons_of_pos hheld]
    exact (State.Holds.of_single hsingle).dealReady_bar hstate hres hbar
  show execSpeedSample coils s = _
  rw [execSpeedSample_powered hs, htest, hplan]

end Sys2Proof.Machine

/-!
SUPPORT. A held record at a sample and the planning event at a count, and O31 (3.5, 5.2).
-/

namespace Sys2Proof.Machine

/-! ### The banks after the offers of a plan -/

theorem State.offeredBank_debt (u : State) (b : BankId) (o : Offer) :
    (u.offeredBank b o).debt = (u.bank b).debt := by
  cases h : u.admission b o with
  | ok level => rw [State.offeredBank_ok h]
  | error cause => rw [State.offeredBank_error h]

/-- An offer brings no entry into an empty queue but its own. -/
theorem State.offeredBank_entry {u : State} {b : BankId} {o : Offer} (hempty : (u.bank b).queue = [])
    {e : Entry} (he : e ∈ (u.offeredBank b o).queue) : e.trigger = o.trigger := by
  cases h : u.admission b o with
  | ok level =>
    rw [State.offeredBank_ok h, hempty] at he
    rw [List.mem_singleton.mp he]
    rfl
  | error cause =>
    rw [State.offeredBank_error h, hempty] at he
    exact absurd he List.not_mem_nil

section Planned

variable {u : State} {r : Record} {route : Route} {bar : Bar}

/-- What a pass that plans leaves: the banks that owed no purge owe none, and a bank without an entry holds
one of the plan's trigger at most. -/
theorem State.planPass_banks (hrecords : u.store.records = [r]) (hedge : u.edgePassed r = false)
    (h : u.Plans r route bar) :
    ∃ st after, u.planPass r route bar = { u with store := st, banks := after } ∧
      (∃ q, st.records = [q] ∧ u.edgePassed q = false) ∧
      (∀ t : State, t.store = st → t.banks = after → u.PlansTo r route bar t) ∧
      (∀ b : BankId, after[b].debt = (u.bank b).debt) ∧
      ∀ b : BankId, (u.bank b).queue = [] →
        ∀ e ∈ after[b].queue, e.trigger = (u.planOf r route bar).trigger := by
  obtain ⟨after, hplan, htaken, hkept⟩ := State.planPass_plans hrecords hedge h
  have hbank : ∀ b : BankId, after[b] = u.bank b ∨
      ∃ p, after[b] = u.offeredBank b (offerOf r.id route (u.planOf r route bar) u.belt.v p) := by
    intro b
    by_cases hb : ∃ p ∈ (u.planOf r route bar).parts, p.bank = b
    · obtain ⟨p, hp, rfl⟩ := hb
      exact .inr ⟨p, htaken p hp⟩
    · exact .inl (hkept b fun p hp heq => hb ⟨p, hp, heq⟩)
  refine ⟨_, after, hplan, ⟨_, rfl, hedge⟩, fun t hstore hbanks =>
    State.plansTo_of_offering hstore hbanks htaken hkept, fun b => ?_, fun b hempty e he => ?_⟩
  · rcases hbank b with heq | ⟨p, heq⟩
    · rw [heq]
    · rw [heq, State.offeredBank_debt]
  · rcases hbank b with heq | ⟨p, heq⟩
    · rw [heq, hempty] at he
      exact absurd he List.not_mem_nil
    · rw [heq] at he
      exact State.offeredBank_entry hempty he

end Planned

/-! ### The planning event at a count (R50) -/

/-- A count without HALT, before its work: the belt, and flags that leave SHED. -/
theorem State.noteCount_eq {s : State} (h : s.settings.limitAction ≠ .halt) (a b forward : Bool) :
    ∃ belt flags, (s.countedBelt a b forward).reverseTest forward =
      { s with belt := belt, flags := flags } ∧
      belt.tc = (if forward then s.belt.tc + 1 else s.belt.tc - 1) ∧ belt.v = s.belt.v ∧
      ({ s with belt := belt, flags := flags } : State).shed = s.shed := by
  have htc : (s.belt.counted forward).tc = if forward then s.belt.tc + 1 else s.belt.tc - 1 := by
    cases forward <;> rfl
  have hv : (s.belt.counted forward).v = s.belt.v := by
    cases forward <;> rfl
  by_cases hcross : (s.countedBelt a b forward).CrossesReverse forward
  · refine ⟨_, _, (State.reverseTest_crossing hcross).trans (State.limitCrossed_of_ne_halt (by exact h) _),
      htc, hv, ?_⟩
    have hflag : (s.setFlag .limitReverse).flag .pressureLow = s.flag .pressureLow := by
      rw [State.flag_setFlag]
      simp
    exact congrArg (· && decide (s.settings.pressurePolicy = .shed)) hflag
  · cases hrev : s.belt.reverse with
    | true =>
      exact ⟨_, _, State.reverseTest_active (s := s.countedBelt a b forward)
        (by cases forward <;> exact hrev) forward, htc, hv, rfl⟩
    | false =>
      exact ⟨_, _, State.reverseTest_quiet (s := s.countedBelt a b forward)
        (by cases forward <;> exact hrev) hcross, htc, hv, rfl⟩

/-- A count after whose horizon tests nothing retires, no trigger is reached and no purge is owed. -/
theorem State.handCount_of_horizon {v x : State} (h : v.horizonAll = x) {q : Record}
    (hrecords : x.store.records = [q]) (hstays : (q.state.terminal && x.edgePassed q) = false)
    (htriggers : ∀ b, ∀ e ∈ (x.bank b).queue, e.state = .waiting → atOrPast x.belt.tc e.trigger = false)
    (hdebts : x.noDebts) (forward : Bool) (coils : Coils) : v.handCount forward coils = x := by
  have hretire : x.retireAll = x := by simp [State.retireAll, hrecords, hstays]
  have hfold : allBanks.foldl (State.triggerTest coils) x = x :=
    List.foldl_fixed' (fun b => State.triggerTest_unreached (htriggers b) coils) allBanks
  unfold State.handCount
  simp only [h, hretire, hfold, ite_self, State.purgeTests_of_noDebts hdebts]

theorem State.horizonAll_beyond {v : State} {r : Record} (hrecords : v.store.records = [r])
    (hfar : v.withinHorizon r = false) : v.horizonAll = v := by
  simp [State.horizonAll, hrecords, hfar]

/-- A state with this record alone in the store. -/
def State.onlyRecord (s : State) (q : Record) : State :=
  { s with store := { s.store with records := [q] } }

theorem State.holds_onlyRecord (s : State) (q : Record) : (s.onlyRecord q).Holds [] q [] := .of_single rfl

/-- Where no entry is queued no trigger is reached. -/
theorem State.unreached_of_empty {s : State} (h : ∀ b, (s.bank b).queue = []) :
    ∀ b, ∀ e ∈ (s.bank b).queue, e.state = .waiting → atOrPast s.belt.tc e.trigger = false := by
  intro b e he
  rw [h b] at he
  exact absurd he List.not_mem_nil

theorem State.horizonAll_within {v : State} {r : Record} (hrecords : v.store.records = [r])
    (hmark : r.reached = false) (hnear : v.withinHorizon r = true) :
    v.horizonAll = (v.onlyRecord (v.due r)).dealReady (v.due r).id := by
  have hid : (v.due r).id = r.id := (v.due_same r).1
  have hall : v.horizonAll = v.planningEvent r.id := by simp [State.horizonAll, hrecords, hmark, hnear]
  rw [hall, (State.Holds.of_single hrecords).planningEvent, hid]
  rfl

/-- A READY record, or a JOINING one resolved from its A part, at its planning event (R50). -/
theorem State.due_resolved {s : State} {r : Record} {res : Resolution}
    (h : (r.state = .ready ∧ r.resolution = some res) ∨
      (r.state = .joining ∧ ∃ p, r.aPart = some p ∧ res.cls = (if p.confidence <
        s.settings.routes[p.cls].minConfidence then 0 else p.cls) ∧
        res.route = s.settings.routes[res.cls])) :
    s.due r = { r with state := .ready, resolution := some res, reached := true } := by
  unfold State.due
  rcases h with ⟨hstate, hres⟩ | ⟨hstate, p, hpart, hcls, hroute⟩
  · rw [if_neg (by rw [hstate]; exact RecState.noConfusion), ← hstate, ← hres]
  · have hresolution : s.resolutionOf r.aPart none = some res := by
      rw [hpart]
      refine congrArg some ?_
      obtain ⟨cls, route⟩ := res
      dsimp only at hcls hroute
      subst hcls
      rw [hroute]
      rfl
    rw [if_pos hstate, ← hresolution]
    rfl

section Count

variable {v : State} {r : Record} {res : Resolution}

/-- The count of a record still beyond its horizon (R50). -/
theorem State.handCount_beyond (hrecords : v.store.records = [r]) (hwork : r.state.terminal = false)
    (hfar : (v.settings.horizon : Int) < serialDiff r.pArr v.belt.tc) (hempty : ∀ b, (v.bank b).queue = [])
    (hdebts : v.noDebts) (forward : Bool) (coils : Coils) : v.handCount forward coils = v :=
  State.handCount_of_horizon (State.horizonAll_beyond hrecords (decide_eq_false (not_le.mpr hfar)))
    hrecords (by rw [hwork]; rfl) (State.unreached_of_empty hempty) hdebts forward coils

variable (hrecords : v.store.records = [r]) (hmark : r.reached = false)
  (hnear : serialDiff r.pArr v.belt.tc ≤ (v.settings.horizon : Int)) {due : Record}
  (hdue : v.due r = due) (hready : due.state = .ready) (hres : due.resolution = some res)
  (hedge : v.edgePassed due = false) (hdebts : v.noDebts) (hempty : ∀ b, (v.bank b).queue = [])

include hrecords hmark hnear hdue hready hres hedge hdebts hempty

/-- The count that brings a record for a PASS route within its horizon (R51). -/
theorem State.handCount_passes (hpass : res.route.destination = .pass) (forward : Bool) (coils : Coils) :
    v.handCount forward coils = v.onlyRecord { due with state := .passed, missCause := none } := by
  have hhorizon := State.horizonAll_within hrecords hmark (decide_eq_true hnear)
  rw [hdue, (v.holds_onlyRecord due).dealReady_pass hready hres hpass hedge] at hhorizon
  exact State.handCount_of_horizon (x := v.onlyRecord { due with state := .passed, missCause := none })
    hhorizon rfl (Bool.and_eq_false_iff.mpr (.inr hedge))
    (State.unreached_of_empty (s := v.onlyRecord { due with state := .passed, missCause := none }) hempty)
    hdebts forward coils

/-- The count that brings a record within its horizon too slow to plan (R82). -/
theorem State.handCount_held {bar : Bar} (hbar : res.route.destination.bar? = some bar)
    (hslow : v.belt.v < v.settings.vmin)
    (hshort : atOrPast v.belt.tc (posPlus due.pArr (v.settings.trim bar)) = false) (forward : Bool)
    (coils : Coils) : v.handCount forward coils = v.onlyRecord due := by
  have hhorizon := State.horizonAll_within hrecords hmark (decide_eq_true hnear)
  rw [hdue, (v.holds_onlyRecord due).dealReady_bar hready hres hbar,
    State.planPass_held (s := v.onlyRecord due) hslow hshort] at hhorizon
  exact State.handCount_of_horizon hhorizon rfl (Bool.and_eq_false_iff.mpr (.inr hedge))
    (State.unreached_of_empty (s := v.onlyRecord due) hempty) hdebts forward coils

/-- The count that brings a record within its horizon and plans it (R91, R92). -/
theorem State.handCount_plans {bar : Bar} (hbar : res.route.destination.bar? = some bar)
    (hplans : (v.onlyRecord due).Plans due res.route bar) (forward : Bool) (coils : Coils) :
    ∃ st after, v.handCount forward coils = { v with store := st, banks := after } ∧
      ∀ t : State, t.store = st → t.banks = after → (v.onlyRecord due).PlansTo due res.route bar t := by
  obtain ⟨st, after, hpass, ⟨q, hq, hstays⟩, hresult, hdebt, htrigger⟩ :=
    State.planPass_banks (u := v.onlyRecord due) rfl hedge hplans
  have hhorizon := State.horizonAll_within hrecords hmark (decide_eq_true hnear)
  rw [hdue, (v.holds_onlyRecord due).dealReady_bar hready hres hbar, hpass] at hhorizon
  refine ⟨st, after, ?_, hresult⟩
  refine State.handCount_of_horizon hhorizon hq ?_ (fun b e he _ => ?_) (fun b => ?_) forward coils
  · exact Bool.and_eq_false_iff.mpr (.inr hstays)
  · rw [htrigger b (hempty b) e he]
    exact hplans.ahead
  · exact (hdebt b).trans (hdebts b)

end Count

end Sys2Proof.Machine

namespace Sys2Proof.Laws.Planner

open Sys2Proof Sys2Proof.Machine

/-- Settles O31: a held record's pass at a sample result by result, and the planning event of a count. -/
theorem heldRecordAtSample : Obligations.HeldRecordAtSample := by
  unfold Obligations.HeldRecordAtSample
  refine ⟨fun coils r res bar s hs hlimit hdebts hrecords hstate hreached hres hbar hedge => ?_,
    fun a b forward coils r res s hs hdecode hnote hdebts hempty hrecords hmark hmiss hres => ?_⟩
  · intro u atBar plan
    have hexec := execSpeedSample_held hs hlimit hrecords hstate hreached hres hbar coils
    have hholds : u.Holds [] r [] := .of_single hrecords
    have hstill : u.edgePassed r = false := hedge
    have hquiet : ∀ st, ({ u with store := st } : State).purgeTests coils = { u with store := st } :=
      fun st => State.purgeTests_of_noDebts (s := { u with store := st }) hdebts coils
    rw [hexec]
    refine ⟨fun hslow hshort => ?_, fun hslow hat => ?_, fun hspeed hlate => ?_,
      fun hspeed hahead hnone => ?_, fun hspeed hahead hparts => ?_, ?_⟩
    · rw [State.planPass_held hslow hshort]
      exact congrArg (fun t => Host.Outcome.next (closeEvent s t)) (hquiet u.store)
    · rw [hholds.planPass_slow hstill hslow hat, hquiet]
      rfl
    · rw [hholds.planPass_late hstill hspeed hlate, hquiet]
      rfl
    · rw [hholds.planPass_unavailable hstill hspeed hahead hnone, hquiet]
      rfl
    · obtain ⟨st, after, hpass, -, hplans, hkept, -⟩ :=
        State.planPass_banks (u := s.takeSample) hrecords hstill ⟨hspeed, hahead, hparts⟩
      have hnone : ({ u with store := st, banks := after } : State).noDebts :=
        fun b => (hkept b).trans (hdebts b)
      rw [hpass, State.purgeTests_of_noDebts hnone]
      refine ⟨_, rfl, hplans _ (closeEvent_store _ _) (closeEvent_banks _ _), ?_, closeEvent_run _ _⟩
      exact State.SameOffPlant.trans (t := { u with store := st, banks := after }) rfl (.closeEvent _ _)
    · have hpad : u.padOf res.route =
          res.route.leadPad + (if s.belt.slip then s.settings.slipMargin else 0) := by
        show (if s.belt.slip then _ else _) = _
        split <;> rfl
      show posPlus r.pArr (s.settings.trim bar - u.padOf res.route - plan.lead) = _
      rw [hpad]
      congr 1
      omega
  · obtain ⟨belt, flags, hcounted, htc, hv, hshed⟩ := State.noteCount_eq hnote a b forward
    have hexec : exec (.encoderEdge a b coils) s = .next (closeEvent s
        (({ s with belt := belt, flags := flags } : State).handCount forward coils)) := by
      refine (execEncoderEdge_powered hs a b coils).trans ?_
      rw [hdecode]
      dsimp only
      rw [State.takeLevels_count, hcounted]
    have hside := BankSide.handCount { s with belt := belt, flags := flags } forward coils
    have hbelt : (closeEvent s (({ s with belt := belt, flags := flags } : State).handCount forward
        coils)).belt = belt := by
      rw [closeEvent_belt, hside.belt]
    have hdue := State.due_resolved (s := { s with belt := belt, flags := flags }) hres
    refine ⟨_, hexec, ?_⟩
    rw [hbelt, closeEvent_store, closeEvent_banks]
    intro tc u due
    have htc' : belt.tc = tc := htc
    have hwork : r.state.terminal = false := by
      rcases hres with ⟨hstate, -⟩ | ⟨hstate, -⟩ <;> rw [hstate] <;> rfl
    refine ⟨htc, fun hfar => ?_, fun hnear hedge => ⟨fun hpass => ?_, fun bar hbar =>
      ⟨fun hslow hshort => ?_, fun hspeed hahead hparts => ?_⟩⟩⟩
    · rw [State.handCount_beyond (v := { s with belt := belt, flags := flags }) hrecords hwork
        (by rw [htc]; exact hfar) hempty hdebts]
      exact ⟨rfl, rfl⟩
    · have hpassed : ({ due with state := .passed, missCause := none } : Record) =
          { due with state := .passed } := by
        rw [← hmiss]
      rw [State.handCount_passes (v := { s with belt := belt, flags := flags }) hrecords hmark
        (by rw [htc]; exact hnear) hdue rfl rfl (by unfold State.edgePassed; rw [htc]; exact hedge) hdebts
        hempty hpass, hpassed]
      exact ⟨rfl, rfl⟩
    · rw [State.handCount_held (v := { s with belt := belt, flags := flags }) hrecords hmark
        (by rw [htc]; exact hnear) hdue rfl rfl (by unfold State.edgePassed; rw [htc]; exact hedge) hdebts
        hempty hbar (by rw [hv]; exact hslow) (by rw [htc]; exact hshort)]
      exact ⟨rfl, rfl⟩
    · obtain ⟨st, after, hcount, hplans⟩ := State.handCount_plans
        (v := { s with belt := belt, flags := flags }) hrecords hmark (by rw [htc]; exact hnear) hdue rfl rfl
        (by unfold State.edgePassed; rw [htc]; exact hedge) hdebts hempty hbar
        ⟨by rw [← hv] at hspeed; exact hspeed, by rw [← htc'] at hahead; exact hahead, hparts⟩ forward coils
      refine State.PlansTo.of_flags (u := u) (flags := flags) (records := [due]) hshed (hplans _ ?_ ?_)
      · rw [closeEvent_store, hcount]
      · rw [closeEvent_banks, hcount]

end Sys2Proof.Laws.Planner
